-- ==== Sys2Proof/Word.lean ====
section
/-!
DEFINITION. The word types of the Maelulo and their plainest arithmetic.
-/
namespace Sys2Proof

/-- A byte. -/
abbrev Byte := BitVec 8

/-- A 64-bit scalar register value (R36). -/
abbrev Word := BitVec 64

/-- A 1,024-bit vector register value; lane i is bits [32i+31:32i] (R36). -/
abbrev VWord := BitVec 1024

/-- A vector lane (R132). -/
abbrev Lane := BitVec 32

/-- Bits [lo+n-1:lo] of a word, as a number. -/
def fieldNat {w : Nat} (x : BitVec w) (lo n : Nat) : Nat := x.toNat / 2 ^ lo % 2 ^ n

/-- Bit i of a word. -/
def bitAt {w : Nat} (x : BitVec w) (i : Nat) : Bool := x.getLsbD i

/-- The number 1 for true and 0 for false. -/
def natOfBool (b : Bool) : Nat := if b then 1 else 0

end Sys2Proof
end

