-- ==== Sys2Proof/Config.lean ====
section
/-!
DEFINITION. What the implementation fixes and the spec leaves open: free values, which are constants without a body,
so that nothing can be proved about which value they have.
-/
namespace Sys2Proof.Config

/-- The order of things that the spec leaves open: which enabled move comes next, and every other choice the spec
allows. It is applied to the counter State.choices (assumption 3). -/
opaque choice : Nat → Nat

/-- A value the spec does not state, for a fresh number each time (assumption 4). -/
opaque freeWord : Nat → Word

/-- The multiple of 8 that a tile's TCYC starts from after a reset of its die, divided by 8 (R10, assumption 5). -/
opaque tcycBase : Nat → Nat

/-- TRAP_INFO of ACCESS_DENIED for an SWR of REPORT_Q that names a queue outside the partition, a function of the
value written: the spec states none (R52, assumption 6). -/
opaque reportQInfo : Word → Word

/-- The 32-byte secret of a ticket source after so many resets: drawn at random, read by no agent (R234, assumption 9). -/
opaque secret : Nat → Nat → BitVec 256

/-- Whether a sum that is exactly zero is negative under stochastic rounding, a function of the operands: the spec states
the sign for the other modes only (R110, assumption 10). -/
opaque srZero : Nat → Nat → Bool

/-- Whether the keys that stage-1 firmware carries verify an Ed448 signature over a digest (R35, R409, assumption 11). -/
opaque stage1Verifies : List Byte → List Byte → Bool

/-- Whether the vendor key fused into the die verifies an Ed448 signature over a digest (R409, assumption 11). -/
opaque vendorVerifies : List Byte → List Byte → Bool

/-- The Ed448 signature of the device identity key over a digest (R375, R406, R413, assumption 11). -/
opaque sign : List Byte → List Byte

/-- The device identity public key (R413, assumption 11). -/
opaque identityKey : List Byte

/-- The public key of the device for its session of a number, and the X448 secret that it shares with a host key (R375,
assumption 11). -/
opaque sessionKey : Nat → List Byte
opaque sharedSecret : Nat → List Byte → List Byte

/-- Copy A (0) and copy B (1) of the stage-1 firmware, the system programs' image, the management firmware, and their signatures: 0 and 1
of the copies, 2 of the system programs, 3 of the management firmware (R409, R410, assumption 11). -/
opaque firmware : Nat → List Byte
opaque firmwareSignature : Nat → List Byte
opaque systemImage : List Byte
opaque managementFirmware : List Byte

/-- The virtual circuit, of 16, that carries a tile's traffic to a destination on another die: it is fixed when the placement is
configured, and the spec does not say to which (R320, assumption 101). -/
opaque circuit : Nat → Nat → Nat

/-- The peer's access that a flit of 128 bytes carries, if it carries one: the peer's package; 0 load, 1 store, 2 atomic, 3 compare and
swap; the atomic operation by its number; the physical address, the bytes, the data and the expected value. The spec does not
give the content of flits (R414, R415, assumption 8). -/
opaque peerRequest : BitVec 1024 → Option (Nat × Nat × Nat × Nat × Nat × Nat × Nat)

/-- The flit that answers a peer's access with a value (R414, R415, assumption 8). -/
opaque peerAnswer : BitVec 1024 → Nat → BitVec 1024

/-- What a flit of the all-reduce carries, if it is one: whether its lanes are of a result, the group, the contributor and the lanes; and
the flit that carries them. The spec does not give the content of flits (R414, R416, assumption 8). -/
opaque reducePart : BitVec 1024 → Option (Bool × Nat × Nat × List (BitVec 32))
opaque reduceFlit : Bool → Nat → Nat → List (BitVec 32) → BitVec 1024

/-- The versions that the device lists for an interface: for each major the highest minor (R417, assumption 12). -/
opaque versions : Nat → List (Nat × Nat)

end Sys2Proof.Config
end

