-- ==== Sys2Proof/Syntax.lean ====
section
/-!
DEFINITION. The syntax: the tail forms of a Soryx instruction and one constructor of Instr for every row of the
opcode table. The rows that are device and host events carry what names the event.
-/
namespace Sys2Proof

/-- An S tail (R55). -/
structure STail where
  d : BitVec 6
  a : BitVec 6
  b : BitVec 6
  ta : Bool
  tb : Bool
  mod : BitVec 2
  deriving DecidableEq, Repr

/-- An L tail with its head's d (R56). -/
structure LTail where
  d : BitVec 6
  fd : BitVec 2
  a : BitVec 6
  fa : BitVec 2
  b : BitVec 6
  fb : BitVec 2
  ta : Bool
  tb : Bool
  k : BitVec 3
  sub : BitVec 9
  deriving DecidableEq, Repr

/-- A W tail with its head's d (R57). -/
structure WTail where
  d : BitVec 6
  a : BitVec 6
  fa : BitVec 2
  ta : Bool
  k : BitVec 3
  sub : BitVec 4
  imm : BitVec 32
  deriving DecidableEq, Repr

/-- An X tail with its head's d (R58). -/
structure XTail where
  d : BitVec 6
  imm : BitVec 48
  deriving DecidableEq, Repr

/-- The tail of a major that accepts both the L and the W form (R65, R66). -/
inductive LWTail where
  | l (t : LTail)
  | w (t : WTail)
  deriving DecidableEq, Repr

/-- An S tail means what the L tail means with file codes 0b00, k = 0 and sub = mod (R55). -/
def STail.toL (t : STail) : LTail :=
  { d := t.d, fd := 0, a := t.a, fa := 0, b := t.b, fb := 0, ta := t.ta, tb := t.tb, k := 0, sub := t.mod.setWidth 9 }

/-- The format pairs of MRULE, one major each (R65, R261). -/
inductive Pair where
  | e4e4 | e4e5 | e5e4 | e5e5 | bfbf | hfhf | i8i8 | e4q4 | f4f4
  deriving DecidableEq, Repr

/-- A strand of a tile (R2, R36). -/
structure Who where
  tile : Nat
  strand : Nat
  deriving DecidableEq, Repr

/-- A host datagram as it arrives at the network service (R374): header, payload and tag. -/
structure Frame where
  bytes : List Byte
  deriving DecidableEq, Repr

/-- A Limis flit as received: its sequence number, whether its CRC holds, and its 128 bytes (R414). -/
structure Flit where
  seq : Nat
  crcOk : Bool
  data : BitVec 1024
  deriving DecidableEq, Repr

/-- The steps of the device: one constructor per row of the opcode table. -/
inductive Instr where
  /-- R95: Does nothing and takes its slot. -/
  | nop
  /-- R76: S form: writes the value of a to d. -/
  | mov (t : STail)
  /-- R76: L form of MOV, reaching c, q and k files. -/
  | movL (t : LTail)
  /-- R76: S form: sets d EMPTY and leaves its value unchanged. -/
  | movE (t : STail)
  /-- R76: L form of MOV.E, reaching c and k destinations. -/
  | movEL (t : LTail)
  /-- R77: Writes the sign-extended 48-bit immediate to a g register. -/
  | movi (t : XTail)
  /-- R72: S form: writes a + b modulo 2^n. -/
  | add (t : STail)
  /-- R72: L form of ADD with file codes and mask. -/
  | addL (t : LTail)
  /-- R72: S form: writes a - b modulo 2^n. -/
  | sub (t : STail)
  /-- R72: L form of SUB. -/
  | subL (t : LTail)
  /-- R78: Writes a + sign-extended imm32 to a g register. -/
  | addi (t : WTail)
  /-- R72: S form: writes the low n bits of a × b. -/
  | mul (t : STail)
  /-- R72: L form of MUL. -/
  | mulL (t : LTail)
  /-- R73: S form: writes the high 64 bits of the 128-bit product. -/
  | mulh (t : STail)
  /-- R73: L form of MULH. -/
  | mulhL (t : LTail)
  /-- R74: S form: LONG division whose quotient arrives 12–40 cycles later. -/
  | div (t : STail)
  /-- R74: L form of DIV. -/
  | divL (t : LTail)
  /-- R74: S form: LONG remainder arriving 12–40 cycles later. -/
  | rem (t : STail)
  /-- R74: L form of REM. -/
  | remL (t : LTail)
  /-- R72: S form: bitwise AND. -/
  | and (t : STail)
  /-- R72: L form of AND. -/
  | andL (t : LTail)
  /-- R72: S form: bitwise OR. -/
  | or (t : STail)
  /-- R72: L form of OR. -/
  | orL (t : LTail)
  /-- R72: S form: bitwise XOR. -/
  | xor (t : STail)
  /-- R72: L form of XOR. -/
  | xorL (t : LTail)
  /-- R72: S form: a AND NOT b. -/
  | andn (t : STail)
  /-- R72: L form of ANDN. -/
  | andnL (t : LTail)
  /-- R72: S form: shift left by b mod n. -/
  | shl (t : STail)
  /-- R72: L form of SHL. -/
  | shlL (t : LTail)
  /-- R72: S form: logical shift right. -/
  | shr (t : STail)
  /-- R72: L form of SHR. -/
  | shrL (t : LTail)
  /-- R72: S form: arithmetic shift right. -/
  | sar (t : STail)
  /-- R72: L form of SAR. -/
  | sarL (t : LTail)
  /-- R72: S form: rotate left. -/
  | rot (t : STail)
  /-- R72: L form of ROT. -/
  | rotL (t : LTail)
  /-- R78: Shift or rotate by an immediate count. -/
  | shi (t : WTail)
  /-- R78: AND, OR, XOR or ANDN with a sign-extended immediate. -/
  | logi (t : WTail)
  /-- R75: S form: counts leading zeros. -/
  | clz (t : STail)
  /-- R75: L form of CLZ. -/
  | clzL (t : LTail)
  /-- R75: S form: counts trailing zeros. -/
  | ctz (t : STail)
  /-- R75: L form of CTZ. -/
  | ctzL (t : LTail)
  /-- R75: S form: counts set bits. -/
  | popc (t : STail)
  /-- R75: L form of POPC. -/
  | popcL (t : LTail)
  /-- R72: S form: signed minimum. -/
  | min (t : STail)
  /-- R72: L form of MIN. -/
  | minL (t : LTail)
  /-- R72: S form: signed maximum. -/
  | max (t : STail)
  /-- R72: L form of MAX. -/
  | maxL (t : LTail)
  /-- R72: S form: unsigned minimum. -/
  | minu (t : STail)
  /-- R72: L form of MINU. -/
  | minuL (t : LTail)
  /-- R72: S form: unsigned maximum. -/
  | maxu (t : STail)
  /-- R72: L form of MAXU. -/
  | maxuL (t : LTail)
  /-- R81: Writes a or b according to bit 0 of the named k register. -/
  | sel (t : LTail)
  /-- R80: S form: writes 1 or 0 by a condition on a and b. -/
  | cmp (t : STail)
  /-- R80: L form of CMP, with .w and a k destination. -/
  | cmpL (t : LTail)
  /-- R80: Compares a with a sign-extended immediate. -/
  | cmpi (t : WTail)
  /-- R82: Extracts a bit field, zero- or sign-extended. -/
  | ext (t : WTail)
  /-- R82: Inserts the low bits of a into a field of d. -/
  | ins (t : WTail)
  /-- R75: S form: reverses byte order. -/
  | bswap (t : STail)
  /-- R75: L form of BSWAP. -/
  | bswapL (t : LTail)
  /-- R83: Forms a + (b or imm) << s without memory access. -/
  | lea (t : LWTail)
  /-- R84: Writes a pointer register's address and stride. -/
  | pset (t : LWTail)
  /-- R84: Adds an immediate to a pointer's address. -/
  | padd (t : WTail)
  /-- R84: Sets a pointer's stride. -/
  | paddSt (t : WTail)
  /-- R84: Reads a pointer register's 64-bit image. -/
  | pget (t : LTail)
  /-- R87: Jumps to an absolute IP. -/
  | j (t : XTail)
  /-- R87: S form: jumps to the IP in a. -/
  | jr (t : STail)
  /-- R87: L form of JR, a in g or c. -/
  | jrLForm (t : LTail)
  /-- R87: S form: writes the next IP to g15 and jumps to a. -/
  | jrLink (t : STail)
  /-- R87: L form of JR.L. -/
  | jrLinkLForm (t : LTail)
  /-- R87: Writes the next IP to g15 and jumps to an absolute IP. -/
  | call (t : XTail)
  /-- R87: Jumps to the IP in g15. -/
  | ret
  /-- R88: Branches relative when a condition on d and a holds, or always. -/
  | br (t : WTail)
  /-- R88: Branches relative when a is zero. -/
  | bz (t : WTail)
  /-- R88: Branches relative when a is nonzero. -/
  | bnz (t : WTail)
  /-- R89: Decrements a nonzero counter and branches while it stays nonzero. -/
  | loop (t : WTail)
  /-- R201: Branches on a k bit reduced by any or all over the gang. -/
  | gbr (t : WTail)
  /-- R90: Waits until strand n is stopped, then starts it at a target with g1 set. -/
  | spawn (t : WTail)
  /-- R92: Waits for owed LONG results, then stops the strand, releasing its blocks and leaving its crew. -/
  | stop
  /-- R96: Raises SOFTWARE with an immediate code. -/
  | trap (t : WTail)
  /-- R101: Returns from the handler to TRAP_PC and clears TRAP_CAUSE [7]. -/
  | tret
  /-- R96: Raises BREAKPOINT, or freezes the tile for a claiming debugger. -/
  | brk
  /-- R93: Reads a system register into a g register. -/
  | srd (t : WTail)
  /-- R93: Writes a system register that has no behaviour of its own. -/
  | swr (t : WTail)
  /-- R52: Writes RND_SEED, storing 1 for a value of 0. -/
  | swrRndSeed (t : WTail)
  /-- R52: Writes the crew's REPORT_Q, refusing a queue outside the partition. -/
  | swrReportQ (t : WTail)
  /-- R46: Writes the crew's TRAP_VEC, visible to traps from two cycles later. -/
  | swrTrapVec (t : WTail)
  /-- R93: Writes WAIT_LIMIT, applying from the next slot to parks in progress. -/
  | swrWaitLimit (t : WTail)
  /-- R94: Parks until earlier accesses of the chosen kinds are performed at the scope. -/
  | fence (t : LTail)
  /-- R174: Sends a write of another strand's register and receives a status. -/
  | rfill (t : LTail)
  /-- R174: Reads another strand's register, returning value or status. -/
  | rget (t : LTail)
  /-- R198: Posts a fusion request for a gang rectangle and parks until all members match. -/
  | gfuse (t : LTail)
  /-- R206: Dissolves the gang; each member resumes from its own store. -/
  | gsplit
  /-- R202: LONG reduction of a value over the gang or gang row. -/
  | gred (t : LTail)
  /-- R203: LONG exchange of a value with a neighbouring member. -/
  | gxch (t : LTail)
  /-- R181: Creates a crew with a claim word and join mask. -/
  | crew (t : LTail)
  /-- R183: S form: joins a live crew. -/
  | cjoin (t : STail)
  /-- R183: L form of CJOIN. -/
  | cjoinL (t : LTail)
  /-- R183: S form: leaves the crew, releasing the strand's blocks. -/
  | cjoinX (t : STail)
  /-- R183: L form of CJOIN.X. -/
  | cjoinXL (t : LTail)
  /-- R188: Requests n units of one class under the banker's check, waiting or trying. -/
  | acq (t : LWTail)
  /-- R189: Requests five class counts all or nothing. -/
  | acqm (t : LTail)
  /-- R194: Releases named units of one class. -/
  | rel (t : LWTail)
  /-- R194: Releases the units of a grant image. -/
  | relm (t : LTail)
  /-- R195: Reads holdings or remaining need. -/
  | hold (t : LTail)
  /-- R168: Loads 1–8 bytes from a local address. -/
  | ld (t : LWTail)
  /-- R168: Stores 1–8 bytes to a local address. -/
  | st (t : LWTail)
  /-- R165: Waits for a FULL tagged word, loads it and empties the tag unless .k. -/
  | ldf (t : LWTail)
  /-- R166: Waits for an EMPTY tagged word, writes it and sets FULL. -/
  | ste (t : LWTail)
  /-- R166: Writes a tagged word and sets FULL at once. -/
  | stf (t : LWTail)
  /-- R166: Remote conditional tagged store returning a status. -/
  | steG (t : LWTail)
  /-- R166: Posted remote tagged store. -/
  | stfG (t : LWTail)
  /-- R167: Reads whether a tag is FULL. -/
  | tagQ (t : LWTail)
  /-- R167: Sets a tag EMPTY. -/
  | tagE (t : LWTail)
  /-- R167: Sets a tag FULL. -/
  | tagF (t : LWTail)
  /-- R167: Translates a local address into its tile-window address. -/
  | tagWa (t : LWTail)
  /-- R169: LONG load from device memory by virtual address. -/
  | ldg (t : LWTail)
  /-- R169: Posted store to device memory. -/
  | stg (t : LWTail)
  /-- R171: Atomic read-modify-write returning the old value. -/
  | amo (t : LTail)
  /-- R171: Atomic compare-and-swap returning the old value. -/
  | cas (t : LTail)
  /-- R178: Waits for mirror stores, then swaps the active and shadow copies. -/
  | mflip
  /-- R240: Starts a fetch and returns a ticket. -/
  | ldt (t : LWTail)
  /-- R242: S form: redeems a ticket into a register. -/
  | rdm (t : STail)
  /-- R242: L form of RDM. -/
  | rdmL (t : LTail)
  /-- R242: S form: redeems a ticket into scratchpad. -/
  | rdms (t : STail)
  /-- R242: L form of RDMS. -/
  | rdmsL (t : LTail)
  /-- R246: S form: queries a ticket's entry state. -/
  | tkq (t : STail)
  /-- R246: L form of TKQ. -/
  | tkqL (t : LTail)
  /-- R246: S form: drops a ticket's entry. -/
  | tkd (t : STail)
  /-- R246: L form of TKD. -/
  | tkdL (t : LTail)
  /-- R214: Binds a q register to a port. -/
  | qbind (t : WTail)
  /-- R214: Unbinds a q register. -/
  | qunb (d : BitVec 6)
  /-- R216: S form: pushes an item with a chosen header and length 1–4. -/
  | qpush (t : STail)
  /-- R216: L form of QPUSH, lengths 1–8. -/
  | qpushL (t : LTail)
  /-- R222: S form: waits for and pops an item into registers. -/
  | qpop (t : STail)
  /-- R222: L form of QPOP, including .h with a pop record. -/
  | qpopL (t : LTail)
  /-- R222: S form: pops without waiting, returning a record. -/
  | qtry (t : STail)
  /-- R222: L form of QTRY. -/
  | qtryL (t : LTail)
  /-- R222: S form: reads the head item without removing it. -/
  | qpeek (t : STail)
  /-- R222: L form of QPEEK. -/
  | qpeekL (t : LTail)
  /-- R224: Pops from the highest-priority ready port among several. -/
  | qsel (t : LTail)
  /-- R226: Sends a cancel that removes unpopped items with a tag at every endpoint. -/
  | qcancel (t : LWTail)
  /-- R227: Reads port state. -/
  | qstat (t : LTail)
  /-- R225: S form: marks the item named by a pop record done. -/
  | qdone (t : STail)
  /-- R225: L form of QDONE. -/
  | qdoneL (t : LTail)
  /-- R225: S form: marks the strand's earliest outstanding item of the port done. -/
  | qdoneO (t : STail)
  /-- R225: L form of QDONE.O. -/
  | qdoneOL (t : LTail)
  /-- R352: Pushes a beacon item. -/
  | bcn (t : LTail)
  /-- R355: Waits for a cooperative cut, pushes the beacon on all outputs and freezes the tile. -/
  | bpass
  /-- R295: Waits for the ring's read slot to be filled and reads it as an acquire. -/
  | rawait (t : LTail)
  /-- R295: Waits for the read slot, unfills it and advances the read index. -/
  | rrel (t : LTail)
  /-- R295: Reads a ring's indexes and size. -/
  | rstat (t : LTail)
  /-- R296: Sets a barrier's expected arrivals and advances its phase. -/
  | barinit (t : LWTail)
  /-- R296: Arrives at a barrier as a release, waiting if the phase is full. -/
  | bararv (t : LTail)
  /-- R296: Adds expected bytes to a barrier. -/
  | barexp (t : LWTail)
  /-- R296: Waits while the barrier phase equals a given number, then acquires. -/
  | barwait (t : LTail)
  /-- R283: Reads a 128-byte command image and pushes it to a CMD queue. -/
  | cpy (t : LTail)
  /-- R297: Puts a vector register in stream mode over a pattern. -/
  | sbind (t : LTail)
  /-- R297: Ends stream mode, keeping the last strip. -/
  | sunb (d : BitVec 6)
  /-- R257: Queues a copy of scratchpad units into an operand slot. -/
  | mfill (t : LTail)
  /-- R257: Queues a copy of scale words into a slot's side area. -/
  | mscl (t : LTail)
  /-- R263: Configures a rule on an accumulator for a format pair. -/
  | mrule (p : Pair) (t : LTail)
  /-- R269: Stages mask-tag mode with a mask slot. -/
  | mrulxTags (t : LTail)
  /-- R269: Stages a fill value. -/
  | mrulxFill (t : LTail)
  /-- R269: Stages feedback into a slot in a format. -/
  | mrulxFb (t : LTail)
  /-- R269: Turns feedback off in the stage and the active rule. -/
  | mrulxNofb (t : LTail)
  /-- R268: Writes 64 bits of sub-block tags into the stage. -/
  | mtag (t : LTail)
  /-- R272: Waits for the accumulator to be FULL or its completion count to change. -/
  | mwait (d : BitVec 6)
  /-- R272: Waits for the accumulator to be CLEAR and not busy. -/
  | mwaitClr (d : BitVec 6)
  /-- R273: Deactivates the rule and queues the accumulator region to scratchpad. -/
  | mdrain (t : LTail)
  /-- R274: Clears an accumulator and deactivates its rule. -/
  | mclrAcc (d : BitVec 6)
  /-- R274: Empties an operand slot and drops its sticky flag. -/
  | mclrSlot (d : BitVec 6)
  /-- R275: S form: reads accumulator, slot or array state. -/
  | mstat (t : STail)
  /-- R275: L form of MSTAT. -/
  | mstatL (t : LTail)
  /-- R278: Sums an accumulator along a gang chain. -/
  | mred (t : LTail)
  /-- R154: Vector no-operation. -/
  | vnop
  /-- R154: S form: copies lanes. -/
  | vmov (t : STail)
  /-- R154: L form of VMOV, through pointers and queues. -/
  | vmovL (t : LTail)
  /-- R154: Broadcasts a lane, word, item word, k value or immediate. -/
  | vbcast (t : LWTail)
  /-- R140: S form: FP32 add per lane. -/
  | vadd (t : STail)
  /-- R140: L form of VADD. -/
  | vaddL (t : LTail)
  /-- R140: S form: FP32 subtract. -/
  | vsub (t : STail)
  /-- R140: L form of VSUB. -/
  | vsubL (t : LTail)
  /-- R140: S form: FP32 multiply. -/
  | vmul (t : STail)
  /-- R140: L form of VMUL. -/
  | vmulL (t : LTail)
  /-- R140: S form: fused x × y + z. -/
  | vfma (t : STail)
  /-- R140: L form of VFMA. -/
  | vfmaL (t : LTail)
  /-- R140: S form: fused x × y - z. -/
  | vfms (t : STail)
  /-- R140: L form of VFMS. -/
  | vfmsL (t : LTail)
  /-- R140: S form: fused z - x × y. -/
  | vfnma (t : STail)
  /-- R140: L form of VFNMA. -/
  | vfnmaL (t : LTail)
  /-- R140: S form: FP32 minimum. -/
  | vmin (t : STail)
  /-- R140: L form of VMIN. -/
  | vminL (t : LTail)
  /-- R140: S form: FP32 maximum. -/
  | vmax (t : STail)
  /-- R140: L form of VMAX. -/
  | vmaxL (t : LTail)
  /-- R140: S form: clears the sign bit. -/
  | vabs (t : STail)
  /-- R140: L form of VABS. -/
  | vabsL (t : LTail)
  /-- R140: S form: inverts the sign bit. -/
  | vneg (t : STail)
  /-- R140: L form of VNEG. -/
  | vnegL (t : LTail)
  /-- R140: S form: LONG FP32 division. -/
  | vdiv (t : STail)
  /-- R140: L form of VDIV. -/
  | vdivL (t : LTail)
  /-- R140: S form: LONG square root. -/
  | vsqrt (t : STail)
  /-- R140: L form of VSQRT. -/
  | vsqrtL (t : LTail)
  /-- R140: S form: LONG reciprocal. -/
  | vrcp (t : STail)
  /-- R140: L form of VRCP. -/
  | vrcpL (t : LTail)
  /-- R140: S form: LONG reciprocal square root. -/
  | vrsq (t : STail)
  /-- R140: L form of VRSQ. -/
  | vrsqL (t : LTail)
  /-- R140: S form: LONG 2^x. -/
  | vexp2 (t : STail)
  /-- R140: L form of VEXP2. -/
  | vexp2L (t : LTail)
  /-- R140: S form: LONG log2. -/
  | vlog2 (t : STail)
  /-- R140: L form of VLOG2. -/
  | vlog2L (t : LTail)
  /-- R140: S form: LONG tanh. -/
  | vtanh (t : STail)
  /-- R140: L form of VTANH. -/
  | vtanhL (t : LTail)
  /-- R143: FP32 compare into a k register. -/
  | vcmp (t : LTail)
  /-- R144: Classifies FP32 lanes. -/
  | vclass (t : LTail)
  /-- R145: Selects lanes from a or b by a k register. -/
  | vselk (t : LTail)
  /-- R142: S form: integer add, wrapping or saturating. -/
  | viadd (t : STail)
  /-- R142: L form of VIADD. -/
  | viaddL (t : LTail)
  /-- R142: S form: integer subtract. -/
  | visub (t : STail)
  /-- R142: L form of VISUB. -/
  | visubL (t : LTail)
  /-- R142: S form: integer multiply, low or high. -/
  | vimul (t : STail)
  /-- R142: L form of VIMUL. -/
  | vimulL (t : LTail)
  /-- R142: S form: integer multiply-add into d. -/
  | vimad (t : STail)
  /-- R142: L form of VIMAD. -/
  | vimadL (t : LTail)
  /-- R142: S form: lane AND. -/
  | vand (t : STail)
  /-- R142: L form of VAND. -/
  | vandL (t : LTail)
  /-- R142: S form: lane OR. -/
  | vor (t : STail)
  /-- R142: L form of VOR. -/
  | vorL (t : LTail)
  /-- R142: S form: lane XOR. -/
  | vxor (t : STail)
  /-- R142: L form of VXOR. -/
  | vxorL (t : LTail)
  /-- R142: S form: lane shift left. -/
  | vshl (t : STail)
  /-- R142: L form of VSHL. -/
  | vshlL (t : LTail)
  /-- R142: S form: lane logical shift right. -/
  | vshr (t : STail)
  /-- R142: L form of VSHR. -/
  | vshrL (t : LTail)
  /-- R142: S form: lane arithmetic shift right. -/
  | vsar (t : STail)
  /-- R142: L form of VSAR. -/
  | vsarL (t : LTail)
  /-- R142: S form: integer minimum. -/
  | vimin (t : STail)
  /-- R142: L form of VIMIN. -/
  | viminL (t : LTail)
  /-- R142: S form: integer maximum. -/
  | vimax (t : STail)
  /-- R142: L form of VIMAX. -/
  | vimaxL (t : LTail)
  /-- R143: Integer compare into a k register. -/
  | vicmp (t : LTail)
  /-- R147: Converts lanes between FP32 and another format. -/
  | vcvt (t : LTail)
  /-- R150: Computes an S20 block scale or quantised codes. -/
  | vqnt (t : LTail)
  /-- R149: LONG lane maximum across the gang row. -/
  | vqxmax (t : LTail)
  /-- R148: Packs lanes into narrow elements. -/
  | vpack (t : LTail)
  /-- R148: Unpacks narrow elements into lanes. -/
  | vunpk (t : LTail)
  /-- R151: S form: tree sum of active lanes. -/
  | vrsum (t : STail)
  /-- R151: L form of VRSUM, including integer sum. -/
  | vrsumL (t : LTail)
  /-- R151: S form: maximum of active lanes. -/
  | vrmax (t : STail)
  /-- R151: L form of VRMAX. -/
  | vrmaxL (t : LTail)
  /-- R151: S form: minimum of active lanes. -/
  | vrmin (t : STail)
  /-- R151: L form of VRMIN. -/
  | vrminL (t : LTail)
  /-- R152: Running sum or maximum along the lanes. -/
  | vscan (t : LTail)
  /-- R153: Ranks participating lanes by value, writing values or indices. -/
  | vtopk (t : LTail)
  /-- R154: Permutes lanes by an index vector. -/
  | vshuf (t : LTail)
  /-- R154: Rotates lanes. -/
  | vrot (t : LWTail)
  /-- R154: Broadcasts lane n. -/
  | vextr (t : LWTail)
  /-- R154: Inserts a_0 into lane n. -/
  | vins (t : LWTail)
  /-- R154: Compresses active lanes to the front. -/
  | vcomp (t : LTail)
  /-- R154: Expands lanes into active positions. -/
  | vexpd (t : LTail)
  /-- R155: Loads 128, 64 or 32 bytes of scratchpad into a register. -/
  | vld (t : LWTail)
  /-- R155: Stores active lanes to scratchpad. -/
  | vst (t : LWTail)
  /-- R156: Strided load of lanes. -/
  | vlds (t : LTail)
  /-- R157: Gathers lanes by offsets. -/
  | vgath (t : LTail)
  /-- R157: Scatters lanes by offsets. -/
  | vscat (t : LTail)
  /-- R146: Combines k registers bit by bit. -/
  | kop (t : LTail)
  /-- R146: Counts or locates set bits of a k register. -/
  | kcnt (t : LTail)
  /-- R146: S form: writes lane indices. -/
  | viota (t : STail)
  /-- R146: L form of VIOTA. -/
  | viotaL (t : LTail)
  /-- R146: Writes per lane the count of set k bits below it. -/
  | viotaK (t : LTail)
  /-- R18: A park that exceeds WAIT_LIMIT at a slot where its condition still fails takes a precise trap. -/
  | waitTimeout (w : Who)
  /-- R163: An engine or remote request refused a bank for 16 cycles takes it, and the strand forfeits its slot. -/
  | bankStarvationGrant (tile bank : Nat)
  /-- R43: A LONG result arrives, writes its destination and sets it FULL. -/
  | longResultArrival (f : Nat)
  /-- R48: A stopped strand's registers become drowsy after 1,024 cycles without access. -/
  | registersDrowsy (w : Who)
  /-- R175: A remote fill reaches its target register, is checked and written. -/
  | rfillArrival (f : Nat)
  /-- R175: A waiting RFILL.E writes its target once the register becomes EMPTY. -/
  | rfillEFill (f : Nat)
  /-- R175: A remote read reaches its target tile and returns the register's value and status. -/
  | rgetArrival (f : Nat)
  /-- R196: A quarantined unit returns to the pool when its last outstanding access ends, as a release. -/
  | quarantineReturn (tile cls unit : Nat)
  /-- R169: A posted store is performed at its target. -/
  | postedStorePerformed (f : Nat)
  /-- R173: A remote store or tag operation acts on its target tile, even when frozen. -/
  | remoteStoreArrival (f : Nat)
  /-- R365: A translation walk ends, mapping the page, parking on a lazy page or finding it unregistered. -/
  | tlbWalkEnd (die part page : Nat)
  /-- R240: An LDT request reaches its source and allocates an entry, answers null or waits. -/
  | ldtRequestArrival (f : Nat)
  /-- R237: Fetched data is stored in its entry, making it READY or starting delivery. -/
  | fetchDataStored (f : Nat)
  /-- R241: A redeem reaches its source and is answered OK, STALE, DOUBLE or FORGED. -/
  | redeemPresentation (f : Nat)
  /-- R244: A redeem's answer reaches the tile, committing or trapping the held bundle or filling the status. -/
  | redeemAnswer (f : Nat)
  /-- R237: A redeem's delivery completes and the entry becomes FREE with its generation advanced. -/
  | deliveryComplete (f : Nat)
  /-- R246: A query reaches the source and returns the entry state. -/
  | tkqPresentation (f : Nat)
  /-- R246: A drop reaches the source and frees a FETCHING or READY entry. -/
  | tkdPresentation (f : Nat)
  /-- R247: A retirement notice frees the owner's FETCHING and READY entries at a source. -/
  | retirementNotice (f : Nat)
  /-- R248: A source above its high-water mark frees its oldest aged READY entry and reports it. -/
  | orphanReclaim (kind source : Nat)
  /-- R218: A pushed copy arrives at an endpoint, is stored and takes an ordinal. -/
  | itemStored (f : Nat)
  /-- R226: A cancel arrives at an endpoint and removes matching unpopped items. -/
  | cancelArrival (f : Nat)
  /-- R229: A copy fails at an endpoint, which is marked BROKEN and the queue FAULTED with an MC_PARTIAL report. -/
  | endpointFailure (queue endpoint : Nat)
  /-- R353: A beacon copy reaches an endpoint and is stored, closing the port, or is discarded. -/
  | beaconArrival (f : Nat)
  /-- R354: A cut-ready tile with a forced beacon freezes at the next bundle boundary. -/
  | forcedCutFreeze (tile : Nat)
  /-- R354: Hardware pushes the forced beacon on each output port once admitted. -/
  | beaconForward (tile port : Nat)
  /-- R296: A phase completes when arrivals equal the expectation and bytes reach zero. -/
  | barrierPhaseComplete (tile n : Nat)
  /-- R282: An engine pops its next command and checks it. -/
  | engineCommandPop (e : Nat)
  /-- R286: An engine performs one element's access, counting barrier bytes. -/
  | engineElement (e : Nat)
  /-- R289: An engine waiting for a slot, room, refresh or lazy page resumes. -/
  | engineWaitEnd (e : Nat)
  /-- R290: A command ends with a status, with a report where due. -/
  | commandEnd (e : Nat)
  /-- R294: The ending command's status is written into its completion ring once a slot is free. -/
  | ringWrite (e : Nat)
  /-- R298: A prefetched strip lands in a streamed register. -/
  | streamStripLand (f : Nat)
  /-- R300: A weight-store bank's refresh window ends and waiting reads are performed. -/
  | refreshWindowEnd (die bank : Nat)
  /-- R259: The matrix path starts the next queued request. -/
  | pathRequestStart (tile : Nat)
  /-- R258: A fill request completes, making the slot FULL if it was the last. -/
  | pathRequestComplete (tile : Nat)
  /-- R264: The array chooses the next ready rule or feedback write and starts it. -/
  | firingStart (tile : Nat)
  /-- R265: A firing ends, emptying non-sticky slots and advancing the count. -/
  | firingEnd (tile : Nat)
  /-- R271: A feedback write finishes, filling the target slot and re-arming the rule. -/
  | feedbackWriteEnd (tile : Nat)
  /-- R273: The last drained byte is written and the accumulator becomes CLEAR. -/
  | drainComplete (tile : Nat)
  /-- R278: A chain member has sent its part and its accumulator becomes CLEAR. -/
  | mredPartSent (f : Nat)
  /-- R278: The last chain member's sum is complete and its accumulator FULL. -/
  | mredComplete (f : Nat)
  /-- R348: The supervisor places eligible heads, reserves for refused heads and back-fills. -/
  | schedulingPass
  /-- R346: PLACING writes images, attachments, rings and parameters and starts strands, or fails. -/
  | placementLoad (rcb : Nat)
  /-- R346: Once the placement's engine commands end, usage is released and the notify item pushed. -/
  | drainingComplete (rcb : Nat)
  /-- R385: With all placements frozen, replaced tiles are reset and reloaded and the region thawed. -/
  | cutActionReplace (rgn : Nat)
  /-- R359: A frozen placement is quiesced, saved and returned to QUEUED. -/
  | cutActionPreempt (rgn : Nat)
  /-- R359: A frozen placement stays FROZEN for the debugger. -/
  | cutActionStop (rgn : Nat)
  /-- R359: A frozen placement is quiesced, saved and thawed. -/
  | cutActionCheckpoint (rgn : Nat)
  /-- R359: When no LONG result, path request, firing or MRED remains, the context save proceeds. -/
  | quiesceEnd (rgn : Nat)
  /-- R368: Removes a merge entry so its faulters repeat translation. -/
  | mapDone (die part : Nat) (page : Word)
  /-- R368: Removes a merge entry and refuses its faulters with PAGE_REFUSED. -/
  | refusePage (die part : Nat) (page : Word)
  /-- R370: Removes a page from the die's cache and TLBs. -/
  | invalidatePage (die part : Nat) (page : Word) (reply : Nat)
  /-- R370: After old-entry accesses are performed, the page is pushed to the reply queue. -/
  | invalidateReply (f : Nat)
  /-- R368: Other translation commands are discarded and counted. -/
  | unknownTranslationCommand (die cmd : Nat)
  /-- R372: Allocator request for pinned memory, replied with a handle. -/
  | allocRequest (die queue ordinal : Nat) (w : List Word)
  /-- R372: Allocator request to free a handle. -/
  | freeRequest (die queue ordinal : Nat) (w : List Word)
  /-- R373: A failed system service is restarted and its pending requests answered SERVICE_LOST. -/
  | serviceRestart (tile : Nat)
  /-- R375: Opens a session with key agreement and version negotiation. -/
  | hostHello (fr : Frame)
  /-- R377: Registers memory pinned or lazy. -/
  | hostRegister (fr : Frame)
  /-- R377: Unregisters memory after invalidation. -/
  | hostUnregister (fr : Frame)
  /-- R377: Submits a placement record. -/
  | hostPlace (fr : Frame)
  /-- R377: Requests a cut of a region. -/
  | hostBeacon (fr : Frame)
  /-- R377: Reads device memory. -/
  | hostRead (fr : Frame)
  /-- R377: Writes device memory. -/
  | hostWrite (fr : Frame)
  /-- R377: Pushes an item to a queue. -/
  | hostPush (fr : Frame)
  /-- R377: A PUSH to a full queue receives EXHAUSTED after 1 ms. -/
  | pushTimeout (f : Nat)
  /-- R413: Returns a signed quote of the measurement registers. -/
  | hostAttest (fr : Frame)
  /-- R380: Ends every placement inside a region. -/
  | hostEnd (fr : Frame)
  /-- R380: Sets a node's energy cap. -/
  | hostRegionCap (fr : Frame)
  /-- R380: Extends a measurement register. -/
  | hostMeasure (fr : Frame)
  /-- R377: Any other operation code receives INVALID. -/
  | hostUnknownOperation (fr : Frame)
  /-- R374: A frame failing its tag, length, zero fields or session is discarded and counted. -/
  | frameDiscarded (fr : Frame)
  /-- R404: Returns power, steps, temperatures, wear and error counts. -/
  | healthStatus (fr : Frame)
  /-- R404: Sets the module power cap. -/
  | healthSetCap (fr : Frame)
  /-- R404: Returns a piece of a die's lantern dump. -/
  | healthLantern (fr : Frame)
  /-- R398: Returns a port's channel counters. -/
  | traceCounters (fr : Frame)
  /-- R398: Returns a port digest and pop count. -/
  | traceDigest (fr : Frame)
  /-- R398: Sets a tile's trace mask. -/
  | traceMask (fr : Frame)
  /-- R398: Returns and empties a tile's trace buffer. -/
  | traceRecords (fr : Frame)
  /-- R389: Snapshots the region's port counters and starts the periscope walk. -/
  | tracePeriscope (fr : Frame)
  /-- R389: After 65,536 cycles the counters are snapshotted again and the walk is replied. -/
  | periscopeSnapshotEnd (f : Nat)
  /-- R393: Arms or disarms an ordinal breakpoint. -/
  | traceBreak (fr : Frame)
  /-- R397: Claims a tile for the debugger. -/
  | traceClaim (fr : Frame)
  /-- R398: Releases a debugger claim. -/
  | traceRelease (fr : Frame)
  /-- R395: Sets a watchpoint base and mask. -/
  | traceWatch (fr : Frame)
  /-- R398: Reports whether a tile is frozen and why. -/
  | traceStatus (fr : Frame)
  /-- R398: Thaws a tile or region, optionally ignoring once. -/
  | traceResume (fr : Frame)
  /-- R400: Every 1 µs module power is measured, averaged and the throttle steps adjusted. -/
  | powerSample (milliwatts : Nat) (temps : List Int)
  /-- R400: After 1 ms over cap at step 7, POWER_LIMIT is recorded and reported. -/
  | powerLimit
  /-- R401: A wave of matrix arrays is enabled 256 ns apart after RUN or thaw. -/
  | rampWaveEnable (rcb wave : Nat)
  /-- R401: A wave of arrays is disabled on freeze or drain after its last firing. -/
  | rampWaveDisable (rcb wave : Nat)
  /-- R402: Energy counters are updated at least every 1.024 µs. -/
  | energyUpdate (tile microjoules : Nat)
  /-- R403: A region reaching its energy cap is cut with a STOP beacon and reported. -/
  | energyCap (rgn : Nat)
  /-- R10: A die reset aligns every tile's TCYC to a multiple of 8 and resets die counters. -/
  | computeDieReset (die : Nat)
  /-- R409: Reset draws ticket secrets, zeroes measurements and runs secure boot. -/
  | coldReset
  /-- R406: Warm reset reboots while keeping the lantern. -/
  | warmReset
  /-- R412: Once a node's parent has booted, the parent serves it images and its status is written. -/
  | podNodeServe (n : Nat)
  /-- R412: A node without a Limis path within 2 s is marked UNREACHABLE. -/
  | unreachable (n : Nat)
  /-- R417: A Limis link negotiates its protocol version or stays down. -/
  | linkTraining (port : Nat) (peer : List (Nat × Nat))
  /-- R414: A flit arrives, is checked and acknowledged and delivered in order. -/
  | flitReceive (port : Nat) (flit : Flit)
  /-- R414: An acknowledgement frees flits from the retry buffer. -/
  | flitAck (port seq : Nat)
  /-- R414: A missing acknowledgement resends from the first unacknowledged flit; after 8 failures the port goes DOWN. -/
  | flitResend (port : Nat)
  /-- R414: A peer access without a path for 10 µs is treated as unregistered. -/
  | peerNoPath (f : Nat)
  /-- R416: A contribution reaches the all-reduce unit; the last one produces the result for every contributor. -/
  | allreduceContribution (unit group idx : Nat) (data : List Lane)
  /-- R67: A bundle holding an encoding that is no instruction, such as scalar major 0x7A–0x7F or vector major 0x3C–0x7F, comes to issue and raises ILLEGAL_OPCODE. -/
  | illegalOpcode (head : BitVec 16) (tail : BitVec 48)
  /-- R25: A strand's fetch enters a line that fails its check, an all-zero line, or an IP that is not a bundle start or has bad bits, and takes ILLEGAL_LINE before any bundle issues. -/
  | illegalLine (w : Who) (ip : Word) (head : Nat)
  /-- R48: A drowsy register bank finishes waking, within 64 cycles, and the RGET, RFILL, debugger read or first bundle of a spawned strand that waited for it then completes. -/
  | registerBankWake (w : Who)
  /-- R405: Power is removed from the module, and every lantern and all other volatile state is lost. -/
  | powerRemoval
  /-- R171: An LDG, AMO or CAS request reaches its memory slice or owning tile and is performed there, reading the value or doing the atomic read-modify-write. -/
  | globalAccessPerformed (f : Nat)
  deriving DecidableEq, Repr

end Sys2Proof
end

