-- ==== Sys2Proof/WellFormed.lean ====
section
/-!
DEFINITION. Which terms of the syntax are valid encodings: operand files and indices (R60 to R62), trap bits
(R63), masks (R64), sub, mod and immediate values, and fields that shall be zero (R67). A term that fails is an
encoding that raises ILLEGAL_OPCODE when its bundle comes to issue.
-/
namespace Sys2Proof

/-- What an operand field may hold. File codes are those of R60, with the scalar special file split into
3 (k0 to k7) and 4 (p0 to p7), and the vector pointer file into 1 and 5 (5: bit 3 shall be set). -/
inductive Opd where
  | unused
  | files (l : List Nat)
  | gNoTrap
  | kNoTrap
  | between (lo hi : Nat) (trap : Bool)
  deriving DecidableEq, Repr

/-- The 2-bit file code behind a code of Opd.files (R60). -/
def fileBits (c : Nat) : BitVec 2 := if c = 4 then 3 else if c = 5 then 1 else BitVec.ofNat 2 c

/-- The index range of a file (R61). -/
def fileRange (vec : Bool) (c : Nat) (i : Nat) : Bool :=
  if vec then
    match c with
    | 0 => decide (i < 32)
    | 1 => decide (i < 16)
    | 2 => decide (i < 16)
    | 3 => decide (i < 8)
    | _ => decide (8 ≤ i) && decide (i < 16)
  else
    match c with
    | 0 => true
    | 1 => decide (i < 32)
    | 2 => decide (i < 16)
    | 3 => decide (i < 8)
    | _ => decide (8 ≤ i) && decide (i < 16)

/-- A trap bit may stand on a source that can be empty only (R63). -/
def fileTraps (vec : Bool) (c : Nat) : Bool :=
  if vec then decide (c ≠ 1) && decide (c ≠ 5) else decide (c ≠ 4)

/-- An operand field, its file code and its trap bit fit what the instruction accepts (R61 to R63). -/
def opdOk (vec : Bool) (o : Opd) (f : BitVec 2) (i : BitVec 6) (trap : Bool) : Bool :=
  match o with
  | .unused => f == 0 && i == 0 && !trap
  | .files l => l.any (fun c => fileBits c == f && fileRange vec c i.toNat && (!trap || fileTraps vec c))
  | .gNoTrap => f == 0 && !trap
  | .kNoTrap => f == 3 && decide (i.toNat < 8) && !trap
  | .between lo hi t => f == 0 && decide (lo ≤ i.toNat) && decide (i.toNat < hi) && (t || !trap)

/-- The operands and the mask field of an L tail (R56, R62 to R64). DEDUCED: an instruction whose rule says nothing about k takes a
mask as R64 has its class, and k is held to zero for GBR, FENCE, GFUSE, CREW, HOLD, VPACK, VUNPK and MRED (assumption 112). -/
def lOk (vec : Bool) (d a b : Opd) (k : Bool) (t : LTail) : Bool :=
  opdOk vec d t.fd t.d false && opdOk vec a t.fa t.a t.ta && opdOk vec b t.fb t.b t.tb && (k || t.k == 0)

/-- The operands and the mask field of a W tail (R57). -/
def wOk (vec : Bool) (d a : Opd) (k : Bool) (t : WTail) : Bool :=
  opdOk vec d 0 t.d false && opdOk vec a t.fa t.a t.ta && (k || t.k == 0)

/-- The numbers of the system registers (R50). -/
def sysReadable (n : Nat) : Bool :=
  [0x000, 0x001, 0x002, 0x003, 0x004, 0x008, 0x010, 0x018, 0x019, 0x01A, 0x01B, 0x01C, 0x020, 0x028, 0x030, 0x031,
    0x032, 0x040, 0x041, 0x042, 0x043, 0x044, 0x045, 0x046, 0x047].contains n

/-- The system registers that some privilege level may write (R50, R52). -/
def sysWritable (n : Nat) : Bool :=
  [0x010, 0x018, 0x019, 0x01A, 0x01B, 0x01C, 0x020, 0x040, 0x041, 0x042, 0x043, 0x044, 0x045, 0x046, 0x047].contains n

/-- MOV (R76). -/
def wfLMov (t : LTail) : Bool :=
  lOk false (.files [0, 1, 2, 3]) (.files [0, 1, 2, 3]) .unused true t && (let x := t.sub.toNat; x == 0)

/-- MOV E (R76). -/
def wfLMovE (t : LTail) : Bool :=
  lOk false (.files [0, 1, 3]) .unused .unused true t && (let x := t.sub.toNat; x == 1)

/-- ADD (R72). -/
def wfLAdd (t : LTail) : Bool :=
  lOk false (.files [0, 1, 2]) (.files [0, 1, 2]) (.files [0, 1, 2]) true t && (let x := t.sub.toNat; x < 2)

/-- SUB (R72). -/
def wfLSub (t : LTail) : Bool :=
  lOk false (.files [0, 1, 2]) (.files [0, 1, 2]) (.files [0, 1, 2]) true t && (let x := t.sub.toNat; x < 2)

/-- ADDI (R78). -/
def wfWAddi (t : WTail) : Bool :=
  wOk false (.files [0]) (.files [0, 1, 2]) true t && (let x := t.sub.toNat; x < 2)

/-- MUL (R72). -/
def wfLMul (t : LTail) : Bool :=
  lOk false (.files [0, 1, 2]) (.files [0, 1, 2]) (.files [0, 1, 2]) true t && (let x := t.sub.toNat; x < 2)

/-- MULH (R73). -/
def wfLMulh (t : LTail) : Bool :=
  lOk false (.files [0, 1, 2]) (.files [0, 1, 2]) (.files [0, 1, 2]) true t && (let x := t.sub.toNat; x < 3)

/-- DIV (R74). -/
def wfLDiv (t : LTail) : Bool :=
  lOk false (.files [0, 1]) (.files [0, 1, 2]) (.files [0, 1, 2]) true t && (let x := t.sub.toNat; x < 4)

/-- REM (R74). -/
def wfLRem (t : LTail) : Bool :=
  lOk false (.files [0, 1]) (.files [0, 1, 2]) (.files [0, 1, 2]) true t && (let x := t.sub.toNat; x < 4)

/-- AND (R72). -/
def wfLAnd (t : LTail) : Bool :=
  lOk false (.files [0, 1, 2]) (.files [0, 1, 2]) (.files [0, 1, 2]) true t && (let x := t.sub.toNat; x < 2)

/-- OR (R72). -/
def wfLOr (t : LTail) : Bool :=
  lOk false (.files [0, 1, 2]) (.files [0, 1, 2]) (.files [0, 1, 2]) true t && (let x := t.sub.toNat; x < 2)

/-- XOR (R72). -/
def wfLXor (t : LTail) : Bool :=
  lOk false (.files [0, 1, 2]) (.files [0, 1, 2]) (.files [0, 1, 2]) true t && (let x := t.sub.toNat; x < 2)

/-- ANDN (R72). -/
def wfLAndn (t : LTail) : Bool :=
  lOk false (.files [0, 1, 2]) (.files [0, 1, 2]) (.files [0, 1, 2]) true t && (let x := t.sub.toNat; x < 2)

/-- SHL (R72). -/
def wfLShl (t : LTail) : Bool :=
  lOk false (.files [0, 1, 2]) (.files [0, 1, 2]) (.files [0, 1, 2]) true t && (let x := t.sub.toNat; x < 2)

/-- SHR (R72). -/
def wfLShr (t : LTail) : Bool :=
  lOk false (.files [0, 1, 2]) (.files [0, 1, 2]) (.files [0, 1, 2]) true t && (let x := t.sub.toNat; x < 2)

/-- SAR (R72). -/
def wfLSar (t : LTail) : Bool :=
  lOk false (.files [0, 1, 2]) (.files [0, 1, 2]) (.files [0, 1, 2]) true t && (let x := t.sub.toNat; x < 2)

/-- ROT (R72). -/
def wfLRot (t : LTail) : Bool :=
  lOk false (.files [0, 1, 2]) (.files [0, 1, 2]) (.files [0, 1, 2]) true t && (let x := t.sub.toNat; x < 2)

/-- SHI (R78). -/
def wfWShi (t : WTail) : Bool :=
  wOk false (.files [0]) (.files [0, 1, 2]) true t && (let x := t.sub.toNat; let y := t.imm.toNat; (x < 8) && (y < 64 && (x / 4 % 2 == 0 || y < 32)))

/-- LOGI (R78). -/
def wfWLogi (t : WTail) : Bool :=
  wOk false (.files [0]) (.files [0, 1, 2]) true t && (let x := t.sub.toNat; x < 8)

/-- CLZ (R75). -/
def wfLClz (t : LTail) : Bool :=
  lOk false (.files [0, 1, 2]) (.files [0, 1, 2]) .unused true t && (let x := t.sub.toNat; x < 2)

/-- CTZ (R75). -/
def wfLCtz (t : LTail) : Bool :=
  lOk false (.files [0, 1, 2]) (.files [0, 1, 2]) .unused true t && (let x := t.sub.toNat; x < 2)

/-- POPC (R75). -/
def wfLPopc (t : LTail) : Bool :=
  lOk false (.files [0, 1, 2]) (.files [0, 1, 2]) .unused true t && (let x := t.sub.toNat; x < 2)

/-- MIN (R72). -/
def wfLMin (t : LTail) : Bool :=
  lOk false (.files [0, 1, 2]) (.files [0, 1, 2]) (.files [0, 1, 2]) true t && (let x := t.sub.toNat; x < 2)

/-- MAX (R72). -/
def wfLMax (t : LTail) : Bool :=
  lOk false (.files [0, 1, 2]) (.files [0, 1, 2]) (.files [0, 1, 2]) true t && (let x := t.sub.toNat; x < 2)

/-- MINU (R72). -/
def wfLMinu (t : LTail) : Bool :=
  lOk false (.files [0, 1, 2]) (.files [0, 1, 2]) (.files [0, 1, 2]) true t && (let x := t.sub.toNat; x < 2)

/-- MAXU (R72). -/
def wfLMaxu (t : LTail) : Bool :=
  lOk false (.files [0, 1, 2]) (.files [0, 1, 2]) (.files [0, 1, 2]) true t && (let x := t.sub.toNat; x < 2)

/-- SEL (R81). -/
def wfLSel (t : LTail) : Bool :=
  lOk false (.files [0, 1, 2]) (.files [0, 1, 2]) (.files [0, 1, 2]) true t && (let x := t.sub.toNat; x == 0)

/-- CMP (R80). -/
def wfLCmp (t : LTail) : Bool :=
  lOk false (.files [0, 1, 2, 3]) (.files [0, 1, 2]) (.files [0, 1, 2]) true t && (let x := t.sub.toNat; x < 16 && x % 8 < 6)

/-- CMPI (R80). -/
def wfWCmpi (t : WTail) : Bool :=
  wOk false (.files [0]) (.files [0, 1, 2]) true t && (let x := t.sub.toNat; x % 8 < 6)

/-- EXT (R82). -/
def wfWExt (t : WTail) : Bool :=
  wOk false (.files [0]) (.files [0, 1, 2]) true t && (let x := t.sub.toNat; let y := t.imm.toNat; (x < 2) && (y < 2 ^ 12 && y % 64 + y / 64 + 1 ≤ 64))

/-- INS (R82). -/
def wfWIns (t : WTail) : Bool :=
  wOk false (.files [0]) (.files [0, 1, 2]) true t && (let x := t.sub.toNat; let y := t.imm.toNat; (x == 0) && (y < 2 ^ 12 && y % 64 + y / 64 + 1 ≤ 64))

/-- BSWAP (R75). -/
def wfLBswap (t : LTail) : Bool :=
  lOk false (.files [0, 1, 2]) (.files [0, 1, 2]) .unused true t && (let x := t.sub.toNat; x < 2)

/-- LEA (R83). -/
def wfLLea (t : LTail) : Bool :=
  lOk false (.files [0, 1, 2]) (.files [0, 1, 4]) (.files [0, 1]) true t && (let x := t.sub.toNat; x < 8)

/-- LEA (R83). -/
def wfWLea (t : WTail) : Bool :=
  wOk false (.files [0]) (.files [0, 1, 4]) true t && (let x := t.sub.toNat; x < 8)

/-- PSET (R84). -/
def wfLPset (t : LTail) : Bool :=
  lOk false (.between 0 8 false) (.files [0, 1]) .unused true t && (let x := t.sub.toNat; x == 0)

/-- PSET (R84). -/
def wfWPset (t : WTail) : Bool :=
  wOk false (.between 0 8 false) .unused true t && (let x := t.sub.toNat; x == 0)

/-- PADD (R84). -/
def wfWPadd (t : WTail) : Bool :=
  wOk false (.between 0 8 false) .unused true t && (let x := t.sub.toNat; x == 0)

/-- PADD ST (R84). -/
def wfWPaddSt (t : WTail) : Bool :=
  wOk false (.between 0 8 false) .unused true t && (let x := t.sub.toNat; let y := t.imm.toNat; (x == 1) && (y < 2 ^ 16))

/-- PGET (R84). -/
def wfLPget (t : LTail) : Bool :=
  lOk false (.files [0, 1, 2]) (.files [4]) .unused true t && (let x := t.sub.toNat; x == 0)

/-- JR (R87). -/
def wfLJr (t : LTail) : Bool :=
  lOk false .unused (.files [0, 1]) .unused true t && (let x := t.sub.toNat; x == 0)

/-- JR LINK (R87). -/
def wfLJrLink (t : LTail) : Bool :=
  lOk false .unused (.files [0, 1]) .unused true t && (let x := t.sub.toNat; x == 1)

/-- BR (R88). -/
def wfWBr (t : WTail) : Bool :=
  wOk false (.files [0]) (.files [0, 1]) true t && (let x := t.sub.toNat; x ≤ 6) && (t.sub != 6 || (t.d == 0 && t.a == 0 && t.fa == 0 && !t.ta))

/-- BZ (R88). -/
def wfWBz (t : WTail) : Bool :=
  wOk false .unused (.files [0, 1, 2]) true t && (let x := t.sub.toNat; x == 0)

/-- BNZ (R88). -/
def wfWBnz (t : WTail) : Bool :=
  wOk false .unused (.files [0, 1, 2]) true t && (let x := t.sub.toNat; x == 1)

/-- LOOP (R89). -/
def wfWLoop (t : WTail) : Bool :=
  wOk false (.files [0]) .unused true t && (let x := t.sub.toNat; x == 0)

/-- GBR (R201). -/
def wfWGbr (t : WTail) : Bool :=
  wOk false .unused .kNoTrap false t && (let x := t.sub.toNat; x < 2)

/-- SPAWN (R90). -/
def wfWSpawn (t : WTail) : Bool :=
  wOk false (.between 0 8 false) (.files [0, 1]) true t && (let x := t.sub.toNat; x == 0)

/-- TRAP (R96). -/
def wfWTrap (t : WTail) : Bool :=
  wOk false .unused .unused true t && (let x := t.sub.toNat; x == 0)

/-- SRD (R93). -/
def wfWSrd (t : WTail) : Bool :=
  wOk false (.files [0]) .unused true t && (let x := t.sub.toNat; let y := t.imm.toNat; (x == 0) && (sysReadable y))

/-- SWR (R93). -/
def wfWSwr (t : WTail) : Bool :=
  wOk false .unused (.files [0, 1]) true t && (let x := t.sub.toNat; let y := t.imm.toNat; (x == 0) && (sysWritable y && !(y == 0x010 || y == 0x01B || y == 0x01C || y == 0x020)))

/-- SWR RND SEED (R52). -/
def wfWSwrRndSeed (t : WTail) : Bool :=
  wOk false .unused (.files [0, 1]) true t && (let x := t.sub.toNat; let y := t.imm.toNat; (x == 0) && (y == 0x020))

/-- SWR REPORT Q (R52). -/
def wfWSwrReportQ (t : WTail) : Bool :=
  wOk false .unused (.files [0, 1]) true t && (let x := t.sub.toNat; let y := t.imm.toNat; (x == 0) && (y == 0x01C))

/-- SWR TRAP VEC (R46). -/
def wfWSwrTrapVec (t : WTail) : Bool :=
  wOk false .unused (.files [0, 1]) true t && (let x := t.sub.toNat; let y := t.imm.toNat; (x == 0) && (y == 0x01B))

/-- SWR WAIT LIMIT (R93). -/
def wfWSwrWaitLimit (t : WTail) : Bool :=
  wOk false .unused (.files [0, 1]) true t && (let x := t.sub.toNat; let y := t.imm.toNat; (x == 0) && (y == 0x010))

/-- FENCE (R94). -/
def wfLFence (t : LTail) : Bool :=
  lOk false .unused .unused .unused false t && (let x := t.sub.toNat; x < 128 && x % 8 < 6)

/-- RFILL (R174). -/
def wfLRfill (t : LTail) : Bool :=
  lOk false (.files [0]) (.files [0, 1]) (.files [0, 1, 2]) true t && (let x := t.sub.toNat; x < 2)

/-- RGET (R174). -/
def wfLRget (t : LTail) : Bool :=
  lOk false (.files [0]) (.files [0, 1]) .unused true t && (let x := t.sub.toNat; x < 2)

/-- GFUSE (R198). -/
def wfLGfuse (t : LTail) : Bool :=
  lOk false .unused (.files [0, 1]) .unused false t && (let x := t.sub.toNat; x == 0)

/-- GRED (R202). -/
def wfLGred (t : LTail) : Bool :=
  lOk false (.files [0]) (.files [0, 1]) .unused true t && (let x := t.sub.toNat; x < 16)

/-- GXCH (R203). -/
def wfLGxch (t : LTail) : Bool :=
  lOk false (.files [0]) (.files [0, 1]) .unused true t && (let x := t.sub.toNat; x < 8)

/-- CREW (R181). -/
def wfLCrew (t : LTail) : Bool :=
  lOk false (.files [0]) (.files [0, 1]) (.files [0, 1]) false t && (let x := t.sub.toNat; x < 8)

/-- CJOIN (R183). -/
def wfLCjoin (t : LTail) : Bool :=
  lOk false (.files [0]) (.files [0, 1]) .unused true t && (let x := t.sub.toNat; x == 0)

/-- CJOIN X (R183). -/
def wfLCjoinX (t : LTail) : Bool :=
  lOk false (.files [0]) .unused .unused true t && (let x := t.sub.toNat; x == 1)

/-- ACQ (R188). -/
def wfLAcq (t : LTail) : Bool :=
  lOk false (.files [0]) (.files [0, 1]) .unused true t && (let x := t.sub.toNat; x < 16 && x % 8 < 5)

/-- ACQ (R188). -/
def wfWAcq (t : WTail) : Bool :=
  wOk false (.files [0]) .unused true t && (let x := t.sub.toNat; x % 8 < 5)

/-- ACQM (R189). -/
def wfLAcqm (t : LTail) : Bool :=
  lOk false (.files [0]) (.files [0, 1]) .unused true t && (let x := t.sub.toNat; x < 2)

/-- REL (R194). -/
def wfLRel (t : LTail) : Bool :=
  lOk false .unused (.files [0, 1]) .unused true t && (let x := t.sub.toNat; x < 5)

/-- REL (R194). -/
def wfWRel (t : WTail) : Bool :=
  wOk false .unused .unused true t && (let x := t.sub.toNat; x < 5)

/-- RELM (R194). -/
def wfLRelm (t : LTail) : Bool :=
  lOk false .unused (.files [0, 1]) .unused true t && (let x := t.sub.toNat; x == 0)

/-- HOLD (R195). -/
def wfLHold (t : LTail) : Bool :=
  lOk false (.files [0]) .unused .unused false t && (let x := t.sub.toNat; x < 2)

/-- LD (R168). -/
def wfLLd (t : LTail) : Bool :=
  lOk false (.files [0, 1, 2]) (.files [0, 1, 4]) .unused true t && (let x := t.sub.toNat; x < 16) && (t.sub.toNat / 8 % 2 == 0 || t.fa == 3)

/-- LD (R168). -/
def wfWLd (t : WTail) : Bool :=
  wOk false (.files [0]) (.files [0, 1, 4]) true t && (let x := t.sub.toNat; x < 8)

/-- ST (R168). -/
def wfLSt (t : LTail) : Bool :=
  lOk false .unused (.files [0, 1, 4]) (.files [0, 1, 2]) true t && (let x := t.sub.toNat; x < 16 && x / 4 % 2 == 0) && (t.sub.toNat / 8 % 2 == 0 || t.fa == 3)

/-- ST (R168). -/
def wfWSt (t : WTail) : Bool :=
  wOk false (.files [0]) (.files [0, 1, 4]) true t && (let x := t.sub.toNat; x < 4)

/-- LDF (R165). -/
def wfLLdf (t : LTail) : Bool :=
  lOk false (.files [0, 1, 2]) (.files [0, 1, 4]) .unused true t && (let x := t.sub.toNat; x < 128 && x / 2 % 4 == 0 && x / 16 < 6) && (t.sub.toNat / 8 % 2 == 0 || t.fa == 3)

/-- LDF (R165). -/
def wfWLdf (t : WTail) : Bool :=
  wOk false (.files [0]) (.files [0, 1, 4]) true t && (let x := t.sub.toNat; x < 2)

/-- STE (R166). -/
def wfLSte (t : LTail) : Bool :=
  lOk false .unused (.files [0, 1, 4]) (.files [0, 1, 2]) true t && (let x := t.sub.toNat; x < 128 && x % 8 == 0 && x / 16 < 6) && (t.sub.toNat / 8 % 2 == 0 || t.fa == 3)

/-- STE (R166). -/
def wfWSte (t : WTail) : Bool :=
  wOk false (.files [0]) (.files [0, 1, 4]) true t && (let x := t.sub.toNat; x == 0)

/-- STF (R166). -/
def wfLStf (t : LTail) : Bool :=
  lOk false .unused (.files [0, 1, 4]) (.files [0, 1, 2]) true t && (let x := t.sub.toNat; x < 128 && x % 8 == 1 && x / 16 < 6) && (t.sub.toNat / 8 % 2 == 0 || t.fa == 3)

/-- STF (R166). -/
def wfWStf (t : WTail) : Bool :=
  wOk false (.files [0]) (.files [0, 1, 4]) true t && (let x := t.sub.toNat; x == 1)

/-- STE G (R166). -/
def wfLSteG (t : LTail) : Bool :=
  lOk false (.files [0]) (.files [0, 1]) (.files [0, 1, 2]) true t && (let x := t.sub.toNat; x < 128 && x % 16 == 2 && x / 16 < 6)

/-- STF G (R166). -/
def wfLStfG (t : LTail) : Bool :=
  lOk false .unused (.files [0, 1]) (.files [0, 1, 2]) true t && (let x := t.sub.toNat; x < 128 && x % 16 == 3 && x / 16 < 6)

/-- STF G (R166). -/
def wfWStfG (t : WTail) : Bool :=
  wOk false (.files [0]) (.files [0, 1]) true t && (let x := t.sub.toNat; x == 3)

/-- TAG Q (R167). -/
def wfLTagQ (t : LTail) : Bool :=
  lOk false (.files [0, 1, 2]) (.files [0, 1, 4]) .unused true t && (let x := t.sub.toNat; x < 16 && x % 4 == 0) && ((t.sub.toNat / 4 % 2 == 0 && (t.sub.toNat / 8 % 2 == 0 || t.fa == 3)) || (t.sub.toNat / 4 % 2 == 1 && t.fa != 3 && t.sub.toNat / 8 % 2 == 0)) && (t.sub.toNat / 4 % 2 == 0 || t.fd != 2)

/-- TAG Q (R167). -/
def wfWTagQ (t : WTail) : Bool :=
  wOk false (.files [0]) (.files [0, 1, 4]) true t && (let x := t.sub.toNat; x < 8 && x % 4 == 0) && (t.sub.toNat / 4 % 2 == 0 || t.fa != 3)

/-- TAG E (R167). -/
def wfLTagE (t : LTail) : Bool :=
  lOk false .unused (.files [0, 1, 4]) .unused true t && (let x := t.sub.toNat; x < 16 && x % 4 == 1) && ((t.sub.toNat / 4 % 2 == 0 && (t.sub.toNat / 8 % 2 == 0 || t.fa == 3)) || (t.sub.toNat / 4 % 2 == 1 && t.fa != 3 && t.sub.toNat / 8 % 2 == 0))

/-- TAG E (R167). -/
def wfWTagE (t : WTail) : Bool :=
  wOk false .unused (.files [0, 1, 4]) true t && (let x := t.sub.toNat; x < 8 && x % 4 == 1) && (t.sub.toNat / 4 % 2 == 0 || t.fa != 3)

/-- TAG F (R167). -/
def wfLTagF (t : LTail) : Bool :=
  lOk false .unused (.files [0, 1, 4]) .unused true t && (let x := t.sub.toNat; x < 16 && x % 4 == 2) && ((t.sub.toNat / 4 % 2 == 0 && (t.sub.toNat / 8 % 2 == 0 || t.fa == 3)) || (t.sub.toNat / 4 % 2 == 1 && t.fa != 3 && t.sub.toNat / 8 % 2 == 0))

/-- TAG F (R167). -/
def wfWTagF (t : WTail) : Bool :=
  wOk false .unused (.files [0, 1, 4]) true t && (let x := t.sub.toNat; x < 8 && x % 4 == 2) && (t.sub.toNat / 4 % 2 == 0 || t.fa != 3)

/-- TAG WA (R167). -/
def wfLTagWa (t : LTail) : Bool :=
  lOk false (.files [0, 1, 2]) (.files [0, 1, 4]) .unused true t && (let x := t.sub.toNat; x < 16 && x % 8 == 3) && (t.sub.toNat / 8 % 2 == 0 || t.fa == 3)

/-- TAG WA (R167). -/
def wfWTagWa (t : WTail) : Bool :=
  wOk false (.files [0]) (.files [0, 1, 4]) true t && (let x := t.sub.toNat; x == 3)

/-- LDG (R169). -/
def wfLLdg (t : LTail) : Bool :=
  lOk false (.files [0]) (.files [0, 1]) .unused true t && (let x := t.sub.toNat; x < 16)

/-- LDG (R169). -/
def wfWLdg (t : WTail) : Bool :=
  wOk false (.files [0]) (.files [0, 1]) true t

/-- STG (R169). -/
def wfLStg (t : LTail) : Bool :=
  lOk false .unused (.files [0, 1]) (.files [0, 1, 2]) true t && (let x := t.sub.toNat; x < 16 && x / 4 % 2 == 0)

/-- STG (R169). -/
def wfWStg (t : WTail) : Bool :=
  wOk false (.files [0]) (.files [0, 1]) true t && (let x := t.sub.toNat; x / 4 % 2 == 0)

/-- AMO (R171). -/
def wfLAmo (t : LTail) : Bool :=
  lOk false (.files [0]) (.files [0, 1]) (.files [0, 1, 2]) true t && (let x := t.sub.toNat; x < 128 && x % 16 < 9)

/-- CAS (R171). -/
def wfLCas (t : LTail) : Bool :=
  lOk false (.files [0]) (.files [0, 1]) (.files [0, 1, 2]) true t && (let x := t.sub.toNat; x < 16 && x % 4 < 3)

/-- LDT (R240). -/
def wfLLdt (t : LTail) : Bool :=
  lOk false (.files [0]) (.files [0, 1]) .unused true t && (let x := t.sub.toNat; x < 16 && x % 8 < 5)

/-- LDT (R240). -/
def wfWLdt (t : WTail) : Bool :=
  wOk false (.files [0]) (.files [0, 1]) true t && (let x := t.sub.toNat; x % 8 < 5)

/-- RDM (R242). -/
def wfLRdm (t : LTail) : Bool :=
  lOk false (.files [0, 1]) (.files [0, 1]) (if bitAt t.sub 0 then .gNoTrap else .unused) true t && (let x := t.sub.toNat; x < 4) && (!bitAt t.sub 1 || (t.fd == 0 && t.d.toNat < 32))

/-- RDMS (R242). -/
def wfLRdms (t : LTail) : Bool :=
  lOk false (.files [0]) (.files [0, 1]) (.files [0, 1, 4]) true t && (let x := t.sub.toNat; x < 32 && x % 8 < 5) && (!bitAt t.sub 4 || t.fb == 3)

/-- TKQ (R246). -/
def wfLTkq (t : LTail) : Bool :=
  lOk false (.files [0, 1]) (.files [0, 1]) .unused true t && (let x := t.sub.toNat; x == 0)

/-- TKD (R246). -/
def wfLTkd (t : LTail) : Bool :=
  lOk false (.files [0, 1]) (.files [0, 1]) .unused true t && (let x := t.sub.toNat; x == 0)

/-- QBIND (R214). -/
def wfWQbind (t : WTail) : Bool :=
  wOk false (.between 0 16 false) .unused true t && (let x := t.sub.toNat; let y := t.imm.toNat; (x == 0) && (y < 2 ^ 16 && y / 32 % 8 == 0))

/-- QPUSH (R216). -/
def wfLQpush (t : LTail) : Bool :=
  lOk false (.between 0 16 false) (.files [0, 1]) (.files [0, 1]) true t && (let x := t.sub.toNat; x < 8) && decide (t.b.toNat + t.sub.toNat % 8 ≤ (if t.fb == 0 then 63 else 31))

/-- QPOP (R222). -/
def wfLQpop (t : LTail) : Bool :=
  lOk false (.files [0, 1]) (.between 0 16 true) .unused true t && (let x := t.sub.toNat; x < 16) && decide (t.d.toNat + t.sub.toNat % 8 + t.sub.toNat / 8 ≤ (if t.fd == 0 then 63 else 31))

/-- QTRY (R222). -/
def wfLQtry (t : LTail) : Bool :=
  lOk false (.files [0, 1]) (.between 0 16 true) .unused true t && (let x := t.sub.toNat; x < 8) && decide (t.d.toNat + t.sub.toNat % 8 + 1 ≤ (if t.fd == 0 then 63 else 31))

/-- QPEEK (R222). -/
def wfLQpeek (t : LTail) : Bool :=
  lOk false (.files [0, 1]) (.between 0 16 true) .unused true t && (let x := t.sub.toNat; x < 8) && decide (t.d.toNat + t.sub.toNat % 8 + 1 ≤ (if t.fd == 0 then 63 else 31))

/-- QSEL (R224). -/
def wfLQsel (t : LTail) : Bool :=
  lOk false (.files [0, 1]) (.files [0, 1]) .unused true t && (let x := t.sub.toNat; x < 16) && decide (t.d.toNat + t.sub.toNat % 8 + 1 ≤ (if t.fd == 0 then 63 else 31))

/-- QCANCEL (R226). -/
def wfLQcancel (t : LTail) : Bool :=
  lOk false (.between 0 16 false) (.files [0, 1]) .unused true t && (let x := t.sub.toNat; x == 0)

/-- QCANCEL (R226). -/
def wfWQcancel (t : WTail) : Bool :=
  wOk false (.between 0 16 false) .unused true t && (let x := t.sub.toNat; let y := t.imm.toNat; (x == 0) && (y < 256))

/-- QSTAT (R227). -/
def wfLQstat (t : LTail) : Bool :=
  lOk false (.files [0, 1]) (.between 0 16 false) .unused true t && (let x := t.sub.toNat; x < 7)

/-- QDONE (R225). -/
def wfLQdone (t : LTail) : Bool :=
  lOk false .unused (.between 0 16 false) (.files [0, 1]) true t && (let x := t.sub.toNat; x == 0)

/-- QDONE O (R225). -/
def wfLQdoneO (t : LTail) : Bool :=
  lOk false .unused (.between 0 16 false) .unused true t && (let x := t.sub.toNat; x == 1)

/-- BCN (R352). -/
def wfLBcn (t : LTail) : Bool :=
  lOk false (.between 0 16 false) (.files [0, 1]) (.files [0, 1]) true t && (let x := t.sub.toNat; x == 0)

/-- RAWAIT (R295). -/
def wfLRawait (t : LTail) : Bool :=
  lOk false (.files [0, 1]) .unused .unused true t && (let x := t.sub.toNat; x < 128 && 1 ≤ x / 16 && x / 16 ≤ 5)

/-- RREL (R295). -/
def wfLRrel (t : LTail) : Bool :=
  lOk false .unused .unused .unused true t && (let x := t.sub.toNat; x < 16)

/-- RSTAT (R295). -/
def wfLRstat (t : LTail) : Bool :=
  lOk false (.files [0, 1]) .unused .unused true t && (let x := t.sub.toNat; x < 16)

/-- BARINIT (R296). -/
def wfLBarinit (t : LTail) : Bool :=
  lOk false .unused (.files [0, 1]) .unused true t && (let x := t.sub.toNat; x < 16)

/-- BARINIT (R296). -/
def wfWBarinit (t : WTail) : Bool :=
  wOk false (.between 0 16 false) .unused true t && (let x := t.sub.toNat; let y := t.imm.toNat; (x == 0) && (y < 4096))

/-- BARARV (R296). -/
def wfLBararv (t : LTail) : Bool :=
  lOk false (.files [0, 1]) .unused .unused true t && (let x := t.sub.toNat; x < 128 && 1 ≤ x / 16 && x / 16 ≤ 5)

/-- BAREXP (R296). -/
def wfLBarexp (t : LTail) : Bool :=
  lOk false .unused (.files [0, 1]) .unused true t && (let x := t.sub.toNat; x < 16)

/-- BAREXP (R296). -/
def wfWBarexp (t : WTail) : Bool :=
  wOk false (.between 0 16 false) .unused true t && (let x := t.sub.toNat; x == 0)

/-- BARWAIT (R296). -/
def wfLBarwait (t : LTail) : Bool :=
  lOk false .unused (.files [0, 1]) .unused true t && (let x := t.sub.toNat; x < 128 && 1 ≤ x / 16 && x / 16 ≤ 5)

/-- CPY (R283). -/
def wfLCpy (t : LTail) : Bool :=
  lOk false (.between 0 16 false) (.files [0, 1, 4]) .unused true t && (let x := t.sub.toNat; x < 2) && (!bitAt t.sub 0 || t.fa == 3)

/-- SBIND (R297). -/
def wfLSbind (t : LTail) : Bool :=
  lOk false (.between 0 32 false) (.files [0, 1, 4]) .unused true t && (let x := t.sub.toNat; x < 4)

/-- MFILL (R257). -/
def wfLMfill (t : LTail) : Bool :=
  lOk false (.between 0 16 false) (.files [0, 1, 4]) (.files [0, 1]) true t && (let x := t.sub.toNat; x == 0)

/-- MSCL (R257). -/
def wfLMscl (t : LTail) : Bool :=
  lOk false (.between 0 16 false) (.files [0, 1, 4]) (.files [0, 1]) true t && (let x := t.sub.toNat; x == 0)

/-- MRULE (R263). -/
def wfLMrule (t : LTail) : Bool :=
  lOk false (.between 0 4 false) (.files [0, 1]) (.files [0, 1]) true t && (let x := t.sub.toNat; x < 256)

/-- MRULX TAGS (R269). -/
def wfLMrulxTags (t : LTail) : Bool :=
  lOk false (.between 0 4 false) .unused .unused true t && (let x := t.sub.toNat; x < 128 && x % 8 == 0)

/-- MRULX FILL (R269). -/
def wfLMrulxFill (t : LTail) : Bool :=
  lOk false (.between 0 4 false) (.files [0, 1]) .unused true t && (let x := t.sub.toNat; x == 1)

/-- MRULX FB (R269). -/
def wfLMrulxFb (t : LTail) : Bool :=
  lOk false (.between 0 4 false) .unused .unused true t && (let x := t.sub.toNat; x % 8 == 2 && x / 128 < 3)

/-- MRULX NOFB (R269). -/
def wfLMrulxNofb (t : LTail) : Bool :=
  lOk false (.between 0 4 false) .unused .unused true t && (let x := t.sub.toNat; x == 3)

/-- MTAG (R268). -/
def wfLMtag (t : LTail) : Bool :=
  lOk false (.between 0 4 false) (.files [0, 1]) .unused true t && (let x := t.sub.toNat; x == 0)

/-- MDRAIN (R273). -/
def wfLMdrain (t : LTail) : Bool :=
  lOk false (.between 0 4 false) (.files [0, 1, 4]) (.files [0, 1]) true t && (let x := t.sub.toNat; x < 6)

/-- MSTAT (R275). -/
def wfLMstat (t : LTail) : Bool :=
  lOk false (.files [0, 1]) (.between 0 16 false) .unused true t && (let x := t.sub.toNat; x < 3) && decide (t.a.toNat < (if t.sub == 0 then 4 else if t.sub == 1 then 16 else 1))

/-- MRED (R278). -/
def wfLMred (t : LTail) : Bool :=
  lOk false (.between 0 4 false) .unused .unused false t && (let x := t.sub.toNat; x < 2)

/-- VMOV (R154). -/
def wfLVmov (t : LTail) : Bool :=
  lOk true (.files [0, 1, 2]) (.files [0, 1, 2]) .unused true t && (let x := t.sub.toNat; x == 0)

/-- VBCAST (R154). -/
def wfLVbcast (t : LTail) : Bool :=
  lOk true (.files [0, 1, 2]) (.files [0, 1, 2, 3]) .unused true t && (let x := t.sub.toNat; x < 32) && (t.fa == 0 || t.sub == 0)

/-- VBCAST (R154). -/
def wfWVbcast (t : WTail) : Bool :=
  wOk true (.files [0]) .unused true t && (let x := t.sub.toNat; x == 0)

/-- VADD (R140). -/
def wfLVadd (t : LTail) : Bool :=
  lOk true (.files [0, 1, 2]) (.files [0, 1, 2]) (.files [0, 1, 2]) true t && (let x := t.sub.toNat; x < 5)

/-- VSUB (R140). -/
def wfLVsub (t : LTail) : Bool :=
  lOk true (.files [0, 1, 2]) (.files [0, 1, 2]) (.files [0, 1, 2]) true t && (let x := t.sub.toNat; x < 5)

/-- VMUL (R140). -/
def wfLVmul (t : LTail) : Bool :=
  lOk true (.files [0, 1, 2]) (.files [0, 1, 2]) (.files [0, 1, 2]) true t && (let x := t.sub.toNat; x < 5)

/-- VFMA (R140). -/
def wfLVfma (t : LTail) : Bool :=
  lOk true (.files [0, 1]) (.files [0, 1, 2]) (.files [0, 1, 2]) true t && (let x := t.sub.toNat; x < 5)

/-- VFMS (R140). -/
def wfLVfms (t : LTail) : Bool :=
  lOk true (.files [0, 1]) (.files [0, 1, 2]) (.files [0, 1, 2]) true t && (let x := t.sub.toNat; x < 5)

/-- VFNMA (R140). -/
def wfLVfnma (t : LTail) : Bool :=
  lOk true (.files [0, 1]) (.files [0, 1, 2]) (.files [0, 1, 2]) true t && (let x := t.sub.toNat; x < 5)

/-- VMIN (R140). -/
def wfLVmin (t : LTail) : Bool :=
  lOk true (.files [0, 1, 2]) (.files [0, 1, 2]) (.files [0, 1, 2]) true t && (let x := t.sub.toNat; x < 2)

/-- VMAX (R140). -/
def wfLVmax (t : LTail) : Bool :=
  lOk true (.files [0, 1, 2]) (.files [0, 1, 2]) (.files [0, 1, 2]) true t && (let x := t.sub.toNat; x < 2)

/-- VABS (R140). -/
def wfLVabs (t : LTail) : Bool :=
  lOk true (.files [0, 1, 2]) (.files [0, 1, 2]) .unused true t && (let x := t.sub.toNat; x == 0)

/-- VNEG (R140). -/
def wfLVneg (t : LTail) : Bool :=
  lOk true (.files [0, 1, 2]) (.files [0, 1, 2]) .unused true t && (let x := t.sub.toNat; x == 0)

/-- VDIV (R140). -/
def wfLVdiv (t : LTail) : Bool :=
  lOk true (.files [0]) (.files [0, 1, 2]) (.files [0, 1, 2]) true t && (let x := t.sub.toNat; x < 5)

/-- VSQRT (R140). -/
def wfLVsqrt (t : LTail) : Bool :=
  lOk true (.files [0]) (.files [0, 1, 2]) .unused true t && (let x := t.sub.toNat; x < 5)

/-- VRCP (R140). -/
def wfLVrcp (t : LTail) : Bool :=
  lOk true (.files [0]) (.files [0, 1, 2]) .unused true t && (let x := t.sub.toNat; x == 0)

/-- VRSQ (R140). -/
def wfLVrsq (t : LTail) : Bool :=
  lOk true (.files [0]) (.files [0, 1, 2]) .unused true t && (let x := t.sub.toNat; x == 0)

/-- VEXP2 (R140). -/
def wfLVexp2 (t : LTail) : Bool :=
  lOk true (.files [0]) (.files [0, 1, 2]) .unused true t && (let x := t.sub.toNat; x == 0)

/-- VLOG2 (R140). -/
def wfLVlog2 (t : LTail) : Bool :=
  lOk true (.files [0]) (.files [0, 1, 2]) .unused true t && (let x := t.sub.toNat; x == 0)

/-- VTANH (R140). -/
def wfLVtanh (t : LTail) : Bool :=
  lOk true (.files [0]) (.files [0, 1, 2]) .unused true t && (let x := t.sub.toNat; x == 0)

/-- VCMP (R143). -/
def wfLVcmp (t : LTail) : Bool :=
  lOk true (.files [3]) (.files [0, 1, 2]) (.files [0, 1, 2]) true t && (let x := t.sub.toNat; x < 8)

/-- VCLASS (R144). -/
def wfLVclass (t : LTail) : Bool :=
  lOk true (.files [0, 1, 2]) (.files [0, 1, 2]) .unused true t && (let x := t.sub.toNat; x == 0)

/-- VSELK (R145). -/
def wfLVselk (t : LTail) : Bool :=
  lOk true (.files [0, 1, 2]) (.files [0, 1, 2]) (.files [0, 1, 2]) true t && (let x := t.sub.toNat; x == 0)

/-- VIADD (R142). -/
def wfLViadd (t : LTail) : Bool :=
  lOk true (.files [0, 1, 2]) (.files [0, 1, 2]) (.files [0, 1, 2]) true t && (let x := t.sub.toNat; x < 3)

/-- VISUB (R142). -/
def wfLVisub (t : LTail) : Bool :=
  lOk true (.files [0, 1, 2]) (.files [0, 1, 2]) (.files [0, 1, 2]) true t && (let x := t.sub.toNat; x < 3)

/-- VIMUL (R142). -/
def wfLVimul (t : LTail) : Bool :=
  lOk true (.files [0, 1, 2]) (.files [0, 1, 2]) (.files [0, 1, 2]) true t && (let x := t.sub.toNat; x < 3)

/-- VIMAD (R142). -/
def wfLVimad (t : LTail) : Bool :=
  lOk true (.files [0, 1]) (.files [0, 1, 2]) (.files [0, 1, 2]) true t && (let x := t.sub.toNat; x == 0)

/-- VAND (R142). -/
def wfLVand (t : LTail) : Bool :=
  lOk true (.files [0, 1, 2]) (.files [0, 1, 2]) (.files [0, 1, 2]) true t && (let x := t.sub.toNat; x == 0)

/-- VOR (R142). -/
def wfLVor (t : LTail) : Bool :=
  lOk true (.files [0, 1, 2]) (.files [0, 1, 2]) (.files [0, 1, 2]) true t && (let x := t.sub.toNat; x == 0)

/-- VXOR (R142). -/
def wfLVxor (t : LTail) : Bool :=
  lOk true (.files [0, 1, 2]) (.files [0, 1, 2]) (.files [0, 1, 2]) true t && (let x := t.sub.toNat; x == 0)

/-- VSHL (R142). -/
def wfLVshl (t : LTail) : Bool :=
  lOk true (.files [0, 1, 2]) (.files [0, 1, 2]) (.files [0, 1, 2]) true t && (let x := t.sub.toNat; x == 0)

/-- VSHR (R142). -/
def wfLVshr (t : LTail) : Bool :=
  lOk true (.files [0, 1, 2]) (.files [0, 1, 2]) (.files [0, 1, 2]) true t && (let x := t.sub.toNat; x == 0)

/-- VSAR (R142). -/
def wfLVsar (t : LTail) : Bool :=
  lOk true (.files [0, 1, 2]) (.files [0, 1, 2]) (.files [0, 1, 2]) true t && (let x := t.sub.toNat; x == 0)

/-- VIMIN (R142). -/
def wfLVimin (t : LTail) : Bool :=
  lOk true (.files [0, 1, 2]) (.files [0, 1, 2]) (.files [0, 1, 2]) true t && (let x := t.sub.toNat; x < 2)

/-- VIMAX (R142). -/
def wfLVimax (t : LTail) : Bool :=
  lOk true (.files [0, 1, 2]) (.files [0, 1, 2]) (.files [0, 1, 2]) true t && (let x := t.sub.toNat; x < 2)

/-- VICMP (R143). -/
def wfLVicmp (t : LTail) : Bool :=
  lOk true (.files [3]) (.files [0, 1, 2]) (.files [0, 1, 2]) true t && (let x := t.sub.toNat; x < 6)

/-- VCVT (R147). -/
def wfLVcvt (t : LTail) : Bool :=
  lOk true (.files [0, 1, 2]) (.files [0, 1, 2]) .unused true t && (let x := t.sub.toNat; x < 256 && x % 8 < 5 && x / 8 % 16 < 9 && (x < 128 || (x / 8 % 16 != 3 && x / 8 % 16 != 5 && (x / 8 % 16 == 8 || x % 8 == 0))))

/-- VQNT (R150). -/
def wfLVqnt (t : LTail) : Bool :=
  lOk true (.files [0, 1, 2]) (.files [0, 1, 2]) (if bitAt t.sub 5 then .unused else .files [0, 1, 2]) true t && (let x := t.sub.toNat; x < 64 && x / 8 % 4 < 3 && x % 8 < 5 && (x < 32 || x % 8 == 0))

/-- VQXMAX (R149). -/
def wfLVqxmax (t : LTail) : Bool :=
  lOk true (.files [0]) (.files [0]) .unused true t && (let x := t.sub.toNat; x == 0)

/-- VPACK (R148). -/
def wfLVpack (t : LTail) : Bool :=
  lOk true (.files [0, 1, 2]) (.files [0, 1, 2]) (.files [0, 1, 2]) false t && (let x := t.sub.toNat; x < 3)

/-- VUNPK (R148). -/
def wfLVunpk (t : LTail) : Bool :=
  lOk true (.files [0, 1, 2]) (.files [0, 1, 2]) .unused false t && (let x := t.sub.toNat; x < 64 && x % 4 < 3 && x / 8 < 2 * 2 ^ (x % 4))

/-- VRSUM (R151). -/
def wfLVrsum (t : LTail) : Bool :=
  lOk true (.files [0, 1, 2]) (.files [0, 1, 2]) .unused true t && (let x := t.sub.toNat; x < 8 && (x < 4 || x == 4))

/-- VRMAX (R151). -/
def wfLVrmax (t : LTail) : Bool :=
  lOk true (.files [0, 1, 2]) (.files [0, 1, 2]) .unused true t && (let x := t.sub.toNat; x == 0 || x == 4 || x == 12)

/-- VRMIN (R151). -/
def wfLVrmin (t : LTail) : Bool :=
  lOk true (.files [0, 1, 2]) (.files [0, 1, 2]) .unused true t && (let x := t.sub.toNat; x == 0 || x == 4 || x == 12)

/-- VSCAN (R152). -/
def wfLVscan (t : LTail) : Bool :=
  lOk true (.files [0, 1, 2]) (.files [0, 1, 2]) .unused true t && (let x := t.sub.toNat; x < 32 && (x / 4 % 4 == 0 || x % 4 == 0))

/-- VTOPK (R153). -/
def wfLVtopk (t : LTail) : Bool :=
  lOk true (.files [0, 1, 2]) (.files [0, 1, 2]) (if t.sub == 0 then .unused else .files [0, 1, 2]) true t && (let x := t.sub.toNat; x < 2)

/-- VSHUF (R154). -/
def wfLVshuf (t : LTail) : Bool :=
  lOk true (.files [0, 1, 2]) (.files [0, 1, 2]) (.files [0, 1, 2]) true t && (let x := t.sub.toNat; x == 0)

/-- VROT (R154). -/
def wfLVrot (t : LTail) : Bool :=
  lOk true (.files [0, 1, 2]) (.files [0, 1, 2]) (.files [0, 1, 2]) true t && (let x := t.sub.toNat; x == 0)

/-- VROT (R154). -/
def wfWVrot (t : WTail) : Bool :=
  wOk true (.files [0]) (.files [0, 1, 2]) true t && (let x := t.sub.toNat; let y := t.imm.toNat; (x == 0) && (y < 32))

/-- VEXTR (R154). -/
def wfLVextr (t : LTail) : Bool :=
  lOk true (.files [0, 1, 2]) (.files [0, 1, 2]) (.files [0, 1, 2]) true t && (let x := t.sub.toNat; x == 0)

/-- VEXTR (R154). -/
def wfWVextr (t : WTail) : Bool :=
  wOk true (.files [0]) (.files [0, 1, 2]) true t && (let x := t.sub.toNat; let y := t.imm.toNat; (x == 0) && (y < 32))

/-- VINS (R154). -/
def wfLVins (t : LTail) : Bool :=
  lOk true (.files [0, 1, 2]) (.files [0, 1, 2]) (.files [0, 1, 2]) true t && (let x := t.sub.toNat; x == 0)

/-- VINS (R154). -/
def wfWVins (t : WTail) : Bool :=
  wOk true (.files [0]) (.files [0, 1, 2]) true t && (let x := t.sub.toNat; let y := t.imm.toNat; (x == 0) && (y < 32))

/-- VCOMP (R154). -/
def wfLVcomp (t : LTail) : Bool :=
  lOk true (.files [0, 1, 2]) (.files [0, 1, 2]) .unused true t && (let x := t.sub.toNat; x == 0)

/-- VEXPD (R154). -/
def wfLVexpd (t : LTail) : Bool :=
  lOk true (.files [0, 1, 2]) (.files [0, 1, 2]) .unused true t && (let x := t.sub.toNat; x == 0)

/-- VLD (R155). DESIGN CHOICE: the L form takes file code v for d only, though R132 lists m and q as defaults (R62, assumption 114). -/
def wfLVld (t : LTail) : Bool :=
  lOk true (.files [0]) (.files [1]) .unused true t && (let x := t.sub.toNat; x < 3)

/-- VLD (R155). -/
def wfWVld (t : WTail) : Bool :=
  wOk true (.files [0]) (.files [5]) true t && (let x := t.sub.toNat; x < 3)

/-- VST (R155). -/
def wfLVst (t : LTail) : Bool :=
  lOk true (.files [1]) (.files [0, 2]) .unused true t && (let x := t.sub.toNat; x < 3)

/-- VST in the W form (R155). DESIGN CHOICE: its source is a v or q register, as in the L form (assumption 122). -/
def wfWVst (t : WTail) : Bool :=
  wOk true (.between 8 16 false) (.files [0, 2]) true t && (let x := t.sub.toNat; x < 3)

/-- VLDS (R156). -/
def wfLVlds (t : LTail) : Bool :=
  lOk true (.files [0, 1, 2]) (.files [1]) .unused true t && (let x := t.sub.toNat; x == 0)

/-- VGATH (R157). -/
def wfLVgath (t : LTail) : Bool :=
  lOk true (.files [0, 1, 2]) (.files [5]) (.files [0, 1, 2]) true t && (let x := t.sub.toNat; x == 0)

/-- VSCAT (R157). -/
def wfLVscat (t : LTail) : Bool :=
  lOk true (.files [5]) (.files [0, 1, 2]) (.files [0, 1, 2]) true t && (let x := t.sub.toNat; x == 0)

/-- KOP (R146). -/
def wfLKop (t : LTail) : Bool :=
  lOk true (.files [3]) (.files [3]) (if t.sub.toNat < 4 then .files [3] else .unused) true t && (let x := t.sub.toNat; x < 6)

/-- KCNT (R146). -/
def wfLKcnt (t : LTail) : Bool :=
  lOk true (.files [0, 1, 2]) (.files [3]) .unused true t && (let x := t.sub.toNat; x < 3)

/-- VIOTA (R146). -/
def wfLViota (t : LTail) : Bool :=
  lOk true (.files [0, 1, 2]) .unused .unused true t && (let x := t.sub.toNat; x == 0)

/-- VIOTA K (R146). -/
def wfLViotaK (t : LTail) : Bool :=
  lOk true (.files [0, 1, 2]) (.files [3]) .unused true t && (let x := t.sub.toNat; x == 1)

/-- A term is a valid encoding. The rows of the opcode table that are no instruction words are not encodings. -/
def Instr.wf : Instr → Bool
  | .nop => true
  | .mov t => wfLMov t.toL
  | .movL t => wfLMov t
  | .movE t => wfLMovE t.toL
  | .movEL t => wfLMovE t
  | .movi t => true
  | .add t => wfLAdd t.toL
  | .addL t => wfLAdd t
  | .sub t => wfLSub t.toL
  | .subL t => wfLSub t
  | .addi t => wfWAddi t
  | .mul t => wfLMul t.toL
  | .mulL t => wfLMul t
  | .mulh t => wfLMulh t.toL
  | .mulhL t => wfLMulh t
  | .div t => wfLDiv t.toL
  | .divL t => wfLDiv t
  | .rem t => wfLRem t.toL
  | .remL t => wfLRem t
  | .and t => wfLAnd t.toL
  | .andL t => wfLAnd t
  | .or t => wfLOr t.toL
  | .orL t => wfLOr t
  | .xor t => wfLXor t.toL
  | .xorL t => wfLXor t
  | .andn t => wfLAndn t.toL
  | .andnL t => wfLAndn t
  | .shl t => wfLShl t.toL
  | .shlL t => wfLShl t
  | .shr t => wfLShr t.toL
  | .shrL t => wfLShr t
  | .sar t => wfLSar t.toL
  | .sarL t => wfLSar t
  | .rot t => wfLRot t.toL
  | .rotL t => wfLRot t
  | .shi t => wfWShi t
  | .logi t => wfWLogi t
  | .clz t => wfLClz t.toL
  | .clzL t => wfLClz t
  | .ctz t => wfLCtz t.toL
  | .ctzL t => wfLCtz t
  | .popc t => wfLPopc t.toL
  | .popcL t => wfLPopc t
  | .min t => wfLMin t.toL
  | .minL t => wfLMin t
  | .max t => wfLMax t.toL
  | .maxL t => wfLMax t
  | .minu t => wfLMinu t.toL
  | .minuL t => wfLMinu t
  | .maxu t => wfLMaxu t.toL
  | .maxuL t => wfLMaxu t
  | .sel t => wfLSel t
  | .cmp t => wfLCmp t.toL
  | .cmpL t => wfLCmp t
  | .cmpi t => wfWCmpi t
  | .ext t => wfWExt t
  | .ins t => wfWIns t
  | .bswap t => wfLBswap t.toL
  | .bswapL t => wfLBswap t
  | .lea (.l t) => wfLLea t
  | .lea (.w t) => wfWLea t
  | .pset (.l t) => wfLPset t
  | .pset (.w t) => wfWPset t
  | .padd t => wfWPadd t
  | .paddSt t => wfWPaddSt t
  | .pget t => wfLPget t
  | .j t => t.d == 0
  | .jr t => wfLJr t.toL
  | .jrLForm t => wfLJr t
  | .jrLink t => wfLJrLink t.toL
  | .jrLinkLForm t => wfLJrLink t
  | .call t => t.d == 0
  | .ret => true
  | .br t => wfWBr t
  | .bz t => wfWBz t
  | .bnz t => wfWBnz t
  | .loop t => wfWLoop t
  | .gbr t => wfWGbr t
  | .spawn t => wfWSpawn t
  | .stop => true
  | .trap t => wfWTrap t
  | .tret => true
  | .brk => true
  | .srd t => wfWSrd t
  | .swr t => wfWSwr t
  | .swrRndSeed t => wfWSwrRndSeed t
  | .swrReportQ t => wfWSwrReportQ t
  | .swrTrapVec t => wfWSwrTrapVec t
  | .swrWaitLimit t => wfWSwrWaitLimit t
  | .fence t => wfLFence t
  | .rfill t => wfLRfill t
  | .rget t => wfLRget t
  | .gfuse t => wfLGfuse t
  | .gsplit => true
  | .gred t => wfLGred t
  | .gxch t => wfLGxch t
  | .crew t => wfLCrew t
  | .cjoin t => wfLCjoin t.toL
  | .cjoinL t => wfLCjoin t
  | .cjoinX t => wfLCjoinX t.toL
  | .cjoinXL t => wfLCjoinX t
  | .acq (.l t) => wfLAcq t
  | .acq (.w t) => wfWAcq t
  | .acqm t => wfLAcqm t
  | .rel (.l t) => wfLRel t
  | .rel (.w t) => wfWRel t
  | .relm t => wfLRelm t
  | .hold t => wfLHold t
  | .ld (.l t) => wfLLd t
  | .ld (.w t) => wfWLd t
  | .st (.l t) => wfLSt t
  | .st (.w t) => wfWSt t
  | .ldf (.l t) => wfLLdf t
  | .ldf (.w t) => wfWLdf t
  | .ste (.l t) => wfLSte t
  | .ste (.w t) => wfWSte t
  | .stf (.l t) => wfLStf t
  | .stf (.w t) => wfWStf t
  | .steG (.l t) => wfLSteG t
  | .steG (.w _) => false
  | .stfG (.l t) => wfLStfG t
  | .stfG (.w t) => wfWStfG t
  | .tagQ (.l t) => wfLTagQ t
  | .tagQ (.w t) => wfWTagQ t
  | .tagE (.l t) => wfLTagE t
  | .tagE (.w t) => wfWTagE t
  | .tagF (.l t) => wfLTagF t
  | .tagF (.w t) => wfWTagF t
  | .tagWa (.l t) => wfLTagWa t
  | .tagWa (.w t) => wfWTagWa t
  | .ldg (.l t) => wfLLdg t
  | .ldg (.w t) => wfWLdg t
  | .stg (.l t) => wfLStg t
  | .stg (.w t) => wfWStg t
  | .amo t => wfLAmo t
  | .cas t => wfLCas t
  | .mflip => true
  | .ldt (.l t) => wfLLdt t
  | .ldt (.w t) => wfWLdt t
  | .rdm t => wfLRdm t.toL
  | .rdmL t => wfLRdm t
  | .rdms t => wfLRdms t.toL
  | .rdmsL t => wfLRdms t
  | .tkq t => wfLTkq t.toL
  | .tkqL t => wfLTkq t
  | .tkd t => wfLTkd t.toL
  | .tkdL t => wfLTkd t
  | .qbind t => wfWQbind t
  | .qunb d => decide (0 ≤ d.toNat) && decide (d.toNat < 16)
  | .qpush t => wfLQpush t.toL
  | .qpushL t => wfLQpush t
  | .qpop t => wfLQpop t.toL
  | .qpopL t => wfLQpop t
  | .qtry t => wfLQtry t.toL
  | .qtryL t => wfLQtry t
  | .qpeek t => wfLQpeek t.toL
  | .qpeekL t => wfLQpeek t
  | .qsel t => wfLQsel t
  | .qcancel (.l t) => wfLQcancel t
  | .qcancel (.w t) => wfWQcancel t
  | .qstat t => wfLQstat t
  | .qdone t => wfLQdone t.toL
  | .qdoneL t => wfLQdone t
  | .qdoneO t => wfLQdoneO t.toL
  | .qdoneOL t => wfLQdoneO t
  | .bcn t => wfLBcn t
  | .bpass => true
  | .rawait t => wfLRawait t
  | .rrel t => wfLRrel t
  | .rstat t => wfLRstat t
  | .barinit (.l t) => wfLBarinit t
  | .barinit (.w t) => wfWBarinit t
  | .bararv t => wfLBararv t
  | .barexp (.l t) => wfLBarexp t
  | .barexp (.w t) => wfWBarexp t
  | .barwait t => wfLBarwait t
  | .cpy t => wfLCpy t
  | .sbind t => wfLSbind t
  | .sunb d => decide (0 ≤ d.toNat) && decide (d.toNat < 32)
  | .mfill t => wfLMfill t
  | .mscl t => wfLMscl t
  | .mrule _ t => wfLMrule t
  | .mrulxTags t => wfLMrulxTags t
  | .mrulxFill t => wfLMrulxFill t
  | .mrulxFb t => wfLMrulxFb t
  | .mrulxNofb t => wfLMrulxNofb t
  | .mtag t => wfLMtag t
  | .mwait d => decide (0 ≤ d.toNat) && decide (d.toNat < 4)
  | .mwaitClr d => decide (4 ≤ d.toNat) && decide (d.toNat < 8)
  | .mdrain t => wfLMdrain t
  | .mclrAcc d => decide (0 ≤ d.toNat) && decide (d.toNat < 4)
  | .mclrSlot d => decide (32 ≤ d.toNat) && decide (d.toNat < 48)
  | .mstat t => wfLMstat t.toL
  | .mstatL t => wfLMstat t
  | .mred t => wfLMred t
  | .vnop => true
  | .vmov t => wfLVmov t.toL
  | .vmovL t => wfLVmov t
  | .vbcast (.l t) => wfLVbcast t
  | .vbcast (.w t) => wfWVbcast t
  | .vadd t => wfLVadd t.toL
  | .vaddL t => wfLVadd t
  | .vsub t => wfLVsub t.toL
  | .vsubL t => wfLVsub t
  | .vmul t => wfLVmul t.toL
  | .vmulL t => wfLVmul t
  | .vfma t => wfLVfma t.toL
  | .vfmaL t => wfLVfma t
  | .vfms t => wfLVfms t.toL
  | .vfmsL t => wfLVfms t
  | .vfnma t => wfLVfnma t.toL
  | .vfnmaL t => wfLVfnma t
  | .vmin t => wfLVmin t.toL
  | .vminL t => wfLVmin t
  | .vmax t => wfLVmax t.toL
  | .vmaxL t => wfLVmax t
  | .vabs t => wfLVabs t.toL
  | .vabsL t => wfLVabs t
  | .vneg t => wfLVneg t.toL
  | .vnegL t => wfLVneg t
  | .vdiv t => wfLVdiv t.toL
  | .vdivL t => wfLVdiv t
  | .vsqrt t => wfLVsqrt t.toL
  | .vsqrtL t => wfLVsqrt t
  | .vrcp t => wfLVrcp t.toL
  | .vrcpL t => wfLVrcp t
  | .vrsq t => wfLVrsq t.toL
  | .vrsqL t => wfLVrsq t
  | .vexp2 t => wfLVexp2 t.toL
  | .vexp2L t => wfLVexp2 t
  | .vlog2 t => wfLVlog2 t.toL
  | .vlog2L t => wfLVlog2 t
  | .vtanh t => wfLVtanh t.toL
  | .vtanhL t => wfLVtanh t
  | .vcmp t => wfLVcmp t
  | .vclass t => wfLVclass t
  | .vselk t => wfLVselk t
  | .viadd t => wfLViadd t.toL
  | .viaddL t => wfLViadd t
  | .visub t => wfLVisub t.toL
  | .visubL t => wfLVisub t
  | .vimul t => wfLVimul t.toL
  | .vimulL t => wfLVimul t
  | .vimad t => wfLVimad t.toL
  | .vimadL t => wfLVimad t
  | .vand t => wfLVand t.toL
  | .vandL t => wfLVand t
  | .vor t => wfLVor t.toL
  | .vorL t => wfLVor t
  | .vxor t => wfLVxor t.toL
  | .vxorL t => wfLVxor t
  | .vshl t => wfLVshl t.toL
  | .vshlL t => wfLVshl t
  | .vshr t => wfLVshr t.toL
  | .vshrL t => wfLVshr t
  | .vsar t => wfLVsar t.toL
  | .vsarL t => wfLVsar t
  | .vimin t => wfLVimin t.toL
  | .viminL t => wfLVimin t
  | .vimax t => wfLVimax t.toL
  | .vimaxL t => wfLVimax t
  | .vicmp t => wfLVicmp t
  | .vcvt t => wfLVcvt t
  | .vqnt t => wfLVqnt t
  | .vqxmax t => wfLVqxmax t
  | .vpack t => wfLVpack t
  | .vunpk t => wfLVunpk t
  | .vrsum t => wfLVrsum t.toL
  | .vrsumL t => wfLVrsum t
  | .vrmax t => wfLVrmax t.toL
  | .vrmaxL t => wfLVrmax t
  | .vrmin t => wfLVrmin t.toL
  | .vrminL t => wfLVrmin t
  | .vscan t => wfLVscan t
  | .vtopk t => wfLVtopk t
  | .vshuf t => wfLVshuf t
  | .vrot (.l t) => wfLVrot t
  | .vrot (.w t) => wfWVrot t
  | .vextr (.l t) => wfLVextr t
  | .vextr (.w t) => wfWVextr t
  | .vins (.l t) => wfLVins t
  | .vins (.w t) => wfWVins t
  | .vcomp t => wfLVcomp t
  | .vexpd t => wfLVexpd t
  | .vld (.l t) => wfLVld t
  | .vld (.w t) => wfWVld t
  | .vst (.l t) => wfLVst t
  | .vst (.w t) => wfWVst t
  | .vlds t => wfLVlds t
  | .vgath t => wfLVgath t
  | .vscat t => wfLVscat t
  | .kop t => wfLKop t
  | .kcnt t => wfLKcnt t
  | .viota t => wfLViota t.toL
  | .viotaL t => wfLViota t
  | .viotaK t => wfLViotaK t
  | .waitTimeout _ => false
  | .bankStarvationGrant _ _ => false
  | .longResultArrival _ => false
  | .registersDrowsy _ => false
  | .rfillArrival _ => false
  | .rfillEFill _ => false
  | .rgetArrival _ => false
  | .quarantineReturn _ _ _ => false
  | .postedStorePerformed _ => false
  | .remoteStoreArrival _ => false
  | .tlbWalkEnd _ _ _ => false
  | .ldtRequestArrival _ => false
  | .fetchDataStored _ => false
  | .redeemPresentation _ => false
  | .redeemAnswer _ => false
  | .deliveryComplete _ => false
  | .tkqPresentation _ => false
  | .tkdPresentation _ => false
  | .retirementNotice _ => false
  | .orphanReclaim _ _ => false
  | .itemStored _ => false
  | .cancelArrival _ => false
  | .endpointFailure _ _ => false
  | .beaconArrival _ => false
  | .forcedCutFreeze _ => false
  | .beaconForward _ _ => false
  | .barrierPhaseComplete _ _ => false
  | .engineCommandPop _ => false
  | .engineElement _ => false
  | .engineWaitEnd _ => false
  | .commandEnd _ => false
  | .ringWrite _ => false
  | .streamStripLand _ => false
  | .refreshWindowEnd _ _ => false
  | .pathRequestStart _ => false
  | .pathRequestComplete _ => false
  | .firingStart _ => false
  | .firingEnd _ => false
  | .feedbackWriteEnd _ => false
  | .drainComplete _ => false
  | .mredPartSent _ => false
  | .mredComplete _ => false
  | .schedulingPass => false
  | .placementLoad _ => false
  | .drainingComplete _ => false
  | .cutActionReplace _ => false
  | .cutActionPreempt _ => false
  | .cutActionStop _ => false
  | .cutActionCheckpoint _ => false
  | .quiesceEnd _ => false
  | .mapDone _ _ _ => false
  | .refusePage _ _ _ => false
  | .invalidatePage _ _ _ _ => false
  | .invalidateReply _ => false
  | .unknownTranslationCommand _ _ => false
  | .allocRequest _ _ _ _ => false
  | .freeRequest _ _ _ _ => false
  | .serviceRestart _ => false
  | .hostHello _ => false
  | .hostRegister _ => false
  | .hostUnregister _ => false
  | .hostPlace _ => false
  | .hostBeacon _ => false
  | .hostRead _ => false
  | .hostWrite _ => false
  | .hostPush _ => false
  | .pushTimeout _ => false
  | .hostAttest _ => false
  | .hostEnd _ => false
  | .hostRegionCap _ => false
  | .hostMeasure _ => false
  | .hostUnknownOperation _ => false
  | .frameDiscarded _ => false
  | .healthStatus _ => false
  | .healthSetCap _ => false
  | .healthLantern _ => false
  | .traceCounters _ => false
  | .traceDigest _ => false
  | .traceMask _ => false
  | .traceRecords _ => false
  | .tracePeriscope _ => false
  | .periscopeSnapshotEnd _ => false
  | .traceBreak _ => false
  | .traceClaim _ => false
  | .traceRelease _ => false
  | .traceWatch _ => false
  | .traceStatus _ => false
  | .traceResume _ => false
  | .powerSample _ _ => false
  | .powerLimit => false
  | .rampWaveEnable _ _ => false
  | .rampWaveDisable _ _ => false
  | .energyUpdate _ _ => false
  | .energyCap _ => false
  | .computeDieReset _ => false
  | .coldReset => false
  | .warmReset => false
  | .podNodeServe _ => false
  | .unreachable _ => false
  | .linkTraining _ _ => false
  | .flitReceive _ _ => false
  | .flitAck _ _ => false
  | .flitResend _ => false
  | .peerNoPath _ => false
  | .allreduceContribution _ _ _ _ => false
  | .illegalOpcode _ _ => false
  | .illegalLine _ _ _ => false
  | .registerBankWake _ => false
  | .powerRemoval => false
  | .globalAccessPerformed _ => false

end Sys2Proof
end

