-- ==== Sys2Proof/Decode.lean ====
section
/-!
DEFINITION. The decoder and the encoder of Soryx instructions (R20, R53 to R58, R65 to R67), and the decoding of a
64-byte line into bundles (R21 to R25).
-/
namespace Sys2Proof

/-- A head with its tail taken apart by form (R53 to R58). -/
inductive Form where
  | h (d : BitVec 6)
  | s (t : STail)
  | l (t : LTail)
  | w (t : WTail)
  | x (t : XTail)
  deriving DecidableEq, Repr

/-- The fields of an S tail (R55). -/
def sTailOf (d : BitVec 6) (t : BitVec 48) : STail :=
  { d := d, a := t.extractLsb' 10 6, b := t.extractLsb' 4 6, ta := t.getLsbD 3, tb := t.getLsbD 2, mod := t.extractLsb' 0 2 }

/-- The fields of an L tail (R56). -/
def lTailOf (d : BitVec 6) (t : BitVec 48) : LTail :=
  { d := d, fd := t.extractLsb' 30 2, a := t.extractLsb' 24 6, fa := t.extractLsb' 22 2, b := t.extractLsb' 16 6,
    fb := t.extractLsb' 14 2, ta := t.getLsbD 13, tb := t.getLsbD 12, k := t.extractLsb' 9 3, sub := t.extractLsb' 0 9 }

/-- The fields of a W tail (R57). -/
def wTailOf (d : BitVec 6) (t : BitVec 48) : WTail :=
  { d := d, a := t.extractLsb' 42 6, fa := t.extractLsb' 40 2, ta := t.getLsbD 39, k := t.extractLsb' 36 3,
    sub := t.extractLsb' 32 4, imm := t.extractLsb' 0 32 }

/-- The majors whose 48-bit tail is an X tail: MOVI, J and CALL (R65). -/
def isXMajor (vec : Bool) (major : Nat) : Bool := !vec && (major == 0x03 || major == 0x26 || major == 0x28)

/-- Take a head and its tail apart (R20, R53). -/
def formOf (head : BitVec 16) (tail : BitVec 48) : Form :=
  let d := head.extractLsb' 0 6
  match fieldNat head 14 2 with
  | 0 => .h d
  | 1 => .s (sTailOf d tail)
  | 2 => .l (lTailOf d tail)
  | _ =>
    if isXMajor (head.getLsbD 13) (fieldNat head 6 7) then .x { d := d, imm := tail } else .w (wTailOf d tail)

/-- A major that no instruction has (R67). -/
def rowNone : Form → Option Instr := fun _ => none

/-- A major with the H form whose d shall be zero (R54). -/
def rowH0 (i : Instr) : Form → Option Instr
  | .h d => if d = 0 then some i else none
  | _ => none

/-- A major with the H form only. -/
def rowH (f : BitVec 6 → Instr) : Form → Option Instr
  | .h d => some (f d)
  | _ => none

/-- A major with the S and L forms. -/
def rowSL (f : STail → Instr) (g : LTail → Instr) : Form → Option Instr
  | .s t => some (f t)
  | .l t => some (g t)
  | _ => none

/-- A major with the L form only. -/
def rowL (g : LTail → Instr) : Form → Option Instr
  | .l t => some (g t)
  | _ => none

/-- A major with the W form only. -/
def rowW (g : WTail → Instr) : Form → Option Instr
  | .w t => some (g t)
  | _ => none

/-- A major with the L and W forms; the first argument is the sub field. -/
def rowLW (g : Nat → LWTail → Instr) : Form → Option Instr
  | .l t => some (g t.sub.toNat (.l t))
  | .w t => some (g t.sub.toNat (.w t))
  | _ => none

/-- A major with the X form only. -/
def rowX (g : XTail → Instr) : Form → Option Instr
  | .x t => some (g t)
  | _ => none

/-- The rows of SWR by system register (R93). -/
def swrRow (t : WTail) : Instr :=
  match t.imm.toNat with
  | 0x010 => .swrWaitLimit t
  | 0x01B => .swrTrapVec t
  | 0x01C => .swrReportQ t
  | 0x020 => .swrRndSeed t
  | _ => .swr t

/-- The rows of MRULX by sub (R269). -/
def mrulxRow (t : LTail) : Instr :=
  match t.sub.toNat % 8 with
  | 0 => .mrulxTags t
  | 1 => .mrulxFill t
  | 2 => .mrulxFb t
  | _ => .mrulxNofb t

/-- The scalar-class majors 0x00 to 0x0F (R65). -/
noncomputable def scalarRows0 : List (Form → Option Instr) := [
  rowNone,
  rowH0 .nop,
  rowSL (fun t => if t.mod == 0 then .mov t else .movE t) (fun t => if t.sub == 0 then .movL t else .movEL t),
  rowX .movi,
  rowSL .add .addL,
  rowSL .sub .subL,
  rowW .addi,
  rowSL .mul .mulL,
  rowSL .mulh .mulhL,
  rowSL .div .divL,
  rowSL .rem .remL,
  rowSL .and .andL,
  rowSL .or .orL,
  rowSL .xor .xorL,
  rowSL .andn .andnL,
  rowSL .shl .shlL]

/-- The scalar-class majors 0x10 to 0x1F (R65). -/
noncomputable def scalarRows1 : List (Form → Option Instr) := [
  rowSL .shr .shrL,
  rowSL .sar .sarL,
  rowSL .rot .rotL,
  rowW .shi,
  rowW .logi,
  rowSL .clz .clzL,
  rowSL .ctz .ctzL,
  rowSL .popc .popcL,
  rowSL .min .minL,
  rowSL .max .maxL,
  rowSL .minu .minuL,
  rowSL .maxu .maxuL,
  rowL .sel,
  rowSL .cmp .cmpL,
  rowW .cmpi,
  rowW .ext]

/-- The scalar-class majors 0x20 to 0x2F (R65). -/
noncomputable def scalarRows2 : List (Form → Option Instr) := [
  rowW .ins,
  rowSL .bswap .bswapL,
  rowLW (fun _ t => .lea t),
  rowLW (fun _ t => .pset t),
  rowW (fun t => if t.sub == 0 then .padd t else .paddSt t),
  rowL .pget,
  rowX .j,
  rowSL (fun t => if t.mod == 0 then .jr t else .jrLink t) (fun t => if t.sub == 0 then .jrLForm t else .jrLinkLForm t),
  rowX .call,
  rowH0 .ret,
  rowW .br,
  rowW (fun t => if t.sub == 0 then .bz t else .bnz t),
  rowW .loop,
  rowW .gbr,
  rowW .spawn,
  rowH0 .stop]

/-- The scalar-class majors 0x30 to 0x3F (R65). -/
noncomputable def scalarRows3 : List (Form → Option Instr) := [
  rowW .trap,
  rowH0 .tret,
  rowW .srd,
  rowW swrRow,
  rowL .fence,
  rowH0 .brk,
  rowL .rfill,
  rowL .rget,
  rowL .gfuse,
  rowH0 .gsplit,
  rowL .gred,
  rowL .gxch,
  rowL .crew,
  rowSL (fun t => if t.mod == 0 then .cjoin t else .cjoinX t) (fun t => if t.sub == 0 then .cjoinL t else .cjoinXL t),
  rowLW (fun _ t => .acq t),
  rowL .acqm]

/-- The scalar-class majors 0x40 to 0x4F (R65). -/
noncomputable def scalarRows4 : List (Form → Option Instr) := [
  rowLW (fun _ t => .rel t),
  rowL .relm,
  rowL .hold,
  rowLW (fun _ t => .ld t),
  rowLW (fun _ t => .st t),
  rowLW (fun _ t => .ldf t),
  rowLW (fun x t => if x % 4 == 0 then .ste t else if x % 4 == 1 then .stf t else if x % 4 == 2 then .steG t else .stfG t),
  rowLW (fun x t => if x % 4 == 0 then .tagQ t else if x % 4 == 1 then .tagE t else if x % 4 == 2 then .tagF t else .tagWa t),
  rowLW (fun _ t => .ldg t),
  rowLW (fun _ t => .stg t),
  rowL .amo,
  rowL .cas,
  rowLW (fun _ t => .ldt t),
  rowSL .rdm .rdmL,
  rowSL .rdms .rdmsL,
  rowSL .tkq .tkqL]

/-- The scalar-class majors 0x50 to 0x5F (R65). -/
noncomputable def scalarRows5 : List (Form → Option Instr) := [
  rowSL .tkd .tkdL,
  rowW .qbind,
  rowH .qunb,
  rowSL .qpush .qpushL,
  rowSL .qpop .qpopL,
  rowSL .qtry .qtryL,
  rowL .qsel,
  rowSL .qpeek .qpeekL,
  rowLW (fun _ t => .qcancel t),
  rowL .qstat,
  rowL .bcn,
  rowH0 .bpass,
  rowL .rawait,
  rowL .rrel,
  rowL .rstat,
  rowLW (fun _ t => .barinit t)]

/-- The scalar-class majors 0x60 to 0x6F (R65). -/
noncomputable def scalarRows6 : List (Form → Option Instr) := [
  rowL .bararv,
  rowLW (fun _ t => .barexp t),
  rowL .barwait,
  rowL .cpy,
  rowL .sbind,
  rowH .sunb,
  rowH0 .mflip,
  rowL mrulxRow,
  rowL .mfill,
  rowL .mscl,
  rowL .mdrain,
  rowH (fun d => if d.toNat < 4 then .mwait d else .mwaitClr d),
  rowSL .mstat .mstatL,
  rowL .mred,
  rowL .mtag,
  rowH (fun d => if d.toNat < 32 then .mclrAcc d else .mclrSlot d)]

/-- The scalar-class majors 0x70 to 0x7F (R65). -/
noncomputable def scalarRows7 : List (Form → Option Instr) := [
  rowL (.mrule .e4e4),
  rowL (.mrule .e4e5),
  rowL (.mrule .e5e4),
  rowL (.mrule .e5e5),
  rowL (.mrule .bfbf),
  rowL (.mrule .hfhf),
  rowL (.mrule .i8i8),
  rowL (.mrule .e4q4),
  rowL (.mrule .f4f4),
  rowSL (fun t => if t.mod == 0 then .qdone t else .qdoneO t) (fun t => if t.sub == 0 then .qdoneL t else .qdoneOL t),
  rowNone,
  rowNone,
  rowNone,
  rowNone,
  rowNone,
  rowNone]

/-- The scalar-class majors in order (R65). -/
noncomputable def scalarRows : List (Form → Option Instr) :=
  scalarRows0 ++ scalarRows1 ++ scalarRows2 ++ scalarRows3 ++ scalarRows4 ++ scalarRows5 ++ scalarRows6 ++ scalarRows7

/-- The vector-class majors 0x00 to 0x0F (R66). -/
noncomputable def vectorRows0 : List (Form → Option Instr) := [
  rowH0 .vnop,
  rowSL .vmov .vmovL,
  rowLW (fun _ t => .vbcast t),
  rowSL .vadd .vaddL,
  rowSL .vsub .vsubL,
  rowSL .vmul .vmulL,
  rowSL .vfma .vfmaL,
  rowSL .vfms .vfmsL,
  rowSL .vfnma .vfnmaL,
  rowSL .vmin .vminL,
  rowSL .vmax .vmaxL,
  rowSL .vabs .vabsL,
  rowSL .vneg .vnegL,
  rowSL .vdiv .vdivL,
  rowSL .vsqrt .vsqrtL,
  rowSL .vrcp .vrcpL]

/-- The vector-class majors 0x10 to 0x1F (R66). -/
noncomputable def vectorRows1 : List (Form → Option Instr) := [
  rowSL .vrsq .vrsqL,
  rowSL .vexp2 .vexp2L,
  rowSL .vlog2 .vlog2L,
  rowSL .vtanh .vtanhL,
  rowL .vcmp,
  rowL .vclass,
  rowL .vselk,
  rowSL .viadd .viaddL,
  rowSL .visub .visubL,
  rowSL .vimul .vimulL,
  rowSL .vimad .vimadL,
  rowSL .vand .vandL,
  rowSL .vor .vorL,
  rowSL .vxor .vxorL,
  rowSL .vshl .vshlL,
  rowSL .vshr .vshrL]

/-- The vector-class majors 0x20 to 0x2F (R66). -/
noncomputable def vectorRows2 : List (Form → Option Instr) := [
  rowSL .vsar .vsarL,
  rowSL .vimin .viminL,
  rowSL .vimax .vimaxL,
  rowL .vicmp,
  rowL .vcvt,
  rowL .vqnt,
  rowL .vqxmax,
  rowL .vpack,
  rowL .vunpk,
  rowSL .vrsum .vrsumL,
  rowSL .vrmax .vrmaxL,
  rowSL .vrmin .vrminL,
  rowL .vscan,
  rowL .vtopk,
  rowL .vshuf,
  rowLW (fun _ t => .vrot t)]

/-- The vector-class majors 0x30 to 0x3F (R66). -/
noncomputable def vectorRows3 : List (Form → Option Instr) := [
  rowLW (fun _ t => .vextr t),
  rowLW (fun _ t => .vins t),
  rowL .vcomp,
  rowL .vexpd,
  rowLW (fun _ t => .vld t),
  rowLW (fun _ t => .vst t),
  rowL .vlds,
  rowL .vgath,
  rowL .vscat,
  rowL .kop,
  rowL .kcnt,
  rowSL .viota (fun t => if t.sub == 0 then .viotaL t else .viotaK t),
  rowNone,
  rowNone,
  rowNone,
  rowNone]

/-- The vector-class majors in order (R66). -/
noncomputable def vectorRows : List (Form → Option Instr) :=
  vectorRows0 ++ vectorRows1 ++ vectorRows2 ++ vectorRows3

/-- The instruction of a head and its tail, valid or not (R65, R66). -/
noncomputable def rawInstr (head : BitVec 16) (tail : BitVec 48) : Option Instr :=
  (if head.getLsbD 13 then vectorRows else scalarRows).getD (fieldNat head 6 7) rowNone (formOf head tail)

/-- The instruction a head and its tail encode, or none where the encoding raises ILLEGAL_OPCODE (R67). -/
noncomputable def decodeHalf (head : BitVec 16) (tail : BitVec 48) : Option Instr :=
  match rawInstr head tail with
  | some i => if i.wf then some i else none
  | none => none

/-- The table numbers a row's bits with the head above its tail; a tail may be given short, and the missing bits
are zero. -/
noncomputable def decodeTableWord (nbits w : Nat) : Option Instr :=
  decodeHalf (BitVec.ofNat 16 (w / 2 ^ (nbits - 16))) (BitVec.ofNat 48 (w % 2 ^ (nbits - 16)))

/-- An S tail as bits (R55). -/
def packS (t : STail) : BitVec 48 :=
  (t.a ++ t.b ++ BitVec.ofBool t.ta ++ BitVec.ofBool t.tb ++ t.mod : BitVec 16).setWidth 48

/-- An L tail as bits (R56). -/
def packL (t : LTail) : BitVec 48 :=
  (t.fd ++ t.a ++ t.fa ++ t.b ++ t.fb ++ BitVec.ofBool t.ta ++ BitVec.ofBool t.tb ++ t.k ++ t.sub : BitVec 32).setWidth 48

/-- A W tail as bits (R57). -/
def packW (t : WTail) : BitVec 48 :=
  (t.a ++ t.fa ++ BitVec.ofBool t.ta ++ t.k ++ t.sub ++ t.imm : BitVec 48)

/-- A head from its fields (R20). -/
def packHead (tlen : BitVec 2) (vec : Bool) (major : BitVec 7) (d : BitVec 6) : BitVec 16 :=
  tlen ++ BitVec.ofBool vec ++ major ++ d

/-- Head and tail of an H-form instruction. -/
def encH (vec : Bool) (major : BitVec 7) (d : BitVec 6) : BitVec 16 × BitVec 48 := (packHead 0 vec major d, 0)

/-- Head and tail of an S-form instruction. -/
def encS (vec : Bool) (major : BitVec 7) (t : STail) : BitVec 16 × BitVec 48 := (packHead 1 vec major t.d, packS t)

/-- Head and tail of an L-form instruction. -/
def encL (vec : Bool) (major : BitVec 7) (t : LTail) : BitVec 16 × BitVec 48 := (packHead 2 vec major t.d, packL t)

/-- Head and tail of a W-form instruction. -/
def encW (vec : Bool) (major : BitVec 7) (t : WTail) : BitVec 16 × BitVec 48 := (packHead 3 vec major t.d, packW t)

/-- Head and tail of an X-form instruction. -/
def encX (vec : Bool) (major : BitVec 7) (t : XTail) : BitVec 16 × BitVec 48 := (packHead 3 vec major t.d, t.imm)

/-- Head and tail of an instruction in its L or W form. -/
def encLW (vec : Bool) (major : BitVec 7) : LWTail → BitVec 16 × BitVec 48
  | .l t => encL vec major t
  | .w t => encW vec major t

/-- The majors of MRULE (R65). -/
def Pair.major : Pair → BitVec 7
  | .e4e4 => 0x70
  | .e4e5 => 0x71
  | .e5e4 => 0x72
  | .e5e5 => 0x73
  | .bfbf => 0x74
  | .hfhf => 0x75
  | .i8i8 => 0x76
  | .e4q4 => 0x77
  | .f4f4 => 0x78

/-- The head and the tail of an instruction (R20, R53 to R58); none for a row that is no instruction word. -/
def encode : Instr → Option (BitVec 16 × BitVec 48)
  | .nop => some (encH false 0x01 0)
  | .mov t => some (encS false 0x02 t)
  | .movL t => some (encL false 0x02 t)
  | .movE t => some (encS false 0x02 t)
  | .movEL t => some (encL false 0x02 t)
  | .movi t => some (encX false 0x03 t)
  | .add t => some (encS false 0x04 t)
  | .addL t => some (encL false 0x04 t)
  | .sub t => some (encS false 0x05 t)
  | .subL t => some (encL false 0x05 t)
  | .addi t => some (encW false 0x06 t)
  | .mul t => some (encS false 0x07 t)
  | .mulL t => some (encL false 0x07 t)
  | .mulh t => some (encS false 0x08 t)
  | .mulhL t => some (encL false 0x08 t)
  | .div t => some (encS false 0x09 t)
  | .divL t => some (encL false 0x09 t)
  | .rem t => some (encS false 0x0A t)
  | .remL t => some (encL false 0x0A t)
  | .and t => some (encS false 0x0B t)
  | .andL t => some (encL false 0x0B t)
  | .or t => some (encS false 0x0C t)
  | .orL t => some (encL false 0x0C t)
  | .xor t => some (encS false 0x0D t)
  | .xorL t => some (encL false 0x0D t)
  | .andn t => some (encS false 0x0E t)
  | .andnL t => some (encL false 0x0E t)
  | .shl t => some (encS false 0x0F t)
  | .shlL t => some (encL false 0x0F t)
  | .shr t => some (encS false 0x10 t)
  | .shrL t => some (encL false 0x10 t)
  | .sar t => some (encS false 0x11 t)
  | .sarL t => some (encL false 0x11 t)
  | .rot t => some (encS false 0x12 t)
  | .rotL t => some (encL false 0x12 t)
  | .shi t => some (encW false 0x13 t)
  | .logi t => some (encW false 0x14 t)
  | .clz t => some (encS false 0x15 t)
  | .clzL t => some (encL false 0x15 t)
  | .ctz t => some (encS false 0x16 t)
  | .ctzL t => some (encL false 0x16 t)
  | .popc t => some (encS false 0x17 t)
  | .popcL t => some (encL false 0x17 t)
  | .min t => some (encS false 0x18 t)
  | .minL t => some (encL false 0x18 t)
  | .max t => some (encS false 0x19 t)
  | .maxL t => some (encL false 0x19 t)
  | .minu t => some (encS false 0x1A t)
  | .minuL t => some (encL false 0x1A t)
  | .maxu t => some (encS false 0x1B t)
  | .maxuL t => some (encL false 0x1B t)
  | .sel t => some (encL false 0x1C t)
  | .cmp t => some (encS false 0x1D t)
  | .cmpL t => some (encL false 0x1D t)
  | .cmpi t => some (encW false 0x1E t)
  | .ext t => some (encW false 0x1F t)
  | .ins t => some (encW false 0x20 t)
  | .bswap t => some (encS false 0x21 t)
  | .bswapL t => some (encL false 0x21 t)
  | .lea t => some (encLW false 0x22 t)
  | .pset t => some (encLW false 0x23 t)
  | .padd t => some (encW false 0x24 t)
  | .paddSt t => some (encW false 0x24 t)
  | .pget t => some (encL false 0x25 t)
  | .j t => some (encX false 0x26 t)
  | .jr t => some (encS false 0x27 t)
  | .jrLForm t => some (encL false 0x27 t)
  | .jrLink t => some (encS false 0x27 t)
  | .jrLinkLForm t => some (encL false 0x27 t)
  | .call t => some (encX false 0x28 t)
  | .ret => some (encH false 0x29 0)
  | .br t => some (encW false 0x2A t)
  | .bz t => some (encW false 0x2B t)
  | .bnz t => some (encW false 0x2B t)
  | .loop t => some (encW false 0x2C t)
  | .gbr t => some (encW false 0x2D t)
  | .spawn t => some (encW false 0x2E t)
  | .stop => some (encH false 0x2F 0)
  | .trap t => some (encW false 0x30 t)
  | .tret => some (encH false 0x31 0)
  | .brk => some (encH false 0x35 0)
  | .srd t => some (encW false 0x32 t)
  | .swr t => some (encW false 0x33 t)
  | .swrRndSeed t => some (encW false 0x33 t)
  | .swrReportQ t => some (encW false 0x33 t)
  | .swrTrapVec t => some (encW false 0x33 t)
  | .swrWaitLimit t => some (encW false 0x33 t)
  | .fence t => some (encL false 0x34 t)
  | .rfill t => some (encL false 0x36 t)
  | .rget t => some (encL false 0x37 t)
  | .gfuse t => some (encL false 0x38 t)
  | .gsplit => some (encH false 0x39 0)
  | .gred t => some (encL false 0x3A t)
  | .gxch t => some (encL false 0x3B t)
  | .crew t => some (encL false 0x3C t)
  | .cjoin t => some (encS false 0x3D t)
  | .cjoinL t => some (encL false 0x3D t)
  | .cjoinX t => some (encS false 0x3D t)
  | .cjoinXL t => some (encL false 0x3D t)
  | .acq t => some (encLW false 0x3E t)
  | .acqm t => some (encL false 0x3F t)
  | .rel t => some (encLW false 0x40 t)
  | .relm t => some (encL false 0x41 t)
  | .hold t => some (encL false 0x42 t)
  | .ld t => some (encLW false 0x43 t)
  | .st t => some (encLW false 0x44 t)
  | .ldf t => some (encLW false 0x45 t)
  | .ste t => some (encLW false 0x46 t)
  | .stf t => some (encLW false 0x46 t)
  | .steG t => some (encLW false 0x46 t)
  | .stfG t => some (encLW false 0x46 t)
  | .tagQ t => some (encLW false 0x47 t)
  | .tagE t => some (encLW false 0x47 t)
  | .tagF t => some (encLW false 0x47 t)
  | .tagWa t => some (encLW false 0x47 t)
  | .ldg t => some (encLW false 0x48 t)
  | .stg t => some (encLW false 0x49 t)
  | .amo t => some (encL false 0x4A t)
  | .cas t => some (encL false 0x4B t)
  | .mflip => some (encH false 0x66 0)
  | .ldt t => some (encLW false 0x4C t)
  | .rdm t => some (encS false 0x4D t)
  | .rdmL t => some (encL false 0x4D t)
  | .rdms t => some (encS false 0x4E t)
  | .rdmsL t => some (encL false 0x4E t)
  | .tkq t => some (encS false 0x4F t)
  | .tkqL t => some (encL false 0x4F t)
  | .tkd t => some (encS false 0x50 t)
  | .tkdL t => some (encL false 0x50 t)
  | .qbind t => some (encW false 0x51 t)
  | .qunb d => some (encH false 0x52 d)
  | .qpush t => some (encS false 0x53 t)
  | .qpushL t => some (encL false 0x53 t)
  | .qpop t => some (encS false 0x54 t)
  | .qpopL t => some (encL false 0x54 t)
  | .qtry t => some (encS false 0x55 t)
  | .qtryL t => some (encL false 0x55 t)
  | .qpeek t => some (encS false 0x57 t)
  | .qpeekL t => some (encL false 0x57 t)
  | .qsel t => some (encL false 0x56 t)
  | .qcancel t => some (encLW false 0x58 t)
  | .qstat t => some (encL false 0x59 t)
  | .qdone t => some (encS false 0x79 t)
  | .qdoneL t => some (encL false 0x79 t)
  | .qdoneO t => some (encS false 0x79 t)
  | .qdoneOL t => some (encL false 0x79 t)
  | .bcn t => some (encL false 0x5A t)
  | .bpass => some (encH false 0x5B 0)
  | .rawait t => some (encL false 0x5C t)
  | .rrel t => some (encL false 0x5D t)
  | .rstat t => some (encL false 0x5E t)
  | .barinit t => some (encLW false 0x5F t)
  | .bararv t => some (encL false 0x60 t)
  | .barexp t => some (encLW false 0x61 t)
  | .barwait t => some (encL false 0x62 t)
  | .cpy t => some (encL false 0x63 t)
  | .sbind t => some (encL false 0x64 t)
  | .sunb d => some (encH false 0x65 d)
  | .mfill t => some (encL false 0x68 t)
  | .mscl t => some (encL false 0x69 t)
  | .mrule p t => some (encL false p.major t)
  | .mrulxTags t => some (encL false 0x67 t)
  | .mrulxFill t => some (encL false 0x67 t)
  | .mrulxFb t => some (encL false 0x67 t)
  | .mrulxNofb t => some (encL false 0x67 t)
  | .mtag t => some (encL false 0x6E t)
  | .mwait d => some (encH false 0x6B d)
  | .mwaitClr d => some (encH false 0x6B d)
  | .mdrain t => some (encL false 0x6A t)
  | .mclrAcc d => some (encH false 0x6F d)
  | .mclrSlot d => some (encH false 0x6F d)
  | .mstat t => some (encS false 0x6C t)
  | .mstatL t => some (encL false 0x6C t)
  | .mred t => some (encL false 0x6D t)
  | .vnop => some (encH true 0x00 0)
  | .vmov t => some (encS true 0x01 t)
  | .vmovL t => some (encL true 0x01 t)
  | .vbcast t => some (encLW true 0x02 t)
  | .vadd t => some (encS true 0x03 t)
  | .vaddL t => some (encL true 0x03 t)
  | .vsub t => some (encS true 0x04 t)
  | .vsubL t => some (encL true 0x04 t)
  | .vmul t => some (encS true 0x05 t)
  | .vmulL t => some (encL true 0x05 t)
  | .vfma t => some (encS true 0x06 t)
  | .vfmaL t => some (encL true 0x06 t)
  | .vfms t => some (encS true 0x07 t)
  | .vfmsL t => some (encL true 0x07 t)
  | .vfnma t => some (encS true 0x08 t)
  | .vfnmaL t => some (encL true 0x08 t)
  | .vmin t => some (encS true 0x09 t)
  | .vminL t => some (encL true 0x09 t)
  | .vmax t => some (encS true 0x0A t)
  | .vmaxL t => some (encL true 0x0A t)
  | .vabs t => some (encS true 0x0B t)
  | .vabsL t => some (encL true 0x0B t)
  | .vneg t => some (encS true 0x0C t)
  | .vnegL t => some (encL true 0x0C t)
  | .vdiv t => some (encS true 0x0D t)
  | .vdivL t => some (encL true 0x0D t)
  | .vsqrt t => some (encS true 0x0E t)
  | .vsqrtL t => some (encL true 0x0E t)
  | .vrcp t => some (encS true 0x0F t)
  | .vrcpL t => some (encL true 0x0F t)
  | .vrsq t => some (encS true 0x10 t)
  | .vrsqL t => some (encL true 0x10 t)
  | .vexp2 t => some (encS true 0x11 t)
  | .vexp2L t => some (encL true 0x11 t)
  | .vlog2 t => some (encS true 0x12 t)
  | .vlog2L t => some (encL true 0x12 t)
  | .vtanh t => some (encS true 0x13 t)
  | .vtanhL t => some (encL true 0x13 t)
  | .vcmp t => some (encL true 0x14 t)
  | .vclass t => some (encL true 0x15 t)
  | .vselk t => some (encL true 0x16 t)
  | .viadd t => some (encS true 0x17 t)
  | .viaddL t => some (encL true 0x17 t)
  | .visub t => some (encS true 0x18 t)
  | .visubL t => some (encL true 0x18 t)
  | .vimul t => some (encS true 0x19 t)
  | .vimulL t => some (encL true 0x19 t)
  | .vimad t => some (encS true 0x1A t)
  | .vimadL t => some (encL true 0x1A t)
  | .vand t => some (encS true 0x1B t)
  | .vandL t => some (encL true 0x1B t)
  | .vor t => some (encS true 0x1C t)
  | .vorL t => some (encL true 0x1C t)
  | .vxor t => some (encS true 0x1D t)
  | .vxorL t => some (encL true 0x1D t)
  | .vshl t => some (encS true 0x1E t)
  | .vshlL t => some (encL true 0x1E t)
  | .vshr t => some (encS true 0x1F t)
  | .vshrL t => some (encL true 0x1F t)
  | .vsar t => some (encS true 0x20 t)
  | .vsarL t => some (encL true 0x20 t)
  | .vimin t => some (encS true 0x21 t)
  | .viminL t => some (encL true 0x21 t)
  | .vimax t => some (encS true 0x22 t)
  | .vimaxL t => some (encL true 0x22 t)
  | .vicmp t => some (encL true 0x23 t)
  | .vcvt t => some (encL true 0x24 t)
  | .vqnt t => some (encL true 0x25 t)
  | .vqxmax t => some (encL true 0x26 t)
  | .vpack t => some (encL true 0x27 t)
  | .vunpk t => some (encL true 0x28 t)
  | .vrsum t => some (encS true 0x29 t)
  | .vrsumL t => some (encL true 0x29 t)
  | .vrmax t => some (encS true 0x2A t)
  | .vrmaxL t => some (encL true 0x2A t)
  | .vrmin t => some (encS true 0x2B t)
  | .vrminL t => some (encL true 0x2B t)
  | .vscan t => some (encL true 0x2C t)
  | .vtopk t => some (encL true 0x2D t)
  | .vshuf t => some (encL true 0x2E t)
  | .vrot t => some (encLW true 0x2F t)
  | .vextr t => some (encLW true 0x30 t)
  | .vins t => some (encLW true 0x31 t)
  | .vcomp t => some (encL true 0x32 t)
  | .vexpd t => some (encL true 0x33 t)
  | .vld t => some (encLW true 0x34 t)
  | .vst t => some (encLW true 0x35 t)
  | .vlds t => some (encL true 0x36 t)
  | .vgath t => some (encL true 0x37 t)
  | .vscat t => some (encL true 0x38 t)
  | .kop t => some (encL true 0x39 t)
  | .kcnt t => some (encL true 0x3A t)
  | .viota t => some (encS true 0x3B t)
  | .viotaL t => some (encL true 0x3B t)
  | .viotaK t => some (encL true 0x3B t)
  | .waitTimeout _ => none
  | .bankStarvationGrant _ _ => none
  | .longResultArrival _ => none
  | .registersDrowsy _ => none
  | .rfillArrival _ => none
  | .rfillEFill _ => none
  | .rgetArrival _ => none
  | .quarantineReturn _ _ _ => none
  | .postedStorePerformed _ => none
  | .remoteStoreArrival _ => none
  | .tlbWalkEnd _ _ _ => none
  | .ldtRequestArrival _ => none
  | .fetchDataStored _ => none
  | .redeemPresentation _ => none
  | .redeemAnswer _ => none
  | .deliveryComplete _ => none
  | .tkqPresentation _ => none
  | .tkdPresentation _ => none
  | .retirementNotice _ => none
  | .orphanReclaim _ _ => none
  | .itemStored _ => none
  | .cancelArrival _ => none
  | .endpointFailure _ _ => none
  | .beaconArrival _ => none
  | .forcedCutFreeze _ => none
  | .beaconForward _ _ => none
  | .barrierPhaseComplete _ _ => none
  | .engineCommandPop _ => none
  | .engineElement _ => none
  | .engineWaitEnd _ => none
  | .commandEnd _ => none
  | .ringWrite _ => none
  | .streamStripLand _ => none
  | .refreshWindowEnd _ _ => none
  | .pathRequestStart _ => none
  | .pathRequestComplete _ => none
  | .firingStart _ => none
  | .firingEnd _ => none
  | .feedbackWriteEnd _ => none
  | .drainComplete _ => none
  | .mredPartSent _ => none
  | .mredComplete _ => none
  | .schedulingPass => none
  | .placementLoad _ => none
  | .drainingComplete _ => none
  | .cutActionReplace _ => none
  | .cutActionPreempt _ => none
  | .cutActionStop _ => none
  | .cutActionCheckpoint _ => none
  | .quiesceEnd _ => none
  | .mapDone _ _ _ => none
  | .refusePage _ _ _ => none
  | .invalidatePage _ _ _ _ => none
  | .invalidateReply _ => none
  | .unknownTranslationCommand _ _ => none
  | .allocRequest _ _ _ _ => none
  | .freeRequest _ _ _ _ => none
  | .serviceRestart _ => none
  | .hostHello _ => none
  | .hostRegister _ => none
  | .hostUnregister _ => none
  | .hostPlace _ => none
  | .hostBeacon _ => none
  | .hostRead _ => none
  | .hostWrite _ => none
  | .hostPush _ => none
  | .pushTimeout _ => none
  | .hostAttest _ => none
  | .hostEnd _ => none
  | .hostRegionCap _ => none
  | .hostMeasure _ => none
  | .hostUnknownOperation _ => none
  | .frameDiscarded _ => none
  | .healthStatus _ => none
  | .healthSetCap _ => none
  | .healthLantern _ => none
  | .traceCounters _ => none
  | .traceDigest _ => none
  | .traceMask _ => none
  | .traceRecords _ => none
  | .tracePeriscope _ => none
  | .periscopeSnapshotEnd _ => none
  | .traceBreak _ => none
  | .traceClaim _ => none
  | .traceRelease _ => none
  | .traceWatch _ => none
  | .traceStatus _ => none
  | .traceResume _ => none
  | .powerSample _ _ => none
  | .powerLimit => none
  | .rampWaveEnable _ _ => none
  | .rampWaveDisable _ _ => none
  | .energyUpdate _ _ => none
  | .energyCap _ => none
  | .computeDieReset _ => none
  | .coldReset => none
  | .warmReset => none
  | .podNodeServe _ => none
  | .unreachable _ => none
  | .linkTraining _ _ => none
  | .flitReceive _ _ => none
  | .flitAck _ _ => none
  | .flitResend _ => none
  | .peerNoPath _ => none
  | .allreduceContribution _ _ _ _ => none
  | .illegalOpcode _ _ => none
  | .illegalLine _ _ _ => none
  | .registerBankWake _ => none
  | .powerRemoval => none
  | .globalAccessPerformed _ => none

/-- The offending instruction as TRAP_INFO holds it: the head in [15:0] and the tail in [63:16] (R68). -/
def instrWord (head : BitVec 16) (tail : BitVec 48) : Word := tail ++ head

/-- TRAP_INFO of an instruction for ILLEGAL_OPCODE and PRIVILEGED (R68). -/
def Instr.word (i : Instr) : Word :=
  match encode i with
  | some (h, t) => instrWord h t
  | none => 0

/-- A 64-byte line of the instruction store: its 32 units of 16 bits, unit n at bytes 2n and 2n + 1 (R21). Units
beyond the list are zero. -/
abbrev Line := List (BitVec 16)

/-- The 16-bit unit at byte off of a line, off even (R21). -/
def lineHalf (l : Line) (off : Nat) : BitVec 16 := l.getD (off / 2) 0

/-- A head of a line with its index and its tail (R21). -/
structure Head where
  idx : Nat
  bits : BitVec 16
  tail : BitVec 48
  deriving DecidableEq, Repr

/-- The tail of n units that begins at tail unit s; unit u is at byte 62 - 2u (R21). -/
def lineTail (l : Line) (s n : Nat) : BitVec 48 :=
  let u := fun j => if j < n then lineHalf l (62 - 2 * (s + j)) else 0
  u 2 ++ u 1 ++ u 0

/-- The heads of a line from head i on with s tail units used, or the index of the head that overlaps a tail
(R22). The fuel is the number of heads a line can hold. -/
def lineHeads (l : Line) : Nat → Nat → Nat → Except Nat (List Head)
  | 0, _, _ => .ok []
  | fuel + 1, i, s =>
    let h := lineHalf l (2 * i)
    if h = 0 then .ok []
    else
      let n := fieldNat h 14 2
      if i + 1 + (s + n) > 32 then .error i
      else
        let hd : Head := { idx := i, bits := h, tail := lineTail l s n }
        if i + 1 + (s + n) = 32 then .ok [hd]
        else
          match lineHeads l fuel (i + 1) (s + n) with
          | .ok hs => .ok (hd :: hs)
          | .error e => .error e

/-- The class bit of a head: true for the vector class (R20). -/
def Head.vec (h : Head) : Bool := h.bits.getLsbD 13

/-- The instruction of a head; an encoding that is none stands for itself (R67). -/
noncomputable def Head.instr (h : Head) : Instr := (decodeHalf h.bits h.tail).getD (.illegalOpcode h.bits h.tail)

/-- A bundle: the index of its first head, its halves, and the index of the next bundle's first head; none after
the last bundle of the line (R19, R24, R27). -/
structure Bundle where
  start : Nat
  scalar : Option Instr
  vector : Option Instr
  next : Option Nat
  deriving DecidableEq, Repr

/-- The index of the next head. -/
def nextStart : List Head → Option Nat
  | [] => none
  | h :: _ => some h.idx

/-- Heads form bundles in order: a class-0 head takes a class-1 head that follows it (R24). -/
noncomputable def bundlesOf : List Head → List Bundle
  | [] => []
  | [h] => [if h.vec then ⟨h.idx, none, some h.instr, none⟩ else ⟨h.idx, some h.instr, none, none⟩]
  | h :: g :: hs =>
    if h.vec then ⟨h.idx, none, some h.instr, some g.idx⟩ :: bundlesOf (g :: hs)
    else if g.vec then ⟨h.idx, some h.instr, some g.instr, nextStart hs⟩ :: bundlesOf hs
    else ⟨h.idx, some h.instr, none, some g.idx⟩ :: bundlesOf (g :: hs)

/-- A line checked whole: its bundles, or the head index for ILLEGAL_LINE. A line whose head 0 is END holds no
bundle (R25). -/
noncomputable def decodeLine (l : Line) : Except Nat (List Bundle) :=
  match lineHeads l 32 0 0 with
  | .error e => .error e
  | .ok [] => .error 0
  | .ok hs => .ok (bundlesOf hs)

/-- The first n units of a tail, unit 0 first (R21). -/
def tailUnits (head : BitVec 16) (tail : BitVec 48) : List (BitVec 16) :=
  ([tail.extractLsb' 0 16, tail.extractLsb' 16 16, tail.extractLsb' 32 16]).take (fieldNat head 14 2)

/-- Pack heads from the front and tails from the back of a line; the units between are zero, so that the unit after
the last head is END (R21, R23). -/
def lineOfHeads (hs : List (BitVec 16 × BitVec 48)) : Line :=
  let tails := hs.flatMap (fun p => tailUnits p.1 p.2)
  hs.map (·.1) ++ List.replicate (32 - hs.length - tails.length) 0 ++ tails.reverse

/-- A line that holds one instruction alone. -/
def lineOfWord (head : BitVec 16) (tail : BitVec 48) : Line := lineOfHeads [(head, tail)]

end Sys2Proof
end

