-- ==== Sys2Proof/Machine/FMap.lean ====
section
/-!
DEFINITION. Sparse tables as plain data: a list of (key, value) pairs whose keys rise and in which no
value equals what an unlisted key reads as, so that equal tables are equal lists.
-/
namespace Sys2Proof

/-- A sparse table from numbers to values. -/
abbrev FMap (α : Type) := List (Nat × α)

/-- What key k reads as; an unlisted key reads as d. -/
def FMap.get {α : Type} (d : α) : FMap α → Nat → α
  | [], _ => d
  | (a, v) :: m, k => if a = k then v else FMap.get d m k

/-- The table without key k. -/
def FMap.erase {α : Type} : FMap α → Nat → FMap α
  | [], _ => []
  | (a, v) :: m, k => if a = k then FMap.erase m k else (a, v) :: FMap.erase m k

/-- Put a pair before the first larger key. -/
def FMap.insert {α : Type} : FMap α → Nat → α → FMap α
  | [], k, x => [(k, x)]
  | (a, v) :: m, k, x => if k < a then (k, x) :: (a, v) :: m else (a, v) :: FMap.insert m k x

/-- The table in which key k reads as x; the canonical form is kept: x = d removes the entry. -/
def FMap.put {α : Type} [DecidableEq α] (d : α) (m : FMap α) (k : Nat) (x : α) : FMap α :=
  if x = d then FMap.erase m k else FMap.insert (FMap.erase m k) k x

/-- Put an entry that is listed whatever its value. -/
def FMap.set {α : Type} (m : FMap α) (k : Nat) (x : α) : FMap α :=
  FMap.insert (FMap.erase m k) k x

/-- The entry of key k, if there is one. -/
def FMap.find {α : Type} : FMap α → Nat → Option α
  | [], _ => none
  | (a, v) :: m, k => if a = k then some v else FMap.find m k

/-- The table without the keys from lo up to, not including, hi. -/
def FMap.dropRange {α : Type} (m : FMap α) (lo hi : Nat) : FMap α := m.filter (fun e => e.1 < lo || hi ≤ e.1)

/-- The listed keys. -/
def FMap.keys {α : Type} (m : FMap α) : List Nat := m.map (·.1)

/-- Every listed key lies above b, the keys rise, and no listed value is d. -/
def FMap.wfFrom {α : Type} [DecidableEq α] (d : α) : Option Nat → FMap α → Bool
  | _, [] => true
  | lo, (a, v) :: m =>
    (match lo with
      | none => true
      | some b => decide (b < a)) && decide (v ≠ d) && FMap.wfFrom d (some a) m

/-- The canonical form of a table. -/
def FMap.wf {α : Type} [DecidableEq α] (d : α) (m : FMap α) : Bool := FMap.wfFrom d none m

/-- Device memory: a list of cells, an address and its byte, in canonical form. -/
abbrev Memory := FMap Byte

/-- The canonical form of device memory: the addresses rise, and no listed byte is the 0 that an unlisted address reads as. -/
def Memory.wf (m : Memory) : Bool := FMap.wf (0 : Byte) m

end Sys2Proof
end

