-- ==== Sys2Proof/Machine/State.lean ====
section
/-!
DEFINITION. The state of the Maelulo package as plain data: strands, tiles, queues, memory, and everything in
flight; the reasons a step can stop; the state after reset.
-/
namespace Sys2Proof.Machine

/-- Why the machine stops. -/
inductive Fault where
  /-- Nobody raises it: every error the spec describes is taken as a trap, a status or a termination, and all of
  them are next states. Safe. -/
  | none
  deriving DecidableEq, Repr

/-- Why a step is refused. -/
inductive Refusal where
  /-- Raised by Dispatch for an instruction whose meaning is not written; safe. -/
  | notModelled (mnemonic : String)
  deriving DecidableEq, Repr

/-- The condition of a register with a full/empty bit (R43). -/
inductive Fill where
  | full | empty | pending
  deriving DecidableEq, Repr

/-- A scalar register: value, condition, and whether its parity is in error (R36, R43, R49). -/
structure SReg where
  val : Word := 0
  st : Fill := .full
  bad : Bool := false
  deriving DecidableEq, Repr

/-- A vector register (R36). -/
structure VReg where
  val : VWord := 0
  st : Fill := .full
  bad : Bool := false
  deriving DecidableEq, Repr

/-- A lane-mask register (R36). -/
structure KReg where
  val : BitVec 32 := 0
  st : Fill := .full
  bad : Bool := false
  deriving DecidableEq, Repr

/-- A pointer register (R40). -/
structure Ptr where
  addr : BitVec 20 := 0
  stride : BitVec 16 := 0
  bad : Bool := false
  deriving DecidableEq, Repr

/-- A common register with what it held before its last write and the cycle of that write (R46). -/
structure CReg where
  now : SReg := {}
  before : SReg := {}
  wrote : Option Nat := none
  deriving DecidableEq, Repr

/-- TRAP_VEC or REPORT_Q of a crew, with the same visibility as a common register (R46, R93). -/
structure Shared where
  now : Word := 0
  before : Word := 0
  wrote : Option Nat := none
  deriving DecidableEq, Repr

/-- A park: its kind, the register file and index of R106, and its length in cycles up to the last examined slot
(R18). -/
structure Park where
  kind : Nat
  file : Nat := 0
  index : Nat := 0
  cycles : Nat := 0
  deriving DecidableEq, Repr

/-- A q register's binding: the port and the default tag (R213, R214). -/
structure QBinding where
  port : Nat
  tag : BitVec 8 := 0
  deriving DecidableEq, Repr

/-- A register a LONG result is owed to (R43). -/
inductive RegRef where
  | g (w : Who) (i : Nat)
  | c (tile i : Nat)
  | k (w : Who) (i : Nat)
  | v (w : Who) (i : Nat)
  deriving DecidableEq, Repr

/-- A register that a debugger reads or an error strikes: one that a fill may reach, or a pointer register (R47 to R49). -/
inductive AnyReg where
  | reg (r : RegRef)
  | p (w : Who) (i : Nat)
  deriving DecidableEq, Repr

/-- What a soft error strikes: a register; an 8-byte word of scratchpad, with queue buffers among it, of an operand slot with its side
area from word 2,048 on, of an accumulator, of a weight store, of HBM; a ticket entry; a line of an instruction store (R407, R408). -/
inductive Struck where
  | register (r : AnyReg)
  | scratch (tile word : Nat)
  | slot (tile slot word : Nat)
  | accumulator (tile acc word : Nat)
  | ticket (source entry : Nat)
  | line (tile line : Nat)
  | weights (die word : Nat)
  | memory (word : Nat)
  deriving DecidableEq, Repr

/-- A trapping redeem held in issue: its ticket, the flight that delivers its data, the register it writes, the IP
behind its bundle, and the answer once it has come: 0 OK, 1 STALE, 2 DOUBLE (R244). -/
structure Hold where
  ticket : Word
  redeem : Nat
  dest : Option RegRef
  next : Word
  bump : Option Nat := none
  answer : Option Nat := none
  deriving DecidableEq, Repr

/-- A vector register in stream mode: the pattern's base address and its levels (count and stride, innermost first),
how many strips the engine was asked for and how many were taken, the strips that have landed and are not taken, none for
a refused one, and the last strip taken (R297, R298). -/
structure Stream where
  base : Nat
  levels : List (Nat × Int)
  asked : Nat := 0
  taken : Nat := 0
  landed : List (Option VWord) := []
  last : VWord := 0
  /-- Accesses with smaller numbers are ordered before its reads (R297). -/
  since : Nat := 0
  /-- What a SUNB, or an SBIND with its pattern, makes of it at the end of the bundle (R136, R297). -/
  after : Option (Option (Nat × List (Nat × Int))) := none
  deriving DecidableEq, Repr

/-- A strand of a tile (R36, R50). -/
structure Strand where
  running : Bool := false
  /-- The first cycle in which a started strand may issue (R90). -/
  startAt : Nat := 0
  ip : Word := 0
  /-- Slots still consumed by an earlier bundle's bank conflict (R12). -/
  skip : Nat := 0
  park : Option Park := none
  /-- A crew-fatal trap has struck; the strand stops at its next slot (R103). -/
  dying : Bool := false
  /-- Stopped registers without an access for 1,024 cycles are drowsy (R48); the cycle of the last access. -/
  touched : Nat := 0
  drowsy : Bool := false
  g : FMap SReg := []
  v : FMap VReg := []
  k : FMap KReg := []
  p : FMap Ptr := []
  /-- The physical block behind each extension position 0 to 2 (R38, R186). -/
  xg : FMap Nat := []
  xv : FMap Nat := []
  q : FMap QBinding := []
  /-- The vector registers in stream mode (R297). -/
  streams : FMap Stream := []
  crewId : BitVec 4 := 0xF
  gangShape : BitVec 17 := 0
  system : Bool := false
  waitLimit : BitVec 32 := 0
  trapCause : BitVec 8 := 0
  trapPc : Word := 0
  trapInfo : Word := 0
  rndSeed : Word := 0
  /-- The descriptor of a posted fusion request (R198). -/
  fuse : Option Word := none
  /-- Its fusion has completed, and the bundle of its GFUSE has yet to issue (R198). -/
  matched : Bool := false
  /-- A request that found this one in its way stood on this tile (R198). -/
  fuseClash : Option Nat := none
  /-- The image of a grant made while the strand waited, for its first slot after it (R188). -/
  granted : Option Word := none
  /-- Its register banks are waking, until this cycle at the latest (R48). -/
  waking : Option Nat := none
  /-- The watchpoint strikes of the last bundle, as TRAP_INFO reports one of them before the next (R396). -/
  struck : List Word := []
  /-- The next bundle is exempt from BRK and watchpoints (R397). -/
  ignoreOnce : Bool := false
  /-- What a walk found for a page (number of the 2 MiB page): the cause that the retried bundle raises (R170, R363). -/
  xfault : Option (Nat × BitVec 8) := none
  /-- The q register that the last QSEL chose (R224). DESIGN CHOICE: before the first it is 15, so that q0 comes first (assumption 128). -/
  lastSel : Nat := 15
  /-- A trapping redeem that is held in issue (R244). -/
  hold : Option Hold := none
  /-- The virtual circuits that carried events of the strand since its last wait at DEVICE scope: from die, to die, number
  (R320, R321). -/
  circuits : List (Nat × Nat × Nat) := []
  /-- Those that carried writes of its engine commands since then. -/
  engCircuits : List (Nat × Nat × Nat) := []
  /-- Its stores with smaller numbers that have left the die are performed at DIE scope: no agent of the die that loads from now on
  reads an older value (R308, R321). -/
  dieShown : Nat := 0
  /-- The completion count that a waiting MWAIT found at its first attempt (R272). -/
  mwait : Option Nat := none
  deriving DecidableEq, Repr

/-- An item: header and words (R210). -/
structure Item where
  header : BitVec 16
  words : List Word
  deriving DecidableEq, Repr

/-- An item stored at an endpoint, with its ordinal (R211). -/
structure Stored where
  ordinal : Nat
  item : Item
  /-- A STOP beacon that an ordinal breakpoint set in port state: it has no cell (R393). -/
  inPort : Bool := false
  deriving DecidableEq, Repr

/-- A popped item that is not marked done, and the strand that popped it (R219, R225). -/
structure Outst where
  ordinal : Nat
  strand : Nat
  deriving DecidableEq, Repr

/-- An attached queue port (R209). -/
structure Port where
  queue : Nat
  consumer : Bool
  items : List Stored := []
  /-- The count of accepted items, modulo 2^48 (R211). -/
  ordinal : Nat := 0
  /-- Oldest pop first (R219). -/
  outst : List Outst := []
  /-- Strands whose pop waits, in the order of their first attempt (R219). -/
  waiting : List Nat := []
  /-- The strand that popped last, and the cycle of its bundle: its further pops of that bundle are not behind later waiters (R219). -/
  popper : Option (Nat × Nat) := none
  cancelled : BitVec 32 := 0
  /-- Closed by a beacon (R227). -/
  closed : Bool := false
  /-- The port digest D and the pop count (R391). -/
  digest : Word := 0
  pops : Nat := 0
  /-- Admitted pushes of a PRODUCER port (R390). -/
  pushes : Nat := 0
  /-- The channel counters FULL, EMPTY and MOVING, and whether an item moved in this cycle (R388). -/
  full : Nat := 0
  empty : Nat := 0
  moving : Nat := 0
  moved : Bool := false
  /-- An ordinal breakpoint: the ordinal and the cut sequence (R393). -/
  breakAt : Option (Nat × Nat) := none
  /-- The sequence of the beacon that a breakpoint set in the port (R393). -/
  breakSeq : Option Nat := none
  /-- The sequence of the cut whose channel state a loop-back port is recording, the last sequence whose beacon has
  reached it, and the channel state (R357). -/
  recording : Option Nat := none
  arrivedSeq : Option Nat := none
  channel : List Stored := []
  deriving DecidableEq, Repr

/-- Counts of the five acquirable classes XG, XV, SP, OS, AC (R182, R185). -/
structure Counts where
  xg : Nat := 0
  xv : Nat := 0
  sp : Nat := 0
  os : Nat := 0
  ac : Nat := 0
  deriving DecidableEq, Repr

/-- A live crew (R180, R181). -/
structure Crew where
  claim : Counts
  joinMask : BitVec 8
  trapVec : Shared := {}
  reportQ : Shared := {}
  /-- Window entry to physical page (R160). -/
  window : FMap Nat := []
  /-- Operand slot name to physical slot (R186). -/
  os : FMap Nat := []
  /-- Accumulator name to physical slot (R186). -/
  ac : FMap Nat := []
  deriving DecidableEq, Repr

/-- A waiter of ACQ.W or ACQM.W, oldest first in its tile's list (R193). -/
structure Waiter where
  strand : Nat
  crew : Nat
  req : Counts
  bypass : Nat := 0
  deriving DecidableEq, Repr

/-- A quarantined unit of a class (R196). -/
structure Quar where
  cls : Nat
  unit : Nat
  deriving DecidableEq, Repr

/-- A page in a TLB or a translation cache: partition, 2 MiB page number of its first byte, whether it spans 1 GiB,
and its level-3 entry (R362, R365). -/
structure XEntry where
  part : Nat
  page : Nat
  large : Bool
  entry : Word
  deriving DecidableEq, Repr

/-- A request from outside a tile for one 64-byte unit of its scratchpad: its flight, the unit, and the consecutive cycles in which
it was refused (R163). -/
structure BankReq where
  flight : Nat
  unit : Nat
  refused : Nat := 0
  /-- The engine whose element waits, in place of a flight. -/
  engine : Option Nat := none
  deriving DecidableEq, Repr

/-- The state of an operand slot (R252). -/
inductive SlotState where
  | empty | filling | full
  deriving DecidableEq, Repr

/-- An operand slot: its attributes, its data and side area by byte, its poisoned 8-byte words, those of the side area
from 2,048 on; whether a .last request has completed while others were outstanding; whether an engine command on it has
failed (R252, R258, R289, R408). -/
structure OSlot where
  state : SlotState := .empty
  format : Option Nat := none
  sticky : Bool := false
  data : FMap Byte := []
  side : FMap Byte := []
  poison : FMap Bool := []
  lastDone : Bool := false
  spoiled : Bool := false
  deriving DecidableEq, Repr

/-- The extensions of a rule: mask-tag mode with its mask slot and tags, the fill value, and feedback into a slot in a
format. In a stage the slots are crew names, in a rule physical slots, absent once they are released (R269). -/
structure Ext where
  tagsOn : Bool := false
  mask : Option Nat := none
  tags : Word := 0
  fill : BitVec 32 := 0
  fb : Option (Option Nat × Nat) := none
  deriving DecidableEq, Repr

/-- A rule: its operand slots are physical ones, absent once they are released (R263). -/
structure Rule where
  active : Bool := false
  pair : Pair := .e4e4
  a : Option Nat := none
  b : Option Nat := none
  m : Nat := 0
  n : Nat := 0
  kf : Nat := 0
  gscale : BitVec 32 := 0
  /-- The operation init = ZERO. -/
  zero : Bool := true
  count : Nat := 0
  /-- Firings completed since the MRULE, modulo 2,048 (R129). -/
  num : Nat := 0
  ext : Ext := {}
  /-- It waits for its feedback target (R271). -/
  waiting : Bool := false
  deriving DecidableEq, Repr

/-- The state of an accumulator (R256). -/
inductive AccState where
  | clear | opened | full
  deriving DecidableEq, Repr

/-- An accumulator slot: element (row, column) at 64 × row + column; poisoned 8-byte words (R256, R408). -/
structure Accum where
  state : AccState := .clear
  busy : Bool := false
  int : Bool := false
  data : FMap (BitVec 32) := []
  poison : FMap Bool := []
  completions : Nat := 0
  rule : Rule := {}
  stage : Ext := {}
  deriving DecidableEq, Repr

/-- What a request of the matrix path does: a fill of a slot's data or side area from byte off on, a drain of an
accumulator with its format, region and pitch, or an engine's write into a slot (R257, R259, R273, R289). -/
inductive PathKind where
  | fill (slot off : Nat) (side last : Bool)
  | drain (acc fmt m n pitch : Nat)
  | write (engine slot off : Nat) (side : Bool) (data : List Byte)
  deriving DecidableEq, Repr

/-- A request of the matrix path: its number, its strand and crew, the crew's name of its slot or accumulator, the cycle of its issue, its local base address and the
physical pages fixed at issue, its bytes, how many have moved, whether it has started, and the consecutive cycles in
which a bank was refused (R257, R259). -/
structure PathReq where
  id : Nat
  who : Who
  crew : Nat
  name : Nat := 0
  issued : Nat
  base : Nat := 0
  pages : FMap Nat := []
  total : Nat
  moved : Nat := 0
  started : Bool := false
  refused : Nat := 0
  kind : PathKind
  deriving DecidableEq, Repr

/-- What the array is at: a firing of a rule on the slots it reads, or a feedback write into a slot; the work cycles
left (R264, R266, R271). -/
structure Job where
  feedback : Bool
  acc : Nat
  slots : List Nat
  left : Nat
  deriving DecidableEq, Repr

/-- A completion ring: its size, the value of each filled slot, the read and the write index (R294). -/
structure Ring where
  size : Nat := 0
  slots : FMap Word := []
  rd : Nat := 0
  wr : Nat := 0
  deriving DecidableEq, Repr

/-- A phase barrier: the phase number, the expected arrivals A, the arrivals, the byte count (R296). -/
structure Barrier where
  phase : BitVec 16 := 0
  expected : Nat := 1
  arrivals : Nat := 0
  bytes : BitVec 48 := 0
  deriving DecidableEq, Repr

/-- The cut that froze a tile: the beacon's kind, sequence and region (R351, R354, R355). -/
structure TileCut where
  kind : Nat
  seq : Nat
  rgn : Nat
  deriving DecidableEq, Repr

/-- What pages 0 to 7, 10 and 11 of a tile's scratchpad hold: the ports with their buffers, the crews with their window maps, the
completion rings and the barriers (R159). -/
structure Records where
  ports : FMap Port
  crews : FMap Crew
  rings : FMap Ring
  bars : FMap Barrier
  deriving DecidableEq, Repr, Inhabited

/-- A tile. -/
structure Tile where
  /-- The region control block of the placement that runs here (R342). -/
  place : Option Nat := none
  /-- The placement's partition. -/
  part : Nat := 0
  store : FMap Line := []
  /-- The lines of the instruction store with an uncorrectable error (R408). -/
  badLines : List Nat := []
  c : FMap CReg := []
  strands : FMap Strand := []
  /-- Physical scratchpad bytes (R158, R162). -/
  scratch : FMap Byte := []
  /-- Full/empty tags by 8-byte word: true is FULL (R165). -/
  tags : FMap Bool := []
  /-- Words with an uncorrectable error, by 8-byte word (R408). -/
  poison : FMap Bool := []
  /-- The mirror pair's active bit m (R177). -/
  mirror : Bool := false
  crews : FMap Crew := []
  waiters : List Waiter := []
  quar : List Quar := []
  ports : FMap Port := []
  wpBase : FMap Word := []
  wpMask : FMap Word := []
  eTile : Word := 0
  /-- The period of 4,096 cycles, 1.024 µs, in which E_TILE was updated last (R402). -/
  energyAt : Nat := 0
  frozen : Bool := false
  /-- The debugger session that claims the tile (R397). -/
  claim : Option Nat := none
  /-- What froze a claimed tile: a BREAKPOINT or a strike (R397). -/
  debugStop : Option Nat := none
  /-- The cycle from which each bank is free again (R162). -/
  bankHeld : List Nat := []
  tlb : List XEntry := []
  /-- The ports whose events are recorded; the next record's number; the records not yet taken (R390, R398). -/
  traceMask : BitVec 32 := 0
  traceNext : Nat := 0
  traceLen : Nat := 0
  /-- Requests of engines and other tiles that wait for a bank, in arrival order (R163). -/
  bankQ : List BankReq := []
  /-- Remote fills that wait at their register, in arrival order (R45, R175). -/
  fills : List Nat := []
  /-- The placement holds weight-store read rights (R343). -/
  wsRead : Bool := false
  /-- The flights of LDT requests whose tickets have not returned, with others that have ended since (R240). -/
  ldt : List Nat := []
  /-- The banks that a request refused for 16 cycles takes in this cycle (R163). -/
  bankTaken : List Nat := []
  /-- Operand slots and accumulators by physical number (R252, R256). -/
  os : FMap OSlot := []
  ac : FMap Accum := []
  /-- Requests of the matrix path in issue order (R259). -/
  path : List PathReq := []
  job : Option Job := none
  /-- The cycle in which a feedback write last ended (R264). -/
  backEnded : Option Nat := none
  /-- The index of the rule last fired; firings started (R264, R275). -/
  lastFired : Nat := 3
  firings : Nat := 0
  /-- The array is enabled (R401). -/
  arrayOn : Bool := false
  /-- The rings that are not absent, and the barriers (R294, R296). -/
  rings : FMap Ring := []
  bars : FMap Barrier := []
  /-- The cut that froze the tile, the cut that the supervisor is about to freeze it for, and the output ports on which
  the beacon is still to be pushed (R354). -/
  cut : Option TileCut := none
  cutDue : Option TileCut := none
  beaconDue : List (Nat × TileCut) := []
  /-- The wave of the ramp has been done (R401): the cycle at which the placement entered RUN or was thawed. -/
  rampFrom : Nat := 0
  deriving DecidableEq, Repr

/-- A queue descriptor (R208). -/
structure Queue where
  type : Nat
  prio : Nat := 0
  scope : Nat := 1
  system : Bool := false
  state : Nat := 1
  part : Nat := 0
  cap : Nat := 1
  window : Nat := 1
  /-- Endpoints: tile and port. -/
  eps : List (Nat × Nat) := []
  loopBack : Bool := false
  broken : BitVec 16 := 0
  /-- The ordinals at which endpoints stood when their ports were last detached, by endpoint (R211). -/
  ordinals : FMap Nat := []
  partialMask : BitVec 16 := 0
  faults : BitVec 32 := 0
  deriving DecidableEq, Repr

/-- The state of a ticket entry (R237). -/
inductive TState where
  | free | fetching | ready | redeeming
  deriving DecidableEq, Repr

/-- Who owns a ticket entry: the tile and a crew id, or a strand without a crew (R236). -/
structure TOwner where
  tile : Nat
  crewed : Bool
  idx : Nat
  deriving DecidableEq, Repr

/-- An entry of a ticket table (R236). -/
structure Entry where
  st : TState := .free
  gen : BitVec 16 := 1
  size : Nat := 0
  addr : Nat := 0
  owner : TOwner := ⟨0, false, 0⟩
  part : Nat := 0
  /-- The placement node whose budget carries the entry (R239). -/
  node : Option Nat := none
  arrived : Nat := 0
  data : List Byte := []
  /-- An uncorrectable error stands in the entry or its data (R408). -/
  bad : Bool := false
  /-- The redeem flight that the data goes to while REDEEMING. -/
  redeem : Option Nat := none
  /-- The fabric cycle in which a ticket was last presented to the entry (R238). -/
  seen : Option Nat := none
  deriving DecidableEq, Repr

/-- A source of tickets (R233). -/
structure Source where
  entries : FMap Entry := []
  /-- Waiting LDT.W requests in order of arrival, by flight (R239). -/
  waiting : List Nat := []
  /-- The fabric cycle of the last reclaim (R248). -/
  reclaimed : Option Nat := none
  deriving DecidableEq, Repr

/-- A layout unit: the offsets of its column and row, its width and height (R344). -/
structure LayUnit where
  col : Nat
  row : Nat
  width : Nat
  height : Nat
  deriving DecidableEq, Repr

/-- A tile entry: the parameters, the attached ports with their queue and whether they are PRODUCER ports, and the ring
sizes (R345). -/
structure TileEntry where
  params : List Word
  ports : List (Nat × Nat × Bool)
  rings : List Nat
  deriving DecidableEq, Repr

/-- What a placement record names besides the parent and the node's words (R343, R344), with the bytes of its image as
they were when PLACE checked them. -/
structure PlaceRecord where
  image : List Byte
  system : Bool
  wsRead : Bool
  notify : Option Nat
  units : List LayUnit
  preds : List Nat
  entries : List TileEntry
  deriving DecidableEq, Repr

/-- An entry of a replacement record: the tile, the bytes of its image, the parameters (R384). -/
structure ReplaceEntry where
  tile : Nat
  image : List Byte
  params : List Word
  deriving DecidableEq, Repr

/-- A cut of a region: its beacon, the source queues at which the supervisor has yet to issue the BCN, the replacement
entries, whether the supervisor has begun to act (it quiesces), whether a STOP cut is done, whether the cut is one of
R403, the placements of the region that had ended before it (R352, R359, R385). -/
structure Cut where
  kind : Nat
  seq : Nat
  pending : List Nat := []
  entries : List ReplaceEntry := []
  acting : Bool := false
  done : Bool := false
  energy : Bool := false
  past : List Nat := []
  deriving DecidableEq, Repr

/-- Usage charged for a placement: tiles, queues, engines, and bytes of HBM (R341). -/
structure Charge where
  tiles : Nat := 0
  queues : Nat := 0
  engines : Nat := 0
  hbm : Nat := 0
  deriving DecidableEq, Repr

/-- A node of the region tree: the words of its region control block (R340). -/
structure Node where
  words : FMap Word := []
  /-- The tiles placed, in the order of the placement record (R344). -/
  tiles : List Nat := []
  /-- The cause recorded for DRAINING, and whether the outcome is FAILED (R346, R418). -/
  cause : Option (BitVec 8) := none
  /-- The placement record; the place in its partition's queue; what has been charged (R341, R343, R348). -/
  record : Option PlaceRecord := none
  arrival : Nat := 0
  charged : Charge := {}
  /-- The base of the data segment, once it is written (R31). -/
  dataBase : Option Nat := none
  /-- The data segments of its replaced tiles: bases and bytes (R31, R385). -/
  moreData : List (Nat × Nat) := []
  /-- The region's cut in progress (R384). -/
  cut : Option Cut := none
  /-- The saved tiles of a pre-empted placement, and of the last checkpoint (R359, R360). -/
  context : List (Nat × Tile) := []
  resume : Bool := false
  /-- The cycle in which the placement entered FROZEN or DRAINING (R401). -/
  coolFrom : Nat := 0
  /-- The physical address of its 256-byte block in partition 0's memory (R339). -/
  home : Option Nat := none
  deriving DecidableEq, Repr

/-- A record of the lantern (R405). -/
structure LanternRec where
  w0 : Word
  w1 : Word
  w2 : Word
  w3 : Word
  deriving DecidableEq, Repr

/-- An entry of a die's merge table (R365 to R368). -/
structure Merge where
  part : Nat
  /-- Number of the 2 MiB page. -/
  page : Nat
  /-- The walk is under way; after it the page is lazy and the pager has been asked. -/
  walking : Bool
  kind : Nat
  write : Bool
  count : Nat
  tile : Nat
  strand : Nat
  ip : Nat
  engine : Nat
  faulters : List Who
  engines : List Nat
  seq : Nat
  /-- The host's requests that wait for the page (R377). -/
  calls : List Nat := []
  deriving DecidableEq, Repr

/-- A compute die. -/
structure Die where
  /-- Tile cycles since the die's reset (R4, R10). -/
  clock : Nat := 0
  /-- How often the die was reset. -/
  resets : Nat := 0
  pwrStep : BitVec 3 := 0
  /-- The step that governs from the next fabric cycle on, where it changes (R399). -/
  pwrDue : Option (BitVec 3) := none
  xcache : List XEntry := []
  merge : List Merge := []
  /-- Fault items pushed since reset (R367). -/
  faultSeq : Nat := 0
  /-- The queue of the pager's fault items, once the supervisor has attached it (R367). -/
  faultQueue : Option Nat := none
  /-- The translation queue of the die, and the items stored at the translation unit (R368). -/
  xlateQueue : Option Nat := none
  commands : List Item := []
  /-- The queue on which the pager of the die takes INVALIDATE replies, the queue of the allocator, and the items that the
  pager has yet to push to the translation queue (R370, R372). -/
  replyQueue : Option Nat := none
  allocQueue : Option Nat := none
  outgoing : List Item := []
  /-- The energy that the tiles have used is kept in the tiles; the lantern of the last boot, oldest record first (R406). -/
  dump : List LanternRec := []
  /-- Weight-store bytes by offset (R1, R172). -/
  ws : FMap Byte := []
  /-- Its poisoned 8-byte words (R408). -/
  wsPoison : FMap Bool := []
  lantern : List LanternRec := []
  lanternSeq : Nat := 0
  /-- Reads that have met a refreshing bank, by flight (R300). -/
  refreshWait : List Nat := []
  /-- Corrected and uncorrectable errors by structure code (R404, R407). -/
  corrected : FMap (BitVec 32) := []
  uncorrected : FMap (BitVec 32) := []
  deriving DecidableEq, Repr

/-- A value for a scalar or a vector register. -/
inductive Val where
  | s (x : Word)
  | v (x : VWord)
  deriving DecidableEq, Repr

/-- What an access reaches: HBM by physical address, a tile's window by offset, the weight store of a die by offset,
or a frame of a peer package, with the virtual address that named it (R170, R172, R362). -/
inductive Target where
  | hbm (pa : Nat)
  | tile (t off : Nat)
  | ws (die off : Nat)
  | peer (pkg pa va : Nat)
  deriving DecidableEq, Repr

/-- The operation of a global access (R166, R167, R169, R171). -/
inductive AccOp where
  | load (unsigned : Bool)
  | store (data : Nat)
  | amo (op : Nat) (data : Nat)
  | cas (expect data : Nat)
  | ste (data : Nat)
  | stf (data : Nat)
  | tagQ
  | tagE
  | tagF
  deriving DecidableEq, Repr

/-- Where the bytes of an access lie: HBM, a tile's scratchpad, a weight store, a peer's frame. -/
inductive Spot where
  | hbm (pa : Nat)
  | pad (t pa : Nat)
  | ws (d off : Nat)
  | peer (p pa : Nat)
  deriving DecidableEq, Repr

/-- A piece of an engine's access: its address, where it lies, its bytes. -/
structure Piece where
  addr : Nat
  spot : Spot
  n : Nat
  deriving DecidableEq, Repr

/-- A copy-engine command: who issued it, in which crew, with which rights, and its image of 16 words (R283, R284);
whether its crew has retired (R196); the number of its push, before which its issuer's accesses were issued (R288). -/
structure Cmd where
  who : Who
  crew : Option Nat
  system : Bool
  part : Nat
  place : Option Nat
  wsRead : Bool
  image : List Word
  aborted : Bool := false
  num : Nat := 0
  deriving DecidableEq, Repr

/-- What the engine of a command is at: its next element, or it waits for a slot to become EMPTY, for a page at an
address, for room, for a bank of a weight store, for its write on the matrix path or for banks of tiles; the
command has ended with a status at an address, or waits for a ring slot with its status (R289 to R294, R300). -/
inductive EPhase where
  | run
  | slot (unit : Nat)
  | page (page addr : Nat)
  | room
  | refresh (die bank : Nat)
  | path
  | bank
  | peer (pkg addr since : Nat)
  | ended (status addr : Nat)
  | ring (status : Nat)
  deriving DecidableEq, Repr

/-- A popped command: the number of its next element, the items of that element already pushed, its operand slot, the
bytes whose writes have set out, the first cycle for its next element, and the scratchpad pages it was using when its crew
retired (R196, R282, R286, R287, R290). -/
structure Run where
  cmd : Cmd
  phase : EPhase := .run
  next : Nat := 0
  item : Nat := 0
  slot : Option Nat := none
  bytes : Nat := 0
  busy : Nat := 0
  pins : List Nat := []
  /-- The 64-byte units of scratchpad that the element has read, by tile, with their bytes (R163, R164). -/
  served : List (Nat × Nat × List Byte) := []
  /-- The bytes of later elements that have been read before their turn, by element (R288, R319). -/
  ahead : List (Nat × List Byte) := []
  /-- With rel at DEVICE scope or above: the circuits that have carried its writes, and the bytes that its barrier has yet to be
  counted down by (R288, R321). -/
  circuits : List (Nat × Nat × Nat) := []
  owed : Nat := 0
  deriving DecidableEq, Repr

/-- A copy engine: its buffered commands, oldest first, and the one it performs; the cycle since which it could pop the next; whether
its last piece of work was a strip (R281, R282). -/
structure Engine where
  buf : List Cmd := []
  run : Option Run := none
  since : Nat := 0
  strip : Bool := false
  /-- The first cycle in which it can move its next element or strip (R282). -/
  free : Nat := 0
  deriving DecidableEq, Repr

/-- Where the reports of an engine's push go: the tile, the crew and the queue that its command named (R229). -/
structure Via where
  tile : Nat
  /-- The strand that issued the command (R390). -/
  strand : Nat := 0
  crew : Option Nat
  queue : Option Nat
  deriving DecidableEq, Repr

/-- What is in flight. -/
inductive Kind where
  /-- A LONG result with the values for its registers (R14, R43). -/
  | long (vals : List Val)
  /-- A global access of size bytes on its way to its target; rel: it is performed after the strand's earlier events
  at that scope (R169, R314); acq: the strand's later events wait for it (R321). -/
  | access (op : AccOp) (tgt : Target) (size : Nat) (rel : Option Nat) (acq : Bool)
  /-- A remote fill: RFILL or RFILL.E of a register with a value (R174). -/
  | rfill (e : Bool) (reg : RegRef) (x : Word)
  /-- A remote read: the value, or with .s the status (R174). -/
  | rget (status : Bool) (reg : RegRef)
  /-- A copy of a push on its way to endpoint ep of a queue: one item, or the two items of a vector push, with the
  number that all copies of the push share; the endpoints where copies failed and the ordinal at the first endpoint
  that stored one (R217, R218, R229, R230). -/
  | item (queue ep push : Nat) (items : List Item) (failed : Nat) (first : Option Nat)
  /-- A command on its way to the engine of its CMD queue (R283). -/
  | command (queue : Nat) (cmd : Cmd)
  /-- A cancel of a tag on its way to an endpoint (R226). -/
  | cancel (queue ep : Nat) (tag : BitVec 8)
  /-- A retirement notice on its way to a source (R247). -/
  | retire (owner : TOwner) (source : Nat)
  /-- An LDT request with its virtual address on its way to its source or waiting there (R240). -/
  | ldt (source : Nat) (tgt : Target) (va code : Nat) (trying : Bool) (owner : TOwner) (part : Nat) (node : Option Nat)
  /-- The fetch of a ticket entry of a generation, with its 8-byte words as far as they are bound, and the number of its request,
  which is its place in the strand's program order (R240, R251, R318). -/
  | fetch (source entry : Nat) (gen : BitVec 16) (tgt : Target) (size : Nat) (words : List (Option Nat)) (request : Nat)
  /-- A ticket that is presented for a redeem: the flight of the delivery, whether it is a quiet form, its presenter's
  partition and placement, and the answer once the source has decided it: 0 OK, 1 STALE, 2 DOUBLE, 3 FORGED (R241). -/
  | present (ticket : Word) (part : Nat) (node : Option Nat) (redeem : Nat) (quiet : Bool) (answer : Option Nat)
  /-- The delivery of a redeem: its width, the tile and the physical address that RDMS writes, whether its bundle is
  still held, the data once the delivery has started, and the status that RDMS reports, which is not 0 for the zeros of a quiet
  form that found no entry (R243, R244). -/
  | redeem (ticket : Word) (width : Nat) (place : Option (Nat × Nat)) (held : Bool) (data : Option (List Byte)) (status : Nat)
  /-- A strip of a stream on its way from its address to the register, with its 8-byte words as far as they are read
(R297, R298). -/
  | strip (reg addr : Nat) (words : List (Option Nat))
  /-- A page was removed from a die's cache and TLBs; the accesses translated before are yet to be performed (R370). -/
  | invalidated (die part page reply : Nat)
  /-- A member of an MRED chain has yet to send its part from an accumulator of its tile (R278). -/
  | mredPart (tile acc : Nat)
  /-- The last member of an MRED chain has yet to complete its sum (R278). -/
  | mredSum (tile acc : Nat) (data : FMap (BitVec 32))
  /-- TKQ, or with drop TKD, with the presenter's partition, or none where any is accepted, and its placement (R241, R246). -/
  | query (drop : Bool) (ticket : Word) (part : Option Nat) (node : Option Nat)
  /-- The part of a READ or WRITE of the host in 64 bytes of a tile window, on its way to its bank: the call, the tile, the offset
  (R163, R377). -/
  | host (call tile off : Nat)
  /-- A debugger's read of a register (R47 to R49, R394). -/
  | debugRead (reg : AnyReg)
  /-- The marker of a sweep of a circuit (R321). -/
  | sweep (circuit : Nat × Nat × Nat)
  /-- A write of a command that its engine has sent and that is not performed; a reduce-add carries its source words (R286,
  R288). -/
  | ewrite (engine : Nat) (cmd : Cmd) (dst : Piece) (data : List Byte)
  deriving DecidableEq, Repr

/-- Something in flight: a number, who caused it, the die whose cycles bound it, the cycles of that die between
which it lands, the registers it owes, and what it is. -/
structure Flight where
  id : Nat
  owner : Who
  die : Nat := 0
  lo : Nat := 0
  hi : Option Nat := none
  /-- The registers that are PENDING on it (R43). -/
  dests : List RegRef := []
  /-- False once its results are discarded (R103). -/
  live : Bool := true
  kind : Kind
  deriving DecidableEq, Repr

/-- What the next steps do: the agenda of the model. -/
inductive Move where
  /-- A fetch of a ticket entry binds one of its 8-byte words (R251). -/
  | bind (flight word : Nat)
  /-- A sweep returns, or a write of an engine is performed or comes to its banks (R288, R321). -/
  | land (flight : Nat)
  /-- A tile's slot in its current cycle (R9). -/
  | slot (tile : Nat)
  /-- The end of a tile's cycle: TCYC advances. -/
  | endCycle (tile : Nat)
  /-- The end of a die's cycle: its clock advances (R3, R9). -/
  | endDie (die : Nat)
  /-- The pager of a die answers the fault item at the head of its queue (R366, R368). -/
  | pager (die : Nat)
  /-- The supervisor issues the BCNs of a region's cut that find room (R352, R385). -/
  | inject (rgn : Nat)
  /-- A request of the host that waits is tried again (R377). -/
  | call (n : Nat)
  /-- An engine reads the source of a later element before its turn (R288, R319). -/
  | ahead (engine element : Nat)
  /-- The result of a reduction that another package has sent goes to the result queues (R416). -/
  | result (group : Nat)
  /-- A device or host event. -/
  | event (i : Instr)
  deriving DecidableEq, Repr

/-- The bundle being issued: its strand, its IP, the IP of the next bundle (R87) and its halves as TRAP_INFO holds
them (R68). -/
structure Issue where
  who : Who := ⟨0, 0⟩
  ip : Word := 0
  next : Word := 0
  sWord : Word := 0
  vWord : Word := 0
  deriving DecidableEq, Repr

/-- A registered range of a partition (R366, R377). -/
structure Registered where
  part : Nat
  base : Nat
  len : Nat
  lazy : Bool
  write : Bool
  deriving DecidableEq, Repr

/-- A handle that the allocator gave: its partition, its address and its bytes (R372). -/
structure Handle where
  part : Nat
  base : Nat
  len : Nat
  deriving DecidableEq, Repr

/-- A session of the host: its partition, the keys of the two directions, the versions chosen by interface, the tile
of its network service, the highest sequence accepted, those accepted among it and the 64 below it, and the last 64 accepted
ones with the stored replies (R375, R376). -/
structure Session where
  part : Nat
  keyIn : List Byte
  keyOut : List Byte
  versions : FMap (Nat × Nat) := []
  tile : Nat
  highest : Option Nat := none
  accepted : List Nat := []
  replies : List (Nat × Option (List Byte)) := []
  deriving DecidableEq, Repr

/-- The channel counters of a port, with the cycle of its tile (R388, R389). -/
structure PortSnap where
  tile : Nat
  port : Nat
  full : Nat
  empty : Nat
  moving : Nat
  cycle : Nat
  /-- FULL, EMPTY and MOVING 65,536 cycles later. -/
  after : Option (Nat × Nat × Nat) := none
  deriving DecidableEq, Repr

/-- A request that has been accepted and is not answered yet. -/
inductive CallKind where
  /-- It waits for a lazy page of its partition; then it is tried again (R377). -/
  | page (part pageNo : Nat)
  /-- A READ or WRITE in a tile window, whose requests stand at the banks: where each of its bytes lies, and the bytes read so far
  by their number (R163, R377). -/
  | window (ts : List Target) (got : FMap Byte)
  /-- A PUSH that found its queue full, with the cycle of its arrival (R377). -/
  | push (queue : Nat) (item : Item) (since : Nat)
  /-- An END that waits for placements to be DONE or FAILED (R380). -/
  | ending (rgns : List Nat)
  /-- An UNREGISTER that waits for the INVALIDATE replies of its pages: page and die; then the frames are freed (R370,
  R377). -/
  | unregister (waits : List (Nat × Nat)) (frames : List Nat)
  /-- A periscope walk: where it starts, and the counters of every port of the region as they were, with the cycle of
  the tile (R389). -/
  | periscope (tile port : Nat) (snap : List PortSnap)
  deriving DecidableEq, Repr

/-- A request of the host that is accepted and not answered: its session, its sequence, its frame. -/
structure Call where
  session : Nat
  seq : Nat
  frame : Frame
  kind : CallKind
  deriving DecidableEq, Repr

/-- What leaves the package: a datagram to the host, a report of the network service to it, a flit or an
acknowledgement of a Limis port (R342, R369, R374, R403, R414). -/
inductive Output where
  | datagram (bytes : List Byte)
  /-- MEMORY_EXHAUSTED: the placement's region control block and the page (R369). -/
  | memoryExhausted (rcb page : Nat)
  /-- A region has reached its energy cap (R403). -/
  | energyCap (rgn : Nat)
  /-- A fatal trap of a placement under policy REPORT (R342). -/
  | trapReport (rcb cause : Nat)
  /-- The answer to a debugger's read: 0 OK, 1 ABSENT, 3 ERROR, and the value (R47 to R49). -/
  | register (reg : AnyReg) (status : Nat) (value : Val)
  | flit (port seq : Nat) (data : BitVec 1024)
  | ack (port seq : Nat)
  deriving DecidableEq, Repr

/-- The power control of the module: the cap in W, the last ten samples in mW, newest first, the count of samples for
which every die has been at step 7 with the average above the cap, the samples since the last raise and the last
lowering of each die's step, POWER_LIMIT, and the temperatures (R400, R404); the microsecond of the last sample, and what the world
has the controller measure next, where it has said so (assumption 118). -/
structure Power where
  cap : Nat := 2400
  samples : List Nat := []
  overCap : Nat := 0
  limit : Bool := false
  sinceRaise : FMap Nat := []
  sinceLower : FMap Nat := []
  temps : List Int := []
  /-- The dies held at step 7 for their temperature. -/
  hot : List Nat := []
  tick : Nat := 0
  reading : Option (Nat × List Int) := none
  deriving DecidableEq, Repr

/-- A Limis port: the packages it has a path to, whether it is up, the version chosen, the flits not yet acknowledged,
the next sequence number to send and to expect, the failed resends of the first of them, the flits delivered (R414, R417). -/
structure Link where
  peers : List Nat := []
  up : Bool := false
  version : Option (Nat × Nat) := none
  /-- The flits not yet acknowledged: sequence number, package, content. -/
  retry : List (Nat × Nat × BitVec 1024) := []
  nextSeq : Nat := 0
  expect : Nat := 0
  fails : Nat := 0
  received : List (BitVec 1024) := []
  deriving DecidableEq, Repr

/-- A reduction group of an all-reduce unit: the I/O die of the unit; the contributors by index, none for one of another package, whose
package is in away; the package whose unit adds, where it is another one; the queue that the contributors of this package push to,
their result queues, the FP32 words of a contribution, the lanes that have arrived from each, the contributions taken, and the lanes
of results that another package has sent (R416). -/
structure Group where
  unit : Nat := 0
  members : List (Option Who)
  away : FMap Nat := []
  home : Option Nat := none
  queue : Nat
  results : List Nat
  words : Nat
  arrived : FMap (List Lane) := []
  taken : FMap (List Lane) := []
  result : List Lane := []
  deriving DecidableEq, Repr

/-- The boot of the package: whether it has booted; the measurement registers of each management controller; whether it
is the pod's root, its tree topology table, the node statuses decided so far (R409 to R412). -/
structure Boot where
  booted : Bool := false
  m : FMap (List Byte) := []
  root : Bool := true
  topology : List Word := []
  status : FMap Nat := []
  /-- The cycle of die 0 in which a node's status was decided. -/
  since : FMap Nat := []
  deriving DecidableEq, Repr

/-- What the spec leaves to system software, whose programs it does not give, and to the configuration of the package: a queue's
descriptor is written, a port attached or detached, words of a region control block written; a host key is listed for a
partition, a reduction group configured, the packages that a link leads to set; the package's place in its pod (R208, R209, R339,
R375, R411, R414, R416). -/
inductive SysAct where
  | descriptor (queue : Nat) (words : List Word)
  | attach (tile port queue : Nat) (producer : Bool)
  | detach (tile port : Nat)
  | region (rcb : Nat) (words : List Word)
  | hostKey (part : Nat) (key : List Byte)
  | group (id : Nat) (g : Group)
  | peers (link : Nat) (packages : List Nat)
  | pod (root : Bool) (pkg : Nat) (topology : List Word)
  deriving DecidableEq, Repr

/-- What comes from outside: a datagram of the host, a debugger's read of a register, an act of system software, a soft error, or an
event of the world around the package. -/
inductive Input where
  | frame (f : Frame)
  /-- System software acts, or the package is configured (R208, R209, R339, assumption 73). -/
  | system (x : SysAct)
  /-- A debugger of a host session reads a register: no operation of the host carries it in the spec, which says what it does (R47 to
  R49, R394, assumption 110). -/
  | debug (session : Nat) (reg : AnyReg)
  /-- An uncorrectable error strikes a word or a register (R49, R407, R408). -/
  | upset (x : Struck)
  /-- An access of a structure of a die meets a corrected error (R407). -/
  | corrected (die structure_ : Nat)
  | event (i : Instr)
  deriving DecidableEq, Repr

/-- The whole package. -/
structure State where
  tiles : FMap Tile
  queues : FMap Queue
  /-- The words of the descriptors that system software has written, and the two frames of device memory that hold all descriptors
  (R208). -/
  descs : FMap (List Word)
  descHome : List Nat
  /-- HBM bytes by physical address; the poisoned 8-byte words (R364, R408). -/
  hbm : Memory
  hbmPoison : FMap Bool
  /-- The package's own id among the packages of its pod (R362). -/
  pkg : Nat
  flights : List Flight
  nextId : Nat
  dies : FMap Die
  nodes : FMap Node
  sources : FMap Source
  /-- Copy engines by engine id (R281). -/
  engines : FMap Engine
  /-- Reports of the engines' pushes, by push number. -/
  via : FMap Via
  /-- The poisoned words whose error has been recorded: structure, unit, word (R407, R408). -/
  noted : List (Nat × Nat × Nat)
  cur : Issue
  due : List Move
  choices : Nat
  /-- Cold and warm resets so far: each draws new ticket secrets (R234). -/
  boots : Nat
  /-- A scheduling pass is due (R348). -/
  passDue : Bool
  /-- The 2 MiB frames of HBM in use, by number. -/
  frames : List Nat
  registered : List Registered
  handles : List Handle
  /-- The host keys that partition 0's configuration lists, with their partition (R375). -/
  hostKeys : List (Nat × List Byte)
  sessions : FMap Session
  calls : FMap Call
  /-- Datagrams that were discarded (R374). -/
  discarded : Nat
  /-- What is yet to come from outside: datagrams, samples, flits, resets. -/
  inbox : List Input
  outbox : List Output
  power : Power
  links : FMap Link
  groups : FMap Group
  boot : Boot
  deriving DecidableEq, Repr

/-- The machine right after reset. -/
def State.reset : State :=
  { tiles := [], queues := [], descs := [], descHome := [], hbm := [], hbmPoison := [], pkg := 0, flights := [], nextId := 0, dies := [], nodes := [], sources := [], engines := [], via := [], noted := []
    cur := {}, due := [], choices := 0, boots := 0, passDue := false, frames := [], registered := [], handles := [], hostKeys := []
    sessions := [], calls := [], discarded := 0, inbox := [], outbox := [], power := {}, links := [], groups := [], boot := {} }

end Sys2Proof.Machine

/-- The bytes of the pages of a tile's records, whose layout the spec does not give; FREE VALUE, assumption 73 (R159). -/
opaque Sys2Proof.Config.recordByte : Sys2Proof.Machine.Records → Nat → Sys2Proof.Byte

/-- The records after a byte is written there; FREE VALUE, assumption 73 (R159). -/
opaque Sys2Proof.Config.recordStore : Sys2Proof.Machine.Records → Nat → Sys2Proof.Byte → Sys2Proof.Machine.Records
end

