-- ==== Sys2Proof/Machine/Flags.lean ====
section
/-!
DEFINITION. The conditions: the machine keeps no arithmetic flags, and every comparison writes or branches on one of
the conditions of R79. The floating-point conditions of R143 stand beside the FP32 comparison in VecFloat.
-/
namespace Sys2Proof.Machine

/-- An integer condition by its code on two values of any width (R79). Codes 6 and 7 are no conditions. -/
def cond {n : Nat} (code : Nat) (x y : BitVec n) : Bool :=
  match code with
  | 0 => x == y
  | 1 => x != y
  | 2 => x.slt y
  | 3 => !x.slt y
  | 4 => x.ult y
  | 5 => !x.ult y
  | _ => false

end Sys2Proof.Machine
end

