-- ==== Sys2Proof/Machine/Float.lean ====
section
/-!
DEFINITION. Number formats and exact arithmetic: decoding and rounding of every floating-point format, the FP32
operations, the S20 scale, and the group sums of the matrix array (R108 to R131). A finite value is an integer times a
power of two, so that every operation is exact until it rounds once.
-/
namespace Sys2Proof.Machine

/-! ### Formats (R108, R109) -/

/-- A floating-point element format: exponent and fraction bits, bias, what an exponent of all ones means, and the
largest finite pattern. -/
structure Fmt where
  eb : Nat
  mb : Nat
  bias : Int
  /-- All ones: infinity or NaN. Otherwise the exponent is an ordinary one. -/
  ieee : Bool
  /-- The one NaN magnitude of a format that is not ieee, if it has one. -/
  nan : Option Nat
  maxMag : Nat
  /-- A result beyond the largest finite value becomes that value (R122). -/
  sat : Bool
  deriving DecidableEq, Repr

/-- FP32. -/
def fp32 : Fmt := { eb := 8, mb := 23, bias := 127, ieee := true, nan := none, maxMag := 0x7F7FFFFF, sat := false }

/-- FP16. -/
def fp16 : Fmt := { eb := 5, mb := 10, bias := 15, ieee := true, nan := none, maxMag := 0x7BFF, sat := false }

/-- BF16. -/
def bf16 : Fmt := { eb := 8, mb := 7, bias := 127, ieee := true, nan := none, maxMag := 0x7F7F, sat := false }

/-- E5M2. -/
def e5m2 : Fmt := { eb := 5, mb := 2, bias := 15, ieee := true, nan := none, maxMag := 0x7B, sat := false }

/-- E4M3. -/
def e4m3 : Fmt := { eb := 4, mb := 3, bias := 7, ieee := false, nan := some 0x7F, maxMag := 0x7E, sat := true }

/-- E2M1. -/
def e2m1 : Fmt := { eb := 2, mb := 1, bias := 1, ieee := false, nan := none, maxMag := 7, sat := true }

/-- A format that saturates (R122). -/
def Fmt.saturating (f : Fmt) : Fmt := { f with sat := true }

/-- A decoded element: a NaN with its fraction placed at the top of 23 bits, an infinity, or (−1)^neg × m × 2^e. -/
inductive Num where
  | nan (neg : Bool) (frac : Nat)
  | inf (neg : Bool)
  | fin (neg : Bool) (m : Nat) (e : Int)
  deriving DecidableEq, Repr

/-- Decode a pattern (R108, R109). -/
def Fmt.decode (f : Fmt) (x : Nat) : Num :=
  let neg := x.testBit (f.eb + f.mb)
  let mag := x % 2 ^ (f.eb + f.mb)
  let e := mag / 2 ^ f.mb
  let fr := mag % 2 ^ f.mb
  if f.ieee && e == 2 ^ f.eb - 1 then (if fr = 0 then .inf neg else .nan neg (fr * 2 ^ (23 - f.mb)))
  else if f.nan == some mag then .nan neg (fr * 2 ^ (23 - f.mb))
  else if e = 0 then .fin neg fr (1 - f.bias - f.mb)
  else .fin neg (2 ^ f.mb + fr) (e - f.bias - f.mb)

/-- A pattern from its sign and its magnitude. -/
def Fmt.pack (f : Fmt) (neg : Bool) (mag : Nat) : Nat := (if neg then 2 ^ (f.eb + f.mb) else 0) + mag

/-- The magnitude of infinity. -/
def Fmt.infMag (f : Fmt) : Nat := (2 ^ f.eb - 1) * 2 ^ f.mb

/-- The canonical NaN (R123). -/
def Fmt.canonical (f : Fmt) : Nat := match f.nan with | some m => m | none => f.infMag + 2 ^ (f.mb - 1)

/-! ### Exact magnitudes -/

/-- The square root of a number, rounded down, bit by bit. -/
def isqrtFrom (n : Nat) : Nat → Nat → Nat
  | 0, r => r
  | k + 1, r => if (r + 2 ^ k) * (r + 2 ^ k) ≤ n then isqrtFrom n k (r + 2 ^ k) else isqrtFrom n k r

/-- The square root of a number, rounded down. -/
def isqrt (n : Nat) : Nat := isqrtFrom n (Nat.log2 n / 2 + 1) 0

/-- A positive real number: m 2^e, a quotient of two such, a square root, or the reciprocal of a square root. -/
inductive Mag where
  | dyadic (m : Nat) (e : Int)
  | quot (m n : Nat) (e : Int)
  | root (m : Nat) (e : Int)
  | rroot (m : Nat) (e : Int)
  deriving DecidableEq, Repr

/-- m × 2^e rounded down, and whether something was lost. -/
def shiftFloor (m : Nat) (e : Int) : Nat × Bool :=
  if 0 ≤ e then (m * 2 ^ e.toNat, false)
  else (m / 2 ^ (-e).toNat, m % 2 ^ (-e).toNat != 0)

/-- x × 2^j rounded down, and whether something was lost. -/
def Mag.scaled (x : Mag) (j : Int) : Nat × Bool :=
  match x with
  | .dyadic m e => shiftFloor m (e + j)
  | .quot m n e =>
    if 0 ≤ e + j then (m * 2 ^ (e + j).toNat / n, m * 2 ^ (e + j).toNat % n != 0)
    else (m / (n * 2 ^ (-(e + j)).toNat), m % (n * 2 ^ (-(e + j)).toNat) != 0)
  | .root m e =>
    let (a, lost) := shiftFloor m (e + 2 * j)
    let r := isqrt a
    (r, lost || r * r != a)
  | .rroot m e =>
    let k := 2 * j - e
    if 0 ≤ k then
      let a := 2 ^ k.toNat / m
      let r := isqrt a
      (r, r * r * m != 2 ^ k.toNat)
    else (0, true)

/-- An upper bound of floor(log2 x) that is at most one too large. -/
def Mag.logBound : Mag → Int
  | .dyadic m e => Nat.log2 m + e
  | .quot m n e => Nat.log2 m - Nat.log2 n + e
  | .root m e => (Nat.log2 m + e) / 2
  | .rroot m e => (1 - (Nat.log2 m + e)) / 2

/-- floor(log2 x). -/
def Mag.log (x : Mag) : Int := if 1 ≤ (x.scaled (-x.logBound)).1 then x.logBound else x.logBound - 1

/-! ### Rounding (R118 to R122) -/

/-- Whether the magnitude t + (q + lost) / 65,536 rounds up: mode 0 RNE, 1 RTZ, 2 RDN, 3 RUP, 4 SR with the random
number r (R118 to R120). -/
def roundsUp (mode r : Nat) (neg : Bool) (t q : Nat) (lost : Bool) : Bool :=
  match mode with
  | 0 => decide (32768 < q) || (decide (q = 32768) && (lost || t % 2 == 1))
  | 1 => false
  | 2 => neg && (q != 0 || lost)
  | 3 => !neg && (q != 0 || lost)
  | _ => decide (65536 ≤ q + r)

/-- The magnitude that a result beyond the largest finite value gets (R122). -/
def Fmt.overflow (f : Fmt) (mode : Nat) (neg : Bool) : Nat :=
  if f.sat then f.maxMag
  else
    match mode with
    | 1 => f.maxMag
    | 2 => if neg then f.infMag else f.maxMag
    | 3 => if neg then f.maxMag else f.infMag
    | _ => f.infMag

/-- Round a positive number into a format; the sign steers the directed modes (R119 to R122). -/
def Fmt.roundMag (f : Fmt) (mode r : Nat) (neg : Bool) (x : Mag) : Nat :=
  let emin := 1 - f.bias
  let ulp := max x.log emin - f.mb
  let (n, lost) := x.scaled (16 - ulp)
  let t := n / 65536
  let q := n % 65536
  let t' := if roundsUp mode r neg t q lost then t + 1 else t
  let mag := (ulp - (emin - f.mb)).toNat * 2 ^ f.mb + t'
  f.pack neg (if f.maxMag < mag then f.overflow mode neg else mag)

/-- Round (−1)^neg × m × 2^e into a format; zero keeps its sign. -/
def Fmt.round (f : Fmt) (mode r : Nat) (neg : Bool) (m : Nat) (e : Int) : Nat :=
  if m = 0 then f.pack neg 0 else f.roundMag mode r neg (.dyadic m e)

/-- Round a positive number to an integer of n bits and saturate (R119, R122). -/
def roundInt (n mode r : Nat) (neg : Bool) (m : Nat) (e : Int) : Nat :=
  if m = 0 then 0
  else
    let (a, lost) := (Mag.dyadic m e).scaled 16
    let t := a / 65536
    let t' := if roundsUp mode r neg t (a % 65536) lost then t + 1 else t
    if neg then (2 ^ n - min t' (2 ^ (n - 1))) % 2 ^ n else min t' (2 ^ (n - 1) - 1)

/-! ### NaN (R123, R124) -/

/-- A NaN of FP32 by its pattern. -/
def isNan (x : Lane) : Bool := decide (0x7F800000 < x.toNat % 2 ^ 31)

/-- Quieten a NaN. -/
def quieten (x : Lane) : Lane := x ||| 0x400000

/-- The first NaN of a list of operands, quietened (R123). -/
def firstNan (l : List Lane) : Option Lane := (l.find? isNan).map quieten

/-- The canonical NaN of FP32 (R123). -/
def nan32 : Lane := 0x7FC00000

/-- Plus or minus infinity of FP32. -/
def inf32 (neg : Bool) : Lane := if neg then 0xFF800000 else 0x7F800000

/-- Plus or minus zero of FP32. -/
def zero32 (neg : Bool) : Lane := if neg then 0x80000000 else 0

/-- Round an exact value to FP32. -/
def to32 (mode r : Nat) (neg : Bool) (m : Nat) (e : Int) : Lane := BitVec.ofNat 32 (fp32.round mode r neg m e)

/-- Round a positive number to FP32 with a sign. -/
def mag32 (mode r : Nat) (neg : Bool) (x : Mag) : Lane := BitVec.ofNat 32 (fp32.roundMag mode r neg x)

/-- Decode an FP32 lane. -/
def dec32 (x : Lane) : Num := fp32.decode x.toNat

/-! ### FP32 arithmetic (R140, R141) -/

/-- A signed integer from its sign and magnitude. -/
def signed (neg : Bool) (m : Nat) : Int := if neg then -(m : Int) else m

/-- The sign of a sum of opposite values, or of zeros of opposite sign (R110); sr is the sign under SR. -/
def zeroSign (mode : Nat) (sr : Bool) : Bool := match mode with | 2 => true | 4 => sr | _ => false

/-- Round the exact sum of two finite values (R110, R119). -/
def sum32 (mode r : Nat) (sr : Bool) (n1 : Bool) (m1 : Nat) (e1 : Int) (n2 : Bool) (m2 : Nat) (e2 : Int) : Lane :=
  let e := min e1 e2
  let s := signed n1 m1 * 2 ^ (e1 - e).toNat + signed n2 m2 * 2 ^ (e2 - e).toNat
  if s = 0 then zero32 (if m1 = 0 ∧ m2 = 0 ∧ n1 = n2 then n1 else zeroSign mode sr)
  else to32 mode r (decide (s < 0)) s.natAbs e

/-- x + y, or with neg x − y. -/
def fadd (neg : Bool) (mode r : Nat) (x y : Lane) : Lane :=
  match firstNan [x, y] with
  | some n => n
  | none =>
    match dec32 x, dec32 y with
    | .inf a, .inf b => if a = (b != neg) then inf32 a else nan32
    | .inf a, _ => inf32 a
    | _, .inf b => inf32 (b != neg)
    | .fin n1 m1 e1, .fin n2 m2 e2 => sum32 mode r (Config.srZero x.toNat y.toNat) n1 m1 e1 (n2 != neg) m2 e2
    | _, _ => nan32

/-- x × y. -/
def fmul (mode r : Nat) (x y : Lane) : Lane :=
  match firstNan [x, y] with
  | some n => n
  | none =>
    match dec32 x, dec32 y with
    | .inf a, .inf b => inf32 (a != b)
    | .inf a, .fin b m _ => if m = 0 then nan32 else inf32 (a != b)
    | .fin a m _, .inf b => if m = 0 then nan32 else inf32 (a != b)
    | .fin n1 m1 e1, .fin n2 m2 e2 => to32 mode r (n1 != n2) (m1 * m2) (e1 + e2)
    | _, _ => nan32

/-- x × y + z with one rounding; np negates the product and nz negates z. -/
def ffma (np nz : Bool) (mode r : Nat) (x y z : Lane) : Lane :=
  match firstNan [x, y, z] with
  | some n => n
  | none =>
    let add := fun (neg : Bool) (inf : Bool) (m : Nat) (e : Int) =>
      match dec32 z, inf with
      | .inf c, true => if neg = (c != nz) then inf32 neg else nan32
      | .inf c, false => inf32 (c != nz)
      | _, true => inf32 neg
      | .fin n3 m3 e3, false => sum32 mode r (Config.srZero (x.toNat * 2 ^ 32 + y.toNat) z.toNat) neg m e (n3 != nz) m3 e3
      | _, false => nan32
    match dec32 x, dec32 y with
    | .inf a, .inf b => add ((a != b) != np) true 0 0
    | .inf a, .fin b m _ => if m = 0 then nan32 else add ((a != b) != np) true 0 0
    | .fin a m _, .inf b => if m = 0 then nan32 else add ((a != b) != np) true 0 0
    | .fin n1 m1 e1, .fin n2 m2 e2 => add ((n1 != n2) != np) false (m1 * m2) (e1 + e2)
    | _, _ => nan32

/-- x ÷ y (R141). -/
def fdiv (mode r : Nat) (x y : Lane) : Lane :=
  match firstNan [x, y] with
  | some n => n
  | none =>
    match dec32 x, dec32 y with
    | .inf _, .inf _ => nan32
    | .inf a, .fin b _ _ => inf32 (a != b)
    | .fin a _ _, .inf b => zero32 (a != b)
    | .fin n1 m1 e1, .fin n2 m2 e2 =>
      if m2 = 0 then (if m1 = 0 then nan32 else inf32 (n1 != n2))
      else if m1 = 0 then zero32 (n1 != n2)
      else mag32 mode r (n1 != n2) (.quot m1 m2 (e1 - e2))
    | _, _ => nan32

/-- The square root (R141). -/
def fsqrt (mode r : Nat) (x : Lane) : Lane :=
  match firstNan [x] with
  | some n => n
  | none =>
    match dec32 x with
    | .inf a => if a then nan32 else inf32 false
    | .fin neg m e => if m = 0 then zero32 neg else if neg then nan32 else mag32 mode r false (.root m e)
    | _ => nan32

/-- 1 ÷ x (R141). -/
def frcp (x : Lane) : Lane :=
  match firstNan [x] with
  | some n => n
  | none =>
    match dec32 x with
    | .inf a => zero32 a
    | .fin neg m e => if m = 0 then inf32 neg else mag32 0 0 neg (.quot 1 m (-e))
    | _ => nan32

/-- 1 ÷ √x (R141). -/
def frsq (x : Lane) : Lane :=
  match firstNan [x] with
  | some n => n
  | none =>
    match dec32 x with
    | .inf a => if a then nan32 else zero32 false
    | .fin neg m e => if m = 0 then inf32 neg else if neg then nan32 else mag32 0 0 false (.rroot m e)
    | _ => nan32

/-! ### 2^x, log2 x and tanh x, correctly rounded (R140, R141)

Each function is enclosed between two dyadic numbers, computed with integers that carry p fraction bits; where both
round to the same FP32 value, that is the correctly rounded result. Otherwise p doubles. -/

/-- Two bounds of a number, times 2^p. -/
structure Bounds where
  lo : Nat
  hi : Nat
  deriving DecidableEq, Repr

/-- Product of two bounds. -/
def Bounds.mul (p : Nat) (a b : Bounds) : Bounds := { lo := a.lo * b.lo / 2 ^ p, hi := a.hi * b.hi / 2 ^ p + 1 }

/-- Square root of bounds. -/
def Bounds.sqrt (p : Nat) (a : Bounds) : Bounds := { lo := isqrt (a.lo * 2 ^ p), hi := isqrt (a.hi * 2 ^ p) + 1 }

/-- The product of 2^(2^-i) over the one bits of a fraction: the next bit is bit n − 1 of f, and s bounds 2^(2^-i). -/
def exp2Bits (p f : Nat) : Nat → Bounds → Bounds → Bounds
  | 0, _, acc => acc
  | n + 1, s, acc =>
    let s := s.sqrt p
    exp2Bits p f n s (if f.testBit n then acc.mul p s else acc)

/-- Bounds of 2^(f / 2^p), for f below 2^p, where less than 2^-p may be missing from the exponent if rest. -/
def exp2Frac (p f : Nat) (rest : Bool) : Bounds :=
  if f = 0 ∧ !rest then { lo := 2 ^ p, hi := 2 ^ p }
  else
    let b := exp2Bits p f p { lo := 2 * 2 ^ p, hi := 2 * 2 ^ p } { lo := 2 ^ p, hi := 2 ^ p }
    if rest then { b with hi := b.hi + b.hi / 2 ^ p + 2 } else b

/-- Round both bounds, which are times 2^k, to nearest; the result where they agree. -/
def Bounds.agree (b : Bounds) (neg : Bool) (k : Int) : Option Lane :=
  if b.lo = 0 then none
  else
    let x := to32 0 0 neg b.lo k
    let y := to32 0 0 neg b.hi k
    if x = y then some x else none

/-- Try p, 2p, 4p, … fraction bits; the last try gives the rounded lower bound. -/
def refine (f : Nat → Bounds × Int) (neg : Bool) : Nat → Nat → Lane
  | 0, p => to32 0 0 neg (f p).1.lo (f p).2
  | n + 1, p =>
    match (f p).1.agree neg (f p).2 with
    | some x => x
    | none => refine f neg n (2 * p)

/-- The integer part and p fraction bits of (−1)^neg m 2^e, rounded down, and whether something was lost. -/
def fixedFloor (p : Nat) (neg : Bool) (m : Nat) (e : Int) : Int × Nat × Bool :=
  let (a, lost) := shiftFloor m (e + p)
  let v : Int := if neg then -(a : Int) - (if lost then 1 else 0) else a
  (v / 2 ^ p, (v % 2 ^ p).toNat, lost)

/-- 2^x (R141). -/
def fexp2 (x : Lane) : Lane :=
  match firstNan [x] with
  | some n => n
  | none =>
    match dec32 x with
    | .inf a => if a then zero32 false else inf32 false
    | .fin neg m e =>
      if m = 0 then 0x3F800000
      else if 8 ≤ (Mag.dyadic m e).log then (if neg then zero32 false else inf32 false)
      else
        refine (fun p =>
          let (n, f, lost) := fixedFloor p neg m e
          (exp2Frac p f lost, n - p)) false 5 64
    | _ => nan32

/-- Bits of log2 of a number y / 2^p in [1, 2), by repeated squaring, as long as the bounds agree on the next bit: the
number of bits found and their value. -/
def logBits (p : Nat) : Nat → Bounds → Nat × Nat → Nat × Nat
  | 0, _, acc => acc
  | n + 1, b, acc =>
    let s := b.mul p b
    if 2 * 2 ^ p ≤ s.lo then logBits p n { lo := s.lo / 2, hi := (s.hi + 1) / 2 } (acc.1 + 1, 2 * acc.2 + 1)
    else if s.hi < 2 * 2 ^ p then logBits p n s (acc.1 + 1, 2 * acc.2)
    else acc

/-- log2 x (R141). -/
def flog2 (x : Lane) : Lane :=
  match firstNan [x] with
  | some n => n
  | none =>
    match dec32 x with
    | .inf a => if a then nan32 else inf32 false
    | .fin neg m e =>
      if m = 0 then inf32 true
      else if neg then nan32
      else
        let l := Nat.log2 m
        let n : Int := l + e
        if m = 2 ^ l then to32 0 0 (decide (n < 0)) n.natAbs 0
        else
          refine (fun p =>
            let y := m * 2 ^ p / 2 ^ l
            let (k, v) := logBits p (p / 2) { lo := y, hi := if m * 2 ^ p % 2 ^ l = 0 then y else y + 1 } (0, 0)
            let a : Int := n * 2 ^ k + v
            if 0 ≤ n then ({ lo := a.natAbs, hi := a.natAbs + 1 }, -k)
            else ({ lo := (a + 1).natAbs, hi := a.natAbs }, -k)) (decide (n < 0)) 4 128
    | _ => nan32

/-- Bounds of the sum of y^i / i! for i from k on, with n further terms, where y / 2^p is below 1/8. -/
def expTerms (p : Nat) (y : Bounds) : Nat → Nat → Bounds → Bounds → Bounds
  | 0, _, term, acc => { acc with hi := acc.hi + 2 * term.hi + 2 }
  | n + 1, k, term, acc =>
    let t := term.mul p y
    let t : Bounds := { lo := t.lo / k, hi := t.hi / k + 1 }
    expTerms p y n (k + 1) t { lo := acc.lo + t.lo, hi := acc.hi + t.hi }

/-- Square n times. -/
def Bounds.squares (p : Nat) : Nat → Bounds → Bounds
  | 0, b => b
  | n + 1, b => (b.mul p b).squares p n

/-- Bounds of e^(y / 2^p) for y below 32 2^p: the exponent is divided by 256 and the result squared eight times. -/
def expBounds (p y : Nat) : Bounds :=
  let s : Bounds := { lo := y / 256, hi := y / 256 + 1 }
  (expTerms p s (p / 3 + 8) 1 { lo := 2 ^ p, hi := 2 ^ p } { lo := 2 ^ p, hi := 2 ^ p }).squares p 8

/-- tanh x (R141): below 2^-13 the result rounds to x, and from 16 on to 1. -/
def ftanh (x : Lane) : Lane :=
  match firstNan [x] with
  | some n => n
  | none =>
    match dec32 x with
    | .inf a => if a then 0xBF800000 else 0x3F800000
    | .fin neg m e =>
      if m = 0 then x
      else if (Mag.dyadic m e).log < -13 then x
      else if 4 ≤ (Mag.dyadic m e).log then (if neg then 0xBF800000 else 0x3F800000)
      else
        refine (fun p =>
          let b := expBounds p (shiftFloor m (e + 1 + p)).1
          let lo := (b.lo - 2 ^ p) * 2 ^ p / (b.lo + 2 ^ p)
          ({ lo := lo, hi := (b.hi + 1 - 2 ^ p) * 2 ^ p / (b.hi + 1 + 2 ^ p) + 1 }, -p)) neg 4 128
    | _ => nan32

/-! ### Comparison, minimum and maximum (R140, R143, R151) -/

/-- The rank of an FP32 value that is no NaN: −0 is one below +0. -/
def rank32 (x : Lane) : Int := if bitAt x 31 then -(x.toNat % 2 ^ 31 : Int) - 1 else x.toNat

/-- The first of two on a tie: the larger, or with min the smaller; a NaN propagates, or with num is ignored. -/
def fpick (big num : Bool) (x y : Lane) : Lane :=
  match firstNan [x, y] with
  | some n =>
    if num && !isNan x then x
    else if num && !isNan y then y
    else n
  | none => if (if big then rank32 x < rank32 y else rank32 y < rank32 x) then y else x

/-- Equality and order of FP32 values, where −0 equals +0 (R143). -/
def cmpRank (x : Lane) : Int := if x.toNat % 2 ^ 31 = 0 then 0 else rank32 x

/-- The conditions of VCMP (R143). -/
def fcond (code : Nat) (x y : Lane) : Bool :=
  let un := isNan x || isNan y
  let a := cmpRank x
  let b := cmpRank y
  match code with
  | 0 => !un && decide (a = b)
  | 1 => un || decide (a ≠ b)
  | 2 => !un && decide (a < b)
  | 3 => !un && decide (a ≤ b)
  | 4 => !un && decide (b < a)
  | 5 => !un && decide (b ≤ a)
  | 6 => un
  | _ => !un

/-- VCLASS (R144). -/
def fclass (x : Lane) : Lane :=
  let neg := bitAt x 31
  let mag := x.toNat % 2 ^ 31
  let b :=
    if 0x7F800000 < mag then (if bitAt x 22 then 9 else 8)
    else if mag = 0x7F800000 then (if neg then 0 else 7)
    else if mag = 0 then (if neg then 3 else 4)
    else if mag < 0x800000 then (if neg then 2 else 5)
    else (if neg then 1 else 6)
  BitVec.ofNat 32 (2 ^ b)

/-! ### Conversion (R119 to R124, R147) -/

/-- The pattern of a NaN in a format: sign and top fraction bits kept, quiet (R123); zero where the format has none
(R124); ns keeps the NaN of E4M3. -/
def Fmt.ofNan (f : Fmt) (ns : Bool) (neg : Bool) (frac : Nat) : Nat :=
  if f.ieee then f.pack neg (f.infMag + (frac / 2 ^ (23 - f.mb) ||| 2 ^ (f.mb - 1)))
  else
    match f.nan with
    | some m => if ns then f.pack neg m else 0
    | none => 0

/-- Convert a decoded value into a format. -/
def Fmt.ofNum (f : Fmt) (ns : Bool) (mode r : Nat) : Num → Nat
  | .nan neg fr => f.ofNan ns neg fr
  | .inf neg => f.pack neg (if f.sat then f.maxMag else f.infMag)
  | .fin neg m e => f.round mode r neg m e

/-- Convert a decoded value into an integer format of n bits; NaN gives 0 (R119, R124). -/
def intOfNum (n mode r : Nat) : Num → Nat
  | .nan _ _ => 0
  | .inf neg => if neg then 2 ^ (n - 1) else 2 ^ (n - 1) - 1
  | .fin neg m e => roundInt n mode r neg m e

/-- An integer of n bits as FP32. -/
def ofInt32 (n mode r : Nat) (x : Nat) : Lane :=
  let v : Int := if x.testBit (n - 1) then (x : Int) - 2 ^ n else x
  to32 mode r (decide (v < 0)) v.natAbs 0

/-- The formats of VCVT by code F (R147); 7 and 8 are integers. -/
def cvtFmt (f : Nat) : Fmt :=
  match f with
  | 0 => fp16
  | 1 => bf16
  | 2 => e4m3
  | 3 => e4m3
  | 4 => e5m2
  | 5 => e5m2.saturating
  | _ => e2m1

/-- FP32 to F (R147). -/
def narrow (f mode r : Nat) (x : Lane) : Lane :=
  BitVec.ofNat 32 (
    match f with
    | 7 => intOfNum 8 mode r (dec32 x)
    | 8 => intOfNum 32 mode r (dec32 x)
    | _ => (cvtFmt f).ofNum (f == 3) mode r (dec32 x))

/-- F to FP32 (R147). -/
def widen (f mode r : Nat) (x : Lane) : Lane :=
  match f with
  | 7 => ofInt32 8 0 0 (x.toNat % 256)
  | 8 => ofInt32 32 mode r x.toNat
  | _ =>
    let g := cvtFmt f
    BitVec.ofNat 32 (fp32.ofNum false 0 0 (g.decode (x.toNat % 2 ^ (1 + g.eb + g.mb))))

/-! ### The S20 scale (R112, R113, R150) -/

/-- The S20 of an FP32 value (R113); a NaN scale is 0xFF000 (R150). -/
def s20Of (x : Lane) : Nat :=
  match dec32 x with
  | .nan _ _ => 0xFF000
  | .inf _ => 0xFF000
  | .fin neg m e =>
    if m = 0 then 0
    else if neg then 0xFF000
    else
      let g := Mag.dyadic m e
      let (n, lost) := g.scaled (28 - g.log)
      let t := n / 65536
      let t' := if roundsUp 0 0 false t (n % 65536) lost then t + 1 else t
      let v := (g.log + 127) * 4096 + ((t' : Int) - 4096)
      if v < 4096 then 0 else if 0xFEFFF < v then 0xFEFFF else v.toNat

/-- An S20 scale as FP32 (R112); a NaN scale gives the canonical NaN. -/
def s20Val (s : Nat) : Lane :=
  let e := s / 4096 % 256
  if e = 0 then 0 else if e = 255 then nan32 else BitVec.ofNat 32 (e * 2 ^ 23 + s % 4096 * 2 ^ 11)

/-- The code of an element under a scale, always saturating (R150). -/
def quantise (f : Fmt) (mode r : Nat) (x : Lane) (s : Nat) : Nat :=
  let e := s / 4096 % 256
  if e = 0 ∨ e = 255 then 0
  else
    match dec32 x with
    | .nan _ _ => 0
    | .inf neg => f.pack neg f.maxMag
    | .fin neg m ex =>
      if m = 0 then f.pack neg 0
      else f.saturating.roundMag mode r neg (.quot m (4096 + s % 4096) (ex - (e - 139)))

/-! ### Stochastic draws (R121) -/

/-- The state after one draw. -/
def drawStep (x : Word) : Word :=
  let x := x ^^^ (x <<< 13)
  let x := x ^^^ (x >>> 7)
  x ^^^ (x <<< 17)

/-- The state after n draws. -/
def drawState : Nat → Word → Word
  | 0, x => x
  | n + 1, x => drawState n (drawStep x)

/-- The random number of draw n, counted from 0, from a seed. -/
def drawNth (seed : Word) (n : Nat) : Nat := (drawState (n + 1) seed).toNat % 65536

/-! ### Group and slab sums (R125 to R130) -/

/-- The NaN with the smaller payload bits [21:0]; the first on a tie (R130). -/
def minNan (x y : Lane) : Lane := if y.toNat % 2 ^ 22 < x.toNat % 2 ^ 22 then y else x

/-- A matrix operation of two FP32 values whose NaN rules are those of R127 to R130: arising is the NaN that arises
here. A NaN operand keeps its sign and its payload [21:0], and its quiet bit is set (R123, R129). -/
def nanRule (arising : Lane) (f : Lane → Lane → Lane) (x y : Lane) : Lane :=
  match isNan x, isNan y with
  | true, true => quieten (minNan x y)
  | true, false => quieten x
  | false, true => quieten y
  | false, false => if isNan (f x y) then arising else f x y

/-- The exact products of a group as (negative, magnitude, exponent). -/
structure Prod where
  neg : Bool
  m : Nat
  e : Int
  deriving DecidableEq, Repr

/-- What the elements of a product give: a NaN, an infinity, or an exact value (R127). -/
inductive PVal where
  | nan
  | inf (neg : Bool)
  | fin (p : Prod)
  deriving DecidableEq, Repr

/-- The exact product of two decoded elements. -/
def productOf (x y : Num) : PVal :=
  match x, y with
  | .nan _ _, _ => .nan
  | _, .nan _ _ => .nan
  | .inf a, .inf b => .inf (a != b)
  | .inf a, .fin b m _ => if m = 0 then .nan else .inf (a != b)
  | .fin a m _, .inf b => if m = 0 then .nan else .inf (a != b)
  | .fin a m e, .fin b n f => .fin ⟨a != b, m * n, e + f⟩

/-- floor(log2) of a nonzero product. -/
def Prod.log (p : Prod) : Int := Nat.log2 p.m + p.e

/-- The largest floor(log2) of the nonzero products of a list, if there is one. -/
def maxLog : List Prod → Option Int
  | [] => none
  | p :: r =>
    match maxLog r with
    | none => if p.m = 0 then none else some p.log
    | some k => if p.m = 0 then some k else some (max p.log k)

/-- The sum of the products in units of u = 2^k, and whether bits were lost below u (R126). -/
def unitSum (k : Int) : List Prod → Int × Bool
  | [] => (0, false)
  | p :: r =>
    let (t, st) := unitSum k r
    let (m, lost) := shiftFloor p.m (p.e - k)
    (t + signed p.neg m, st || lost)

/-- Round a sum of units to FP32, with the sticky bit below it (R126). -/
def roundSticky (t : Int) (st : Bool) (k : Int) : Lane :=
  to32 0 0 (decide (t < 0)) (2 ^ 40 * t.natAbs + natOfBool st) (k - 40)

/-- group_sum (R126): none is a NaN that arises. -/
def groupSum (l : List PVal) : Option Lane :=
  let fins := l.filterMap (fun v => match v with | .fin p => some p | _ => none)
  if l.contains .nan || (l.contains (.inf false) && l.contains (.inf true)) then none
  else if l.contains (.inf false) then some (inf32 false)
  else if l.contains (.inf true) then some (inf32 true)
  else
    match maxLog fins with
    | none => some (zero32 (fins.all (fun p => p.neg)))
    | some e =>
      let (t, st) := unitSum (e - 48) fins
      some (if t = 0 then 0 else roundSticky t st (e - 48))

/-- round32 of a product, with the NaN rules of matrix work. -/
def mmul (arising x y : Lane) : Lane := nanRule arising (fmul 0 0) x y

/-- round32 of a sum, with the NaN rules of matrix work. -/
def madd (arising x y : Lane) : Lane := nanRule arising (fadd false 0 0) x y

/-- The sum S of the groups of a slab: products with their two scales (R126). -/
def slabSum (arising : Lane) : List (List PVal × Lane × Lane) → Option Lane → Lane
  | [], acc => acc.getD 0
  | (p, sa, sb) :: r, acc =>
    let pg := (groupSum p).getD arising
    let sg := mmul arising pg (mmul arising sa sb)
    slabSum arising r (some (match acc with | none => sg | some s => madd arising s sg))

/-- slab_update (R126). -/
def slabUpdate (arising acc gscale : Lane) (groups : List (List PVal × Lane × Lane)) : Lane :=
  madd arising acc (mmul arising (slabSum arising groups none) gscale)

end Sys2Proof.Machine
end

