-- ==== Sys2Proof/Machine/Ops.lean ====
section
/-!
DEFINITION. The named operations over the state: tiles and strands, registers and their conditions, scratchpad
bytes, words and tags, holdings and the banker's check, taking a trap and returning from one.
-/
namespace Sys2Proof.Machine

/-! ### Tiles, strands, dies -/

/-- The strand that nothing has started: every register zero and full, RND_SEED at its reset value (R42, R50). -/
def Strand.fresh (i : Nat) : Strand := { rndSeed := 0x5A17C3E90B6D2F48 + BitVec.ofNat 64 i }

/-- The die of a tile id (R2). -/
def dieOf (t : Nat) : Nat := t / 512

/-- The row of a tile id (R2). -/
def rowOf (t : Nat) : Nat := t / 16 % 32

/-- The column of a tile id (R2). -/
def colOf (t : Nat) : Nat := t % 16

/-- A tile id that names a tile: die 0 to 3, row 0 to 25 (R2). -/
def validTile (t : Nat) : Bool := decide (t < 2048) && decide (rowOf t < 26)

namespace State

/-- A tile of the package; an unlisted tile is as after reset. -/
def tile (s : State) (t : Nat) : Tile := FMap.get {} s.tiles t

/-- Replace a tile. -/
def setTile (s : State) (t : Nat) (x : Tile) : State := { s with tiles := FMap.set s.tiles t x }

/-- Change a tile. -/
def modTile (s : State) (t : Nat) (f : Tile → Tile) : State := s.setTile t (f (s.tile t))

/-- A strand of a tile. -/
def strand (s : State) (w : Who) : Strand := FMap.get (Strand.fresh w.strand) (s.tile w.tile).strands w.strand

/-- Replace a strand. -/
def setStrand (s : State) (w : Who) (x : Strand) : State :=
  s.modTile w.tile (fun t => { t with strands := FMap.set t.strands w.strand x })

/-- Change a strand. -/
def modStrand (s : State) (w : Who) (f : Strand → Strand) : State := s.setStrand w (f (s.strand w))

/-- A compute die. -/
def die (s : State) (d : Nat) : Die := FMap.get {} s.dies d

/-- Change a compute die. -/
def modDie (s : State) (d : Nat) (f : Die → Die) : State := { s with dies := FMap.set s.dies d (f (s.die d)) }

/-- The current cycle of a tile, counted from its die's reset (R4, R9). -/
def now (s : State) (t : Nat) : Nat := (s.die (dieOf t)).clock

/-- TCYC: a multiple of 8 that the reset left open, plus the cycles since (R10, assumption 5). -/
def tcyc (s : State) (t : Nat) : Nat :=
  8 * Config.tcycBase (t + 2048 * (s.die (dieOf t)).resets) + s.now t

/-- Take a number for something new in flight. -/
def fresh (s : State) : Nat × State := (s.nextId, { s with nextId := s.nextId + 1 })

/-- Send something: it lands between lo and hi cycles from now of the owner's die and owes the registers. -/
def send (s : State) (owner : Who) (lo : Nat) (hi : Option Nat) (kind : Kind) (dests : List RegRef := []) : State :=
  let n := s.now owner.tile
  { s with
    flights := s.flights ++ [{ id := s.nextId, owner := owner, die := dieOf owner.tile, lo := n + lo,
                               hi := hi.map (n + ·), dests := dests, kind := kind }]
    nextId := s.nextId + 1 }

/-- The flight of a number. -/
def flight (s : State) (f : Nat) : Option Flight := s.flights.find? (fun x => x.id == f)

/-- Remove a flight. -/
def dropFlight (s : State) (f : Nat) : State := { s with flights := s.flights.filter (fun x => x.id != f) }

/-- Replace what a flight is. -/
def setKind (s : State) (f : Nat) (k : Kind) : State :=
  { s with flights := s.flights.map (fun x => if x.id == f then { x with kind := k } else x) }

/-- A choice the spec leaves open: a number below n, for n above 0. -/
def choose (s : State) (n : Nat) : Nat × State :=
  (Config.choice s.choices % n, { s with choices := s.choices + 1 })

/-- A value the spec does not state. -/
def freeWord (s : State) : Word × State := (Config.freeWord s.choices, { s with choices := s.choices + 1 })

end State

/-! ### Registers -/

/-- A g register: g0 always reads zero and is always full (R36, R37). -/
def Strand.readG (x : Strand) (i : Nat) : SReg := if i = 0 then {} else FMap.get {} x.g i

/-- A write to g0 is discarded (R37). -/
def Strand.writeG (x : Strand) (i : Nat) (r : SReg) : Strand :=
  if i = 0 then x else { x with g := FMap.put {} x.g i r }

/-- A v register. -/
def Strand.readV (x : Strand) (i : Nat) : VReg := FMap.get {} x.v i

/-- Write a v register. -/
def Strand.writeV (x : Strand) (i : Nat) (r : VReg) : Strand := { x with v := FMap.put {} x.v i r }

/-- A k register: k0 always reads all ones and is always full (R36, R37). -/
def Strand.readK (x : Strand) (i : Nat) : KReg := if i = 0 then { val := 0xFFFFFFFF } else FMap.get {} x.k i

/-- A write to k0 is discarded (R37). -/
def Strand.writeK (x : Strand) (i : Nat) (r : KReg) : Strand :=
  if i = 0 then x else { x with k := FMap.put {} x.k i r }

/-- A pointer register (R40). -/
def Strand.readP (x : Strand) (i : Nat) : Ptr := FMap.get {} x.p i

/-- Write a pointer register. -/
def Strand.writeP (x : Strand) (i : Nat) (r : Ptr) : Strand := { x with p := FMap.put {} x.p i r }

/-- What a read issued in a cycle sees of a common register (R46). -/
def CReg.seen (r : CReg) (cycle : Nat) : SReg :=
  match r.wrote with
  | none => r.now
  | some t => if cycle ≤ t + 1 then r.before else r.now

/-- A write of a common register that takes effect in a cycle (R46). -/
def CReg.write (r : CReg) (cycle : Nat) (x : SReg) : CReg :=
  { now := x, before := if r.wrote = some cycle then r.before else r.now, wrote := some cycle }

/-- A common register of a tile. -/
def Tile.creg (x : Tile) (i : Nat) : CReg := FMap.get {} x.c i

/-- A common register as a read issued now sees it. -/
def State.readC (s : State) (t i : Nat) : SReg := ((s.tile t).creg i).seen (s.now t)

/-- Write a common register now. -/
def State.writeC (s : State) (t i : Nat) (x : SReg) : State :=
  s.modTile t (fun y => { y with c := FMap.put {} y.c i ((y.creg i).write (s.now t) x) })

/-- Write a g register with a value, full (R43). -/
def State.putG (s : State) (w : Who) (i : Nat) (x : Word) : State :=
  s.modStrand w (fun y => y.writeG i { val := x })

/-- Write a c register with a value, full (R43). -/
def State.putC (s : State) (t i : Nat) (x : Word) : State := s.writeC t i { val := x }

/-- Write a k register with a value, full (R43). -/
def State.putK (s : State) (w : Who) (i : Nat) (x : BitVec 32) : State :=
  s.modStrand w (fun y => y.writeK i { val := x })

/-- Write a v register with a value, full (R43). -/
def State.putV (s : State) (w : Who) (i : Nat) (x : VWord) : State :=
  s.modStrand w (fun y => y.writeV i { val := x })

/-- Set the condition of a g register; its value stays (R43). -/
def State.markG (s : State) (w : Who) (i : Nat) (st : Fill) : State :=
  s.modStrand w (fun y => y.writeG i { y.readG i with st := st })

/-- Set the condition of a c register. DEDUCED: MOV.E and the issue of a LONG instruction change it for the readers of R46 as a
write does (assumption 113). -/
def State.markC (s : State) (t i : Nat) (st : Fill) : State :=
  s.writeC t i { ((s.tile t).creg i).now with st := st }

/-- Set the condition of a k register. -/
def State.markK (s : State) (w : Who) (i : Nat) (st : Fill) : State :=
  s.modStrand w (fun y => y.writeK i { y.readK i with st := st })

/-- Set the condition of a v register. -/
def State.markV (s : State) (w : Who) (i : Nat) (st : Fill) : State :=
  s.modStrand w (fun y => y.writeV i { y.readV i with st := st })

/-- After an access through [pN+] the address takes the stride, modulo 2^20 (R40). -/
def Ptr.bump (p : Ptr) : Ptr := { p with addr := p.addr + p.stride.signExtend 20 }

/-- The 64-bit image of a pointer register (R40). -/
def Ptr.image (p : Ptr) : Word := (p.stride.setWidth 64) <<< 32 ||| p.addr.setWidth 64

/-- Lane i of a vector value (R36). -/
def lane (v : VWord) (i : Nat) : Lane := v.extractLsb' (32 * i) 32

/-- The value whose lanes 0 to n - 1 are given, zero above. -/
def lanesUpTo (f : Nat → Lane) : Nat → VWord
  | 0 => 0
  | n + 1 => lanesUpTo f n ||| (f n).setWidth 1024 <<< (32 * n)

/-- The vector value with given lanes. -/
def ofLanes (f : Nat → Lane) : VWord := lanesUpTo f 32

/-- The lanes of a vector value that a mask makes active come from x, the others from y (R64). -/
def blend (m : BitVec 32) (x y : VWord) : VWord := ofLanes (fun i => if bitAt m i then lane x i else lane y i)

/-- The condition of a register that a LONG result can be owed to. -/
def State.regFill (s : State) : RegRef → Fill
  | .g w i => ((s.strand w).readG i).st
  | .c t i => ((s.tile t).creg i).now.st
  | .k w i => ((s.strand w).readK i).st
  | .v w i => ((s.strand w).readV i).st

/-- Set the condition of a register. -/
def State.markReg (s : State) (r : RegRef) (st : Fill) : State :=
  match r with
  | .g w i => s.markG w i st
  | .c t i => s.markC t i st
  | .k w i => s.markK w i st
  | .v w i => s.markV w i st

/-- A LONG result arrives: the value is written and the register is full; a result without a value for the
register's kind writes zero (R43). -/
def State.fillReg (s : State) (r : RegRef) (x : Val) : State :=
  let w64 : Word := match x with | .s a => a | .v _ => 0
  match r with
  | .g w i => s.putG w i w64
  | .c t i => s.putC t i w64
  | .k w i => s.putK w i (w64.setWidth 32)
  | .v w i => s.putV w i (match x with | .v a => a | .s _ => 0)

/-- LONG results arrive in their registers, in order. -/
def State.fillRegs (s : State) : List RegRef → List Val → State
  | r :: rs, x :: xs => (s.fillReg r x).fillRegs rs xs
  | _, _ => s

/-- The destination of an access, for the order of R320: a memory slice, a tile, a weight-store bank, a package. -/
def Target.key : Target → Nat × Nat
  | .hbm pa => (0, pa / 2 ^ 36 * 16 + pa / 128 % 16)
  | .tile t _ => (1, t)
  | .ws d off => (2, d * 32 + off / 128 % 32)
  | .peer p _ _ => (3, p)

/-- The compute die of a destination; a package has none. -/
def Target.onDie : Target → Option Nat
  | .hbm pa => some (pa / 2 ^ 37)
  | .tile t _ => some (dieOf t)
  | .ws d _ => some d
  | .peer _ _ _ => none

/-- The compute die of a destination by its key; a package has none. -/
def keyDie (k : Nat × Nat) : Option Nat :=
  match k.1 with
  | 0 => some (k.2 / 32)
  | 1 => some (dieOf k.2)
  | 2 => some (k.2 / 32)
  | 4 => some (k.2 / 64)
  | _ => none

/-- The virtual circuit that carries traffic from a die to a destination on another die, chosen by its source and its destination
(R320). -/
def circuitFrom (die source : Nat) (k : Nat × Nat) : Option (Nat × Nat × Nat) :=
  match keyDie k with
  | none => none
  | some d => if d = die then none else some (die, d, Config.circuit source (k.1 * 2 ^ 12 + k.2) % 16)

/-- The virtual circuit that carries a tile's access to a destination on another die (R320). -/
def circuitOf (tile : Nat) (t : Target) : Option (Nat × Nat × Nat) := circuitFrom (dieOf tile) tile t.key

/-- The circuit that carries a copy engine's traffic. DEDUCED: its source is the engine, numbered behind the tiles (R320, assumption
102). -/
def engineCircuit (e : Nat) (k : Nat × Nat) : Option (Nat × Nat × Nat) := circuitFrom (e / 64) (2048 + e) k

/-- Stores of a strand that have left the die by number n are performed at DIE scope by a release at that scope (R308, R321). -/
def State.showDie (s : State) (w : Who) (scope n : Nat) : State :=
  if scope = 3 ∧ w.strand < 8 then s.modStrand w (fun x => { x with dieShown := Nat.max x.dieShown n }) else s

/-- An access of a strand to another die rides a circuit, which the strand's next wait at DEVICE scope sweeps (R320, R321). -/
def State.noteCircuit (s : State) (w : Who) (t : Target) : State :=
  match circuitOf w.tile t with
  | none => s
  | some c => s.modStrand w (fun x => { x with circuits := if x.circuits.contains c then x.circuits else x.circuits ++ [c] })

/-- The markers of a sweep set out, one over each circuit that carried an earlier event since the strand's last wait at DEVICE scope:
of its own accesses, of its engine commands (R321). -/
def State.sweepOver (s : State) (w : Who) (own engines : Bool) : State :=
  let x := s.strand w
  match ((if own then x.circuits else []) ++ (if engines then x.engCircuits else [])).dedup with
  | [] => s
  | l =>
    (l.foldl (fun (a : State) c => a.send w 1 none (.sweep c)) s).modStrand w (fun x =>
      { x with circuits := if own then [] else x.circuits, engCircuits := if engines then [] else x.engCircuits })

/-- The markers of a sweep over the circuits of the strand's own accesses (R321). -/
def State.sendSweeps (s : State) (w : Who) : State := s.sweepOver w true false

/-- A release at a scope sets out: at DEVICE scope and above it sweeps (R321). -/
def State.sweepFor (s : State) (w : Who) (scope : Nat) : State := if 4 ≤ scope then s.sendSweeps w else s

/-- A LONG instruction issues: its destinations become PENDING and its result is in flight (R43). -/
def State.sendLong (s : State) (owner : Who) (lo : Nat) (hi : Option Nat) (kind : Kind) (dests : List RegRef) : State :=
  (dests.foldl (fun a r => a.markReg r .pending) s).send owner lo hi kind dests

/-! ### Streams (R297, R298) -/

/-- The strips of a stream. -/
def Stream.total (x : Stream) : Nat := (x.levels.map (·.1)).foldl (· * ·) 1

/-- The offset of element n of nested levels, innermost first (R286). -/
def levelOffset : List (Nat × Int) → Nat → Int
  | [], _ => 0
  | (c, st) :: r, n => ((n % c : Nat) : Int) * st + levelOffset r (n / c)

/-- The address of strip n (R286, R297). -/
def Stream.addr (x : Stream) (n : Nat) : Nat := (((x.base : Int) + levelOffset x.levels n) % 2 ^ 64).toNat

/-- The home engine is asked for strips, up to 4 ahead of the reader (R297). -/
def State.askStrips (s : State) (w : Who) (i : Nat) : Nat → State
  | 0 => s
  | n + 1 =>
    match FMap.find (s.strand w).streams i with
    | none => s
    | some x =>
      if x.asked < x.total ∧ x.asked < x.taken + 4 then
        ((s.modStrand w (fun y => { y with streams := FMap.set y.streams i { x with asked := x.asked + 1 } })).send w 1 none
          (.strip i (x.addr x.asked) (List.replicate 16 none))).askStrips w i n
      else s

/-- A register in stream mode holds the next strip while one has landed (R298). -/
def Strand.setStream (y : Strand) (i : Nat) (x : Stream) : Strand :=
  { y with streams := FMap.set y.streams i x }.writeV i
    (match x.landed with
     | [] => { y.readV i with st := .empty }
     | some v :: _ => { val := v }
     | none :: _ => { y.readV i with st := .full })

/-- A strip is taken, and the engine is asked for one more (R298). -/
def State.takeStrip (s : State) (w : Who) (i : Nat) : State :=
  match FMap.find (s.strand w).streams i with
  | none => s
  | some x =>
    match x.landed with
    | some v :: r =>
      (s.modStrand w (fun y => y.setStream i { x with taken := x.taken + 1, landed := r, last := v })).askStrips w i 1
    | _ => s

/-- The strips of a register that are under way are discarded (R297). -/
def State.dropStrips (s : State) (w : Who) (i : Nat) : State :=
  { s with flights := s.flights.filter (fun f =>
      match f.kind with
      | .strip j _ _ => !(f.owner == w && j == i)
      | _ => true) }

/-- A register enters stream mode over a pattern: it is EMPTY, and the home engine is asked for strips (R297). -/
def State.bindStream (s : State) (w : Who) (i : Nat) (p : Nat × List (Nat × Int)) : State :=
  ((s.dropStrips w i).modStrand w (fun y =>
    y.setStream i { base := p.1, levels := p.2, since := s.nextId })).askStrips w i 4

/-- Stream mode ends: the register keeps the last strip read, or zero (R297, R298). -/
def State.endStream (s : State) (w : Who) (i : Nat) (x : Stream) : State :=
  (s.dropStrips w i).modStrand w (fun y => { y with streams := FMap.erase y.streams i }.writeV i { val := x.last })

/-- At the end of a bundle its SUNB or SBIND takes effect on a register that was in stream mode (R136, R297). -/
def State.settleStreams (s : State) (w : Who) : State :=
  (s.strand w).streams.foldl (fun (a : State) e =>
    match e.2.after with
    | none => a
    | some none => a.endStream w e.1 e.2
    | some (some p) => a.bindStream w e.1 p) s

/-- No LONG result is owed to a register of the strand (R92). -/
def Strand.owesNothing (x : Strand) : Bool :=
  x.g.all (fun e => decide (e.2.st ≠ .pending)) && x.v.all (fun e => decide (e.2.st ≠ .pending)) &&
    x.k.all (fun e => decide (e.2.st ≠ .pending))

/-! ### Scratchpad -/

/-- The physical byte behind a local address for a strand; none where the strand may not access it (R158, R160). -/
def State.localPhys (s : State) (w : Who) (x : Nat) : Option Nat :=
  let t := s.tile w.tile
  let m := natOfBool t.mirror
  if x < 0x60000 then (if (s.strand w).system then some x else none)
  else if x < 0x61000 then some ((12 + m) * 4096 + x % 4096)
  else if x < 0x62000 then some ((13 - m) * 4096 + x % 4096)
  else if 0x80000 ≤ x ∧ x < 0xA0000 then
    match FMap.find t.crews (s.strand w).crewId.toNat with
    | none => none
    | some c => (FMap.find c.window ((x - 0x80000) / 4096)).map (fun p => p * 4096 + x % 4096)
  else none

/-- The lowest of n bytes from an address that the strand may not access; addresses are taken modulo 2^20 (R158). -/
def State.localDenied (s : State) (w : Who) (x : Nat) : Nat → Option Nat
  | 0 => none
  | n + 1 =>
    match s.localDenied w x n with
    | some y => some y
    | none => if (s.localPhys w ((x + n) % 2 ^ 20)).isSome then none else some ((x + n) % 2 ^ 20)

/-- The physical byte of a local address that has passed the check of R158. -/
def State.phys (s : State) (w : Who) (x : Nat) : Nat := (s.localPhys w (x % 2 ^ 20)).getD 0

/-- A physical scratchpad byte outside the pages of records. -/
def Tile.byte (t : Tile) (pa : Nat) : Byte := FMap.get 0 t.scratch pa

/-- The system pages that hold the tile's records: 0 to 7, 10 and 11 (R159). -/
def recordPage (pa : Nat) : Bool := decide (pa < 32768) || pa / 4096 == 10 || pa / 4096 == 11

/-- The records behind those pages. -/
def Tile.records (t : Tile) : Records := { ports := t.ports, crews := t.crews, rings := t.rings, bars := t.bars }

/-- A physical scratchpad byte as an access reads it; the spec gives no layout of the records (R159, assumption 73). -/
def Tile.look (t : Tile) (pa : Nat) : Byte := if recordPage pa then Config.recordByte t.records pa else t.byte pa

/-- Put records behind the pages. -/
def Tile.setRecords (t : Tile) (r : Records) : Tile := { t with ports := r.ports, crews := r.crews, rings := r.rings, bars := r.bars }

/-- Write a physical scratchpad byte; in the pages of records it changes the records. -/
def Tile.setByte (t : Tile) (pa : Nat) (x : Byte) : Tile :=
  if recordPage pa then t.setRecords (Config.recordStore t.records pa x) else { t with scratch := FMap.put 0 t.scratch pa x }

/-- The tag of the word that holds a physical address: true is FULL (R165). -/
def Tile.tag (t : Tile) (pa : Nat) : Bool := FMap.get true t.tags (pa / 8)

/-- Set a tag. -/
def Tile.setTag (t : Tile) (pa : Nat) (full : Bool) : Tile := { t with tags := FMap.put true t.tags (pa / 8) full }

/-- n bytes little-endian as a number; byte i is given by f. -/
def leNat (f : Nat → Byte) : Nat → Nat
  | 0 => 0
  | n + 1 => leNat f n + (f n).toNat * 256 ^ n

/-- Byte i of a number. -/
def byteOf (x i : Nat) : Byte := BitVec.ofNat 8 (x / 256 ^ i)

/-- n bytes of a local operand as a number, little-endian (R8, R168). -/
def State.readLocal (s : State) (w : Who) (x n : Nat) : Nat :=
  leNat (fun i => (s.tile w.tile).look (s.phys w (x + i))) n

/-- Write byte i of a number to local address x + i, for i below n, with addresses translated in state pre. -/
def State.writeLocalAt (pre : State) (w : Who) (x v : Nat) : Nat → State → State
  | 0, s => s
  | n + 1, s =>
    let s' := pre.writeLocalAt w x v n s
    s'.modTile w.tile (fun t => t.setByte (pre.phys w (x + n)) (byteOf v n))

/-- The first poisoned word of 8 bytes that n bytes from physical address pa lie in (R408). -/
def Tile.badWord (t : Tile) (pa n : Nat) : Option Nat :=
  ((List.range (n / 8 + 2)).find? (fun j => decide (pa / 8 + j ≤ (pa + n - 1) / 8) && FMap.get false t.poison (pa / 8 + j))).map
    (pa / 8 + ·)

/-- One of the words that n bytes from physical address pa lie in is poisoned (R408). -/
def Tile.poisoned (t : Tile) (pa n : Nat) : Bool := (t.badWord pa n).isSome

/-- A write that covers all 8 bytes of a word ends its poison (R408). -/
def Tile.cleanse (t : Tile) (pa : Nat) : Tile := { t with poison := FMap.put false t.poison (pa / 8) false }

/-- The bank of a physical scratchpad address (R131). -/
def bankOf (pa : Nat) : Nat := pa / 64 % 3

/-- The bank of a request's unit (R131, R163). -/
def BankReq.bank (r : BankReq) : Nat := bankOf (64 * r.unit)

/-- The 64-byte units that n bytes from a physical address lie in. -/
def unitsAt (pa n : Nat) : List Nat := (List.range ((pa + n - 1) / 64 + 1 - pa / 64)).map (pa / 64 + ·)

/-! ### Holdings and the banker's check -/

/-- A count of a class by its code (R185). -/
def Counts.at (c : Counts) : Nat → Nat
  | 0 => c.xg
  | 1 => c.xv
  | 2 => c.sp
  | 3 => c.os
  | _ => c.ac

/-- Counts from a function of the class code. -/
def Counts.ofFn (f : Nat → Nat) : Counts := { xg := f 0, xv := f 1, sp := f 2, os := f 3, ac := f 4 }

/-- Class by class sum. -/
def Counts.add (a b : Counts) : Counts := Counts.ofFn (fun i => a.at i + b.at i)

/-- Class by class difference, 0 at least. -/
def Counts.sub (a b : Counts) : Counts := Counts.ofFn (fun i => a.at i - b.at i)

/-- Every count of a is at most that of b. -/
def Counts.le (a b : Counts) : Bool := (List.range 5).all (fun i => decide (a.at i ≤ b.at i))

/-- n units of one class (R188). -/
def Counts.one (cls n : Nat) : Counts := Counts.ofFn (fun i => if i = cls then n else 0)

/-- The tile's pools (R185). -/
def pools : Counts := { xg := 16, xv := 12, sp := 80, os := 16, ac := 4 }

/-- The first unit number of a class: pages are 16 to 95 (R185). -/
def unitBase (cls : Nat) : Nat := if cls = 2 then 16 else 0

/-- The strands of a tile with their numbers. -/
def Tile.all (t : Tile) : List (Nat × Strand) :=
  (List.range 8).map (fun i => (i, FMap.get (Strand.fresh i) t.strands i))

/-- The members of a crew (R180). -/
def Tile.members (t : Tile) (crew : Nat) : List (Nat × Strand) := t.all.filter (fun e => e.2.crewId.toNat == crew)

/-- The units of a class that a crew or its strands hold (R185). -/
def Tile.heldBy (t : Tile) (crew cls : Nat) : List Nat :=
  match FMap.find t.crews crew with
  | none => []
  | some c =>
    match cls with
    | 0 => (t.members crew).flatMap (fun e => e.2.xg.map (·.2))
    | 1 => (t.members crew).flatMap (fun e => e.2.xv.map (·.2))
    | 2 => c.window.map (·.2)
    | 3 => c.os.map (·.2)
    | _ => c.ac.map (·.2)

/-- A crew's allocation (R185). -/
def Tile.alloc (t : Tile) (crew : Nat) : Counts := Counts.ofFn (fun i => (t.heldBy crew i).length)

/-- Units that are neither held nor quarantined (R191). -/
def Tile.freeUnits (t : Tile) (cls : Nat) : List Nat :=
  let held := (FMap.keys t.crews).flatMap (fun c => t.heldBy c cls)
  let quar := (t.quar.filter (fun q => q.cls == cls)).map (·.unit)
  ((List.range (pools.at cls)).map (unitBase cls + ·)).filter (fun u => !held.contains u && !quar.contains u)

/-- What the banker's check looks at: the live crews with their claims and allocations, the units available and
those in quarantine (R191). -/
structure Bank where
  crews : List (Nat × Counts × Counts)
  avail : Counts
  quar : Counts
  deriving DecidableEq, Repr

/-- The bank of a tile. -/
def Tile.bank (t : Tile) : Bank :=
  { crews := t.crews.map (fun e => (e.1, e.2.claim, t.alloc e.1))
    avail := Counts.ofFn (fun i => (t.freeUnits i).length)
    quar := Counts.ofFn (fun i => (t.quar.filter (fun q => q.cls == i)).length) }

/-- Remove the first crew that can finish with the units at work, if there is one (R191). -/
def takeFinisher (work : Counts) : List (Counts × Counts) → Option ((Counts × Counts) × List (Counts × Counts))
  | [] => none
  | (mx, al) :: r =>
    if Counts.le (Counts.sub mx al) work then some ((mx, al), r)
    else
      match takeFinisher work r with
      | some (x, r') => some (x, (mx, al) :: r')
      | none => none

/-- Every crew can finish in some order, with the units at work to start with (R191). -/
def allFinish : Nat → Counts → List (Counts × Counts) → Bool
  | _, _, [] => true
  | 0, _, _ => false
  | n + 1, work, cs =>
    match takeFinisher work cs with
    | none => false
    | some (x, r) => allFinish n (Counts.add work x.2) r

/-- The bank after a grant. -/
def Bank.grant (b : Bank) (crew : Nat) (req : Counts) : Bank :=
  { b with
    crews := b.crews.map (fun e => if e.1 == crew then (e.1, e.2.1, Counts.add e.2.2 req) else e)
    avail := Counts.sub b.avail req }

/-- The banker's check: 0 GRANTED, 1 SHORT, 2 UNSAFE (R191). -/
def Bank.check (b : Bank) (crew : Nat) (req : Counts) : Nat :=
  if !Counts.le req b.avail then 1
  else
    let b' := b.grant crew req
    if allFinish b'.crews.length (Counts.add b'.avail b.quar) (b'.crews.map (·.2)) then 0 else 2

/-- The head of line: the oldest waiter with 32 or more bypasses (R193). -/
def headWaiter : List Waiter → Option Waiter
  | [] => none
  | x :: r => if x.bypass ≥ 32 then some x else headWaiter r

/-- The banker's check together with the second check while there is a head of line (R193). -/
def Tile.checkFor (t : Tile) (strand crew : Nat) (req : Counts) : Nat :=
  match t.bank.check crew req with
  | 0 =>
    match headWaiter t.waiters with
    | none => 0
    | some h =>
      if h.strand = strand then 0
      else if (t.bank.grant crew req).check h.crew h.req = 0 then 0 else 1
  | r => r

/-- The lowest number below n that is not a key. -/
def lowestFree {α : Type} (m : FMap α) (n : Nat) : Option Nat :=
  (List.range n).find? (fun i => (FMap.find m i).isNone)

/-- An operand slot by its physical number. -/
def Tile.oslot (t : Tile) (i : Nat) : OSlot := FMap.get {} t.os i

/-- Change an operand slot. -/
def Tile.modOs (t : Tile) (i : Nat) (f : OSlot → OSlot) : Tile := { t with os := FMap.set t.os i (f (t.oslot i)) }

/-- An accumulator by its physical number. -/
def Tile.accum (t : Tile) (i : Nat) : Accum := FMap.get {} t.ac i

/-- Change an accumulator. -/
def Tile.modAc (t : Tile) (i : Nat) (f : Accum → Accum) : Tile := { t with ac := FMap.set t.ac i (f (t.accum i)) }

/-- A granted page is zero with every tag FULL; a granted operand slot is zero, EMPTY and not sticky; a granted
accumulator slot is zero and CLEAR with no rule (R160, R186, R194). DESIGN CHOICE: its completion count goes on (assumption 115). -/
def Tile.clearUnit (t : Tile) (cls unit : Nat) : Tile :=
  match cls with
  | 2 =>
    { t with scratch := t.scratch.dropRange (unit * 4096) (unit * 4096 + 4096)
             tags := t.tags.dropRange (unit * 512) (unit * 512 + 512)
             poison := t.poison.dropRange (unit * 512) (unit * 512 + 512) }
  | 3 => { t with os := FMap.set t.os unit {} }
  | 4 => { t with ac := FMap.set t.ac unit { completions := (t.accum unit).completions } }
  | _ => t

/-- Release a strand's extension blocks at the given positions; their registers are zero and full when next
acquired, and none of them is in stream mode (R39, R186). -/
def Strand.dropBlocks (x : Strand) (xg xv : List Nat) : Strand :=
  { x with
    g := xg.foldl (fun m j => m.dropRange (16 + 16 * j) (32 + 16 * j)) x.g
    v := xv.foldl (fun m j => m.dropRange (8 + 8 * j) (16 + 8 * j)) x.v
    xg := x.xg.filter (fun e => !xg.contains e.1)
    xv := x.xv.filter (fun e => !xv.contains e.1)
    streams := x.streams.filter (fun e => !xv.any (fun j => decide (8 + 8 * j ≤ e.1) && decide (e.1 < 16 + 8 * j))) }

/-- A register of a strand's extension blocks at the given positions. -/
def RegRef.inBlocks (w : Who) (xg xv : List Nat) : RegRef → Bool
  | .g u i => u == w && decide (16 ≤ i) && xg.contains ((i - 16) / 16)
  | .v u i => u == w && decide (8 ≤ i) && xv.contains ((i - 8) / 8)
  | _ => false

/-- A result that is owed to a register of a newly acquired block, by a half that shared its bundle with the block's release, is
discarded as a result for g0 is: the block is zero and full (R37, R39). -/
def State.loseOwed (s : State) (w : Who) (xg xv : List Nat) : State :=
  { s with flights := s.flights.map (fun f => { f with dests := f.dests.map (fun r => if r.inBlocks w xg xv then .g w 0 else r) }) }

/-- Give one unit of a class the lowest free name (R186); the physical unit is any free one. Answers the bit of the
grant image (R187). DESIGN CHOICE: a grant to a second waiter may pass the crew's claim, and without a free name it
gives no unit and no bit (assumption 125). -/
def State.grantOne (s : State) (w : Who) (cls : Nat) : State × Word :=
  let t := s.tile w.tile
  let free := t.freeUnits cls
  let (j, s) := s.choose free.length
  let u := free.getD j 0
  let x := s.strand w
  let crew := x.crewId.toNat
  let name : Option Nat :=
    match cls with
    | 0 => lowestFree x.xg 3
    | 1 => lowestFree x.xv 3
    | _ =>
      match FMap.find t.crews crew with
      | none => none
      | some c => match cls with
        | 2 => lowestFree c.window 32
        | 3 => lowestFree c.os 16
        | _ => lowestFree c.ac 4
  match name with
  | none => (s, 0)
  | some n =>
    let s := s.modTile w.tile (fun t => t.clearUnit cls u)
    match cls with
    | 0 => ((s.loseOwed w [n] []).modStrand w (fun y => { y.dropBlocks [n] [] with xg := FMap.set y.xg n u }), 1 <<< n)
    | 1 => ((s.loseOwed w [] [n]).modStrand w (fun y => { y.dropBlocks [] [n] with xv := FMap.set y.xv n u }), 1 <<< (3 + n))
    | _ =>
      let upd (f : Crew → Crew) : State :=
        s.modTile w.tile (fun t =>
          match FMap.find t.crews crew with
          | none => t
          | some c => { t with crews := FMap.set t.crews crew (f c) })
      match cls with
      | 2 => (upd (fun c => { c with window := FMap.set c.window n u }), 1 <<< (6 + n))
      | 3 => (upd (fun c => { c with os := FMap.set c.os n u }), 1 <<< (38 + n))
      | _ => (upd (fun c => { c with ac := FMap.set c.ac n u }), 1 <<< (54 + n))

/-- Give n units of a class. -/
def State.grantN (s : State) (w : Who) (cls : Nat) : Nat → State × Word
  | 0 => (s, 0)
  | n + 1 =>
    let (s1, im) := s.grantN w cls n
    let (s2, b) := s1.grantOne w cls
    (s2, im ||| b)

/-- Commit a grant of five counts; answers the image of the new names (R187, R188). -/
def State.grantAll (s : State) (w : Who) (req : Counts) : State × Word :=
  (List.range 5).foldl (fun (a : State × Word) c =>
    let (s', im) := a.1.grantN w c (req.at c)
    (s', a.2 ||| im)) (s, 0)

/-- A grant while waiters wait counts as a bypass of each of the first n of them (R193). -/
def bypassFirst : Nat → List Waiter → List Waiter
  | 0, l => l
  | _, [] => []
  | n + 1, x :: r => { x with bypass := x.bypass + 1 } :: bypassFirst n r

/-- The strand is fused into a gang, and its GFUSE has issued (R51, R198). -/
def Strand.fused (x : Strand) : Bool := bitAt x.gangShape 16 && !x.matched

/-- The index of the first waiter that can be granted; the waiters of a gang are re-examined at their own slots
only (R193, R205). -/
def State.grantable (s : State) (t : Nat) : Option Nat :=
  (s.tile t).waiters.findIdx? (fun x =>
    !(s.strand ⟨t, x.strand⟩).fused && (s.tile t).checkFor x.strand x.crew x.req == 0)

/-- Re-evaluate the waiters of a tile after a release: the first that can be granted is granted, and examination
repeats from the front (R193). The fuel is the number of waiters. -/
def State.reevaluate (s : State) (t : Nat) : Nat → State
  | 0 => s
  | n + 1 =>
    match s.grantable t with
    | none => s
    | some i =>
      match (s.tile t).waiters[i]? with
      | none => s
      | some x =>
        let s := s.modTile t (fun y => { y with waiters := bypassFirst i (y.waiters.eraseIdx i) })
        let (s, im) := s.grantAll ⟨t, x.strand⟩ x.req
        (s.modStrand ⟨t, x.strand⟩ (fun y => { y with granted := some im })).reevaluate t n

/-- Re-evaluate the waiters of a tile. -/
def State.wakeWaiters (s : State) (t : Nat) : State := s.reevaluate t 8

/-! ### Region control blocks and the lantern -/

/-- A word of a node's region control block (R340). -/
def State.rcb (s : State) (a i : Nat) : Word :=
  match FMap.find s.nodes a with
  | none => 0
  | some n => FMap.get 0 n.words i

/-- Change a word of a node's region control block. -/
def State.modRcb (s : State) (a i : Nat) (f : Word → Word) : State :=
  match FMap.find s.nodes a with
  | none => s
  | some n => { s with nodes := FMap.set s.nodes a { n with words := FMap.put 0 n.words i (f (FMap.get 0 n.words i)) } }

/-- Replace bits [lo+n-1:lo] of a word. -/
def putField (x : Word) (lo n v : Nat) : Word :=
  BitVec.ofNat 64 (x.toNat - fieldNat x lo n * 2 ^ lo + v % 2 ^ n * 2 ^ lo)

/-- Add to a counter field that saturates (R340). -/
def bumpField (x : Word) (lo n v : Nat) : Word := putField x lo n (Nat.min (fieldNat x lo n + v) (2 ^ n - 1))

/-- A node whose policy field holds 3 is invalid (R340): a request that names it names no region. DESIGN CHOICE: the spec says no more of
it, and in the model it sets no field of its own, so that the nearest valid ancestor's counts (assumption 117). -/
def State.validNode (s : State) (a : Nat) : Bool := (FMap.find s.nodes a).isSome && fieldNat (s.rcb a 0) 15 2 != 3

/-- A node sets field f: its override bit is set and it is valid, or it is the root (R340, R341). -/
def State.setsField (s : State) (f a : Nat) : Bool :=
  (bitAt (s.rcb a 0) (32 + f) && fieldNat (s.rcb a 0) 15 2 != 3) || fieldNat (s.rcb a 0) 0 2 == 0

/-- The nearest node that sets override bit f, from a node upwards (R341). -/
def State.setter (s : State) (f : Nat) : Nat → Nat → Nat
  | 0, a => a
  | n + 1, a =>
    if s.setsField f a then a else s.setter f n (s.rcb a 1).toNat

/-- A node and its ancestors (R339). -/
def State.lineage (s : State) : Nat → Nat → List Nat
  | 0, a => [a]
  | n + 1, a => if fieldNat (s.rcb a 0) 0 2 == 0 then [a] else a :: s.lineage n (s.rcb a 1).toNat

/-- A node lies in the region of another (R353). -/
def State.inside (s : State) (a rgn : Nat) : Bool := (s.lineage 7 a).contains rgn

/-- The state of a placement's node (R340). -/
def State.placeState (s : State) (a : Nat) : Nat := fieldNat (s.rcb a 0) 29 3

/-- The placement's state in its region control block; the cycle in which it enters FROZEN or DRAINING is kept (R340, R346, R401). -/
def State.setPlaceState (s : State) (a v : Nat) : State :=
  let old := s.placeState a
  let s := s.modRcb a 0 (fun x => putField x 29 3 v)
  if (v = 3 ∨ v = 4) ∧ old ≠ 3 ∧ old ≠ 4 then
    match FMap.find s.nodes a with
    | none => s
    | some n => { s with nodes := FMap.set s.nodes a { n with coolFrom := s.now (n.tiles.headD 0) } }
  else s

/-- A tile that the root's region control block reserves (R7, R340). -/
def State.reserved (s : State) (t : Nat) : Bool :=
  (List.range 64).any (fun i =>
    let x := s.rcb 0 (16 + i / 4)
    bitAt x (16 * (i % 4) + 15) && fieldNat x (16 * (i % 4)) 11 == t)

/-- The partition's node in the region tree, if it has one (R339). -/
def State.partNode (s : State) (part : Nat) : Option Nat :=
  (FMap.keys s.nodes).find? (fun a => fieldNat (s.rcb a 0) 0 2 == 1 && fieldNat (s.rcb a 0) 5 6 == part)

/-- The node that a tile's energy is charged to: its placement's, partition 0's for a reserved tile, the root otherwise
(R402). -/
def State.homeNode (s : State) (t : Nat) : Nat :=
  match (s.tile t).place with
  | some a => a
  | none => if s.reserved t then (s.partNode 0).getD 0 else 0

/-- The region of a tile: the parent of its placement (R339, R343). -/
def State.regionOf (s : State) (t : Nat) : Nat :=
  match (s.tile t).place with
  | some a => (s.rcb a 1).toNat
  | none => s.homeNode t

/-- Write a lantern record of a die; the ring keeps the last 2,048 (R405). -/
def State.record (s : State) (d kind cause tile strand : Nat) (w1 w2 : Word) : State :=
  s.modDie d (fun x =>
    let r : LanternRec :=
      { w0 := BitVec.ofNat 64 (kind % 256 + cause % 256 * 256 + tile % 2048 * 65536 + strand % 8 * 2 ^ 27)
        w1 := w1, w2 := w2, w3 := BitVec.ofNat 64 (x.lanternSeq % 2 ^ 48) }
    { x with lantern := (x.lantern ++ [r]).drop (x.lantern.length + 1 - 2048), lanternSeq := x.lanternSeq + 1 })

/-- An uncorrectable error is met: it is counted and recorded once for its word; the syndrome is open (R405, R407, R408,
assumption 4). -/
def State.noteError (s : State) (d structure_ unit word tile strand : Nat) (addr : Word) (node : Option Nat) : State :=
  if s.noted.contains (structure_, unit, word) then s
  else
    let (syn, s) := { s with noted := s.noted ++ [(structure_, unit, word)] }.freeWord
    let s := s.modDie d (fun x =>
      let n := FMap.get 0 x.uncorrected structure_
      { x with uncorrected := FMap.put 0 x.uncorrected structure_ (if n = BitVec.allOnes 32 then n else n + 1) })
    let s := s.record d 5 structure_ tile strand addr syn
    match node with
    | none => s
    | some a => s.modRcb a 12 (fun x => bumpField x 32 32 1)

/-! ### Copy engines -/

/-- A copy engine. -/
def State.engine (s : State) (e : Nat) : Engine := FMap.get {} s.engines e

/-- Change a copy engine. -/
def State.modEngine (s : State) (e : Nat) (f : Engine → Engine) : State :=
  { s with engines := FMap.put {} s.engines e (f (s.engine e)) }

/-- Change the command that an engine performs. -/
def State.modRun (s : State) (e : Nat) (f : Run → Run) : State := s.modEngine e (fun x => { x with run := x.run.map f })

/-- A word of a command image. -/
def Cmd.word (c : Cmd) (i : Nat) : Word := c.image.getD i 0

/-- A barrier of a tile. -/
def Tile.bar (t : Tile) (n : Nat) : Barrier := FMap.get {} t.bars n

/-- Change a barrier of a tile. -/
def State.modBar (s : State) (t n : Nat) (f : Barrier → Barrier) : State :=
  s.modTile t (fun y => { y with bars := FMap.put {} y.bars n (f (y.bar n)) })

/-- An engine has moved n bytes of its command (R290). -/
def State.engineMoved (s : State) (e n : Nat) : State :=
  s.modRun e (fun r => { r with bytes := Nat.min (r.bytes + n) (2 ^ 40 - 1) })

/-- A write of n bytes of a command is performed: it counts down on the command's barrier (R288, R296). -/
def State.countWrite (s : State) (c : Cmd) (n : Nat) : State :=
  if bitAt (c.word 0) 57 then
    s.modBar c.who.tile (fieldNat (c.word 0) 53 4) (fun b => { b with bytes := b.bytes - BitVec.ofNat 48 n })
  else s

/-- A write of n bytes by the command of an engine is moved and performed at once. -/
def State.engineWrote (s : State) (e n : Nat) : State :=
  match (s.engine e).run with
  | none => s
  | some r => (s.engineMoved e n).countWrite r.cmd n

/-- An engine has done with its command and can pop the next (R282). -/
def State.endRun (s : State) (e : Nat) : State :=
  s.modEngine e (fun x => { x with run := none, since := (s.die (e / 64)).clock })

/-- The levels of a command: count, source stride, destination stride, innermost first (R284). -/
def Cmd.levels (c : Cmd) : List (Nat × Int × Int) :=
  (List.range (fieldNat (c.word 0) 21 3 + 1)).map (fun l =>
    let x := c.word (8 + l)
    (fieldNat x 0 14 + 1, (x.extractLsb' 14 25).toInt, (x.extractLsb' 39 25).toInt))

/-- The least and the greatest local address that one side of a command touches (R286). -/
def Cmd.span (c : Cmd) (base : Nat) (strides : List (Nat × Int)) : Int × Int :=
  let lo := (strides.map (fun e => min 0 (((e.1 : Int) - 1) * e.2))).sum
  let hi := (strides.map (fun e => max 0 (((e.1 : Int) - 1) * e.2))).sum
  (base + lo, base + hi + fieldNat (c.word 0) 9 12)

/-- A window entry that one side of a command may touch: its kind is TILE, and the page lies in its span; the
destination of a SCATTER may lie anywhere (R285, R286). -/
def Cmd.touchesPage (c : Cmd) (j : Nat) : Bool :=
  let side := fun (kind base : Nat) (l : List (Nat × Int)) (all : Bool) =>
    let (lo, hi) := c.span base l
    kind == 1 && (all || (decide (lo ≤ 0x80000 + 4096 * (j : Int) + 4095) && decide (0x80000 + 4096 * (j : Int) ≤ hi)))
  side (fieldNat (c.word 0) 3 3) (c.word 1).toNat (c.levels.map (fun e => (e.1, e.2.1))) false ||
    side (fieldNat (c.word 0) 6 3) (c.word 2).toNat (c.levels.map (fun e => (e.1, e.2.2))) (fieldNat (c.word 0) 0 3 == 3) ||
    (fieldNat (c.word 0) 0 3 == 3 && fieldNat (c.word 0) 3 3 == 1)

/-- The commands of a strand that have not ended (R282, R313). -/
def State.owesCommands (s : State) (w : Who) : Bool :=
  s.engines.any (fun e => e.2.buf.any (fun c => c.who == w) || e.2.run.any (fun r => r.cmd.who == w))

/-- A command of a crew of a tile. -/
def Cmd.ofCrew (c : Cmd) (t crew : Nat) : Bool := c.who.tile == t && c.crew == some crew && !c.aborted

/-- A running command of a retired crew is aborted: nothing more is written, and the pages that it used are held until it
has ended (R196). -/
def Run.abort (r : Run) (c : Crew) : Run :=
  { r with
    cmd := { r.cmd with aborted := true }
    pins := (c.window.filter (fun e => r.cmd.touchesPage e.1)).map (·.2)
    phase := match r.phase with
      | .ended st a => .ended st a
      | .ring st => .ring st
      | _ => .ended 7 0 }

/-- A command that is not at its end. -/
def Run.underWay (r : Run) : Bool :=
  match r.phase with
  | .ended _ _ => false
  | .ring _ => false
  | _ => true

/-- A write of the command that an engine has under way, of a crew. -/
def State.writesFor (s : State) (k : Kind) (t crew : Nat) : Bool :=
  match k with
  | .ewrite e c _ _ => c.ofCrew t crew && (s.engine e).run.any (fun r => r.cmd.num == c.num && r.underWay)
  | _ => false

/-- The bytes of a write of an engine. -/
def Kind.writeBytes (k : Kind) (e : Nat) : Nat :=
  match k with
  | .ewrite e' _ p _ => if e' = e then p.n else 0
  | _ => 0

/-- The outstanding commands of a retired crew are aborted, their remaining writes discarded and not counted; a command that has
ended has its writes performed (R196, R290). -/
def State.abortCommands (s : State) (t crew : Nat) (c : Crew) : State :=
  let lost := s.flights.filter (fun f => s.writesFor f.kind t crew)
  { s with
    engines := s.engines.map (fun e => (e.1,
      { e.2 with
        buf := e.2.buf.map (fun x => if x.ofCrew t crew then { x with aborted := true } else x)
        run := e.2.run.map (fun r =>
          if r.cmd.ofCrew t crew then { r.abort c with bytes := r.bytes - (lost.map (fun f => f.kind.writeBytes e.1)).sum } else r) }))
    flights := (s.flights.filter (fun f => !s.writesFor f.kind t crew)).map (fun f =>
      match f.kind with
      | .command q x => if x.ofCrew t crew then { f with kind := .command q { x with aborted := true } } else f
      | .ewrite e x p l => if x.ofCrew t crew then { f with kind := .ewrite e { x with aborted := true } p l } else f
      | _ => f) }

/-- An access in flight that orders the strand's later accesses behind it: an acquire (R321). -/
def Kind.acquires : Kind → Bool
  | .access _ _ _ _ acq => acq
  | _ => false

/-! ### Stopping -/

/-- An operand slot that a fill is filling, by its physical number (R194). -/
def State.slotFilling (s : State) (t slot : Nat) : Bool := ((s.tile t).oslot slot).state == .filling

/-- An accumulator slot whose rule is active, by its physical number (R194). -/
def State.ruleActive (s : State) (t acc : Nat) : Bool := ((s.tile t).accum acc).rule.active

/-- The units (tile, class, number) that something in flight reads or writes at a fixed physical address (R194). -/
def Kind.uses : Kind → List (Nat × Nat × Nat)
  | .redeem _ _ (some (t, pa)) _ _ _ => [(t, 2, pa / 4096)]
  | .ewrite _ _ p _ => (match p.spot with | .pad t pa => [(t, 2, pa / 4096)] | _ => [])
  | .mredPart t a => [(t, 4, a)]
  | .mredSum t a _ => [(t, 4, a)]
  | _ => []

/-- The units (class, number) that a request of the matrix path reads or writes (R196, R259). -/
def PathReq.uses (r : PathReq) : List (Nat × Nat) :=
  (r.pages.map (fun e => (2, e.2))) ++
    (match r.kind with
     | .fill s _ _ _ => [(3, s)]
     | .drain a _ _ _ _ => [(4, a)]
     | .write _ s _ _ _ => [(3, s)])

/-- The units (class, number) that the array is reading or writing. -/
def Job.uses (j : Job) : List (Nat × Nat) := (4, j.acc) :: j.slots.map (fun s => (3, s))

/-- The units of a class that something still reads or writes at a fixed physical address (R194, R196). -/
def State.unitBusy (s : State) (t cls unit : Nat) : Bool :=
  s.flights.any (fun f => f.kind.uses.contains (t, cls, unit)) ||
    (s.tile t).path.any (fun r => r.uses.contains (cls, unit)) ||
    (s.tile t).job.any (fun j => j.uses.contains (cls, unit)) ||
    s.engines.any (fun e => e.2.run.any (fun r =>
      r.cmd.who.tile == t && ((cls == 2 && r.pins.contains unit) || (cls == 3 && (r.slot == some unit || r.phase == .slot unit)))))

/-- A rule forgets a slot whose name is released: it never fires on it again (R263). -/
def Ext.forget (x : Ext) (slot : Nat) : Ext :=
  { x with mask := x.mask.filter (· != slot), fb := x.fb.map (fun e => (e.1.filter (· != slot), e.2)) }

/-- A rule forgets a slot whose name is released (R263). -/
def Rule.forget (r : Rule) (slot : Nat) : Rule :=
  { r with a := r.a.filter (· != slot), b := r.b.filter (· != slot), ext := r.ext.forget slot }

/-- Every rule of a tile forgets an operand slot whose name is released. -/
def Tile.forgetUnit (t : Tile) (cls unit : Nat) : Tile :=
  if cls = 3 then { t with ac := t.ac.map (fun e => (e.1, { e.2 with rule := e.2.rule.forget unit })) } else t

/-- The condition of a released unit that is still in use: an operand slot is EMPTY and not sticky, an accumulator CLEAR; what
still uses it completes on its content (R194). -/
def Tile.idleUnit (t : Tile) (cls unit : Nat) : Tile :=
  match cls with
  | 3 => t.modOs unit (fun x => { x with state := .empty, format := none, sticky := false, lastDone := false, spoiled := false })
  | 4 => t.modAc unit (fun x => { x with state := .clear })
  | _ => t

/-- A unit is back in the pool: what it held is lost, and it reads as memory that nothing has written (R160, R194, assumption
29). -/
def Tile.loseUnit (t : Tile) (cls unit : Nat) : Tile := if 2 ≤ cls then t.clearUnit cls unit else t

/-- Return units of a class to the pool, or quarantine those still in use (R194, R196). -/
def State.giveBack (s : State) (t cls : Nat) : List Nat → State
  | [] => s
  | u :: us =>
    let s := s.modTile t (fun y => y.forgetUnit cls u)
    let s :=
      if s.unitBusy t cls u then s.modTile t (fun y => { y.idleUnit cls u with quar := y.quar ++ [⟨cls, u⟩] })
      else s.modTile t (fun y => y.loseUnit cls u)
    s.giveBack t cls us

/-- Release all extension blocks of a strand. -/
def State.freeBlocks (s : State) (w : Who) : State :=
  let x := s.strand w
  let s := s.giveBack w.tile 0 (x.xg.map (·.2))
  let s := s.giveBack w.tile 1 (x.xv.map (·.2))
  s.modStrand w (fun y => y.dropBlocks [0, 1, 2] [0, 1, 2])

/-- The source that an owner's LDT request goes to (R240). -/
def Kind.requests (o : TOwner) : Kind → Option Nat
  | .ldt src _ _ _ _ o' _ _ => if o' == o then some src else none
  | _ => none

/-- The sources at which an owner holds entries or has requests (R247). -/
def State.sourcesOf (s : State) (o : TOwner) : List Nat :=
  ((s.sources.filter (fun e => e.2.entries.any (fun x => x.2.owner == o && x.2.st != .free))).map (·.1) ++
    s.flights.filterMap (fun f => f.kind.requests o)).dedup

/-- Send retirement notices of an owner to every source at which it holds entries (R247): within 4 µs, which are 16,000
tile cycles (R3). -/
def State.notify (s : State) (o : TOwner) : State :=
  (s.sourcesOf o).foldl (fun (a : State) src => a.send ⟨o.tile, 0⟩ 1 (some 16000) (.retire o src)) s

/-- The matrix state of a retired crew: its path requests and MREDs are aborted, its rules are inactive, its slots EMPTY
and its accumulators CLEAR (R196, R259). -/
def State.retireMatrix (s : State) (t : Nat) (crew : Nat) (c : Crew) : State :=
  let acs := c.ac.map (·.2)
  let oss := c.os.map (·.2)
  let s := { s with flights := s.flights.filter (fun f =>
    match f.kind with
    | .mredPart u a => !(u == t && acs.contains a)
    | .mredSum u a _ => !(u == t && acs.contains a)
    | _ => true) }
  s.modTile t (fun y =>
    let y := { y with path := y.path.filter (fun r => r.crew != crew)
                      job := y.job.filter (fun j => !acs.contains j.acc) }
    let y := oss.foldl (fun (a : Tile) u => a.clearUnit 3 u) y
    acs.foldl (fun (a : Tile) u => a.clearUnit 4 u) y)

/-- What retirement does to the rules and the engine commands of a crew (R196). -/
def State.retireHoldings (s : State) (t crew : Nat) (c : Crew) : State := (s.retireMatrix t crew c).abortCommands t crew c

/-- A crew retires: holdings released, tickets freed, TRAP_VEC and REPORT_Q discarded, the id free (R184, R196). -/
def State.retireCrew (s : State) (t crew : Nat) : State :=
  match FMap.find (s.tile t).crews crew with
  | none => s
  | some c =>
    let s := ((s.tile t).members crew).foldl (fun (a : State) e => a.freeBlocks ⟨t, e.1⟩) s
    let s := s.retireHoldings t crew c
    let s := s.modTile t (fun y => { y with crews := FMap.erase y.crews crew
                                            waiters := y.waiters.filter (fun x => x.crew != crew) })
    let s := s.giveBack t 2 (c.window.map (·.2))
    let s := s.giveBack t 3 (c.os.map (·.2))
    let s := s.giveBack t 4 (c.ac.map (·.2))
    (s.notify ⟨t, true, crew⟩).wakeWaiters t

/-- What is owed to a strand is discarded when it arrives; its destinations stay EMPTY (R103). -/
def State.disown (s : State) (w : Who) : State :=
  let mine := s.flights.filter (fun f => f.owner == w && f.live)
  let s := { s with flights := s.flights.map (fun f => if f.owner == w then { f with live := false } else f) }
  (mine.flatMap (·.dests)).foldl (fun a r => if a.regFill r = .pending then a.markReg r .empty else a) s

/-- Items that a strand popped and did not mark done are done; its waiting pops and acquisitions are abandoned
(R103, R231). -/
def State.abandon (s : State) (w : Who) : State :=
  s.modTile w.tile (fun t =>
    { t with
      ports := t.ports.map (fun e => (e.1, { e.2 with outst := e.2.outst.filter (fun o => o.strand != w.strand)
                                                      waiting := e.2.waiting.filter (· != w.strand) }))
      waiters := t.waiters.filter (fun x => x.strand != w.strand) })

/-- A held redeem is abandoned: its delivery, if there is one, goes on without its bundle (R244). -/
def State.dropHold (s : State) (w : Who) : State :=
  match (s.strand w).hold with
  | none => s
  | some h =>
    let s := s.modStrand w (fun x => { x with hold := none })
    match s.flight h.redeem with
    | some f =>
      match f.kind with
      | .redeem t n p _ d x => s.setKind f.id (.redeem t n p false d x)
      | _ => s
    | none => s

/-- A fatal trap reaches a strand: it stops at its next slot, its park is abandoned, and it leaves its crew (R103). DEDUCED:
TRAP_CAUSE [7] is cleared and CREW_ID becomes 0xF as at a STOP (R92), which R103 does not say (assumption 113). -/
def State.kill (s : State) (w : Who) : State :=
  let s := ((s.disown w).abandon w).dropHold w
  s.modStrand w (fun x =>
    { x with dying := x.running, park := none, granted := none, fuse := none, matched := false, fuseClash := none, mwait := none, skip := 0, gangShape := 0
             crewId := 0xF, trapCause := x.trapCause &&& 0x7F })

/-- Every strand of every tile of a placement is stopped (R92). -/
def State.allStopped (s : State) (a : Nat) : Bool :=
  match FMap.find s.nodes a with
  | none => false
  | some n => n.tiles.all (fun t => (s.tile t).all.all (fun e => !e.2.running || e.2.dying))

/-- A tile whose strands have all stopped reports completion; when every tile of a running placement has, it
drains with outcome DONE (R92, R346). -/
def State.noteStop (s : State) (t : Nat) : State :=
  match (s.tile t).place with
  | none => s
  | some a =>
    if s.placeState a = 2 && s.allStopped a then
      let s := s.setPlaceState a 4
      match FMap.find s.nodes a with
      | none => s
      | some n => { s with nodes := FMap.set s.nodes a { n with cause := some 0 } }
    else s

/-- A placement in PLACING, RUN or FROZEN is terminated: the cause is recorded, every strand stops and every crew
retires (R346, R418). -/
def State.terminate (s : State) (a : Nat) (cause : BitVec 8) : State :=
  let st := s.placeState a
  if st = 1 || st = 2 || st = 3 then
    match FMap.find s.nodes a with
    | none => s
    | some n =>
      let s := { s with nodes := FMap.set s.nodes a { n with cause := some cause } }
      let s := (s.setPlaceState a 4).modRcb a 16 (fun x => putField x 16 8 cause.toNat)
      n.tiles.foldl (fun (b : State) t =>
        let crews := FMap.keys (b.tile t).crews
        let b := (b.tile t).all.foldl (fun (c : State) e =>
          if e.2.running then c.notify ⟨t, false, e.1⟩ else c) b
        let b := crews.foldl (fun (c : State) k => c.retireCrew t k) b
        (List.range 8).foldl (fun (c : State) i =>
          if (c.strand ⟨t, i⟩).running then (c.freeBlocks ⟨t, i⟩).kill ⟨t, i⟩ else c) b) s
  else s

/-- The placements in a region (R342). -/
def State.placementsIn (s : State) (rgn : Nat) : List Nat :=
  (FMap.keys s.nodes).filter (fun a => fieldNat (s.rcb a 0) 0 2 == 3 && s.inside a rgn)

/-- A fatal cause reaches a placement as its policy decides; a cause of placement reach always ends the placement
(R342). -/
def State.policy (s : State) (a : Nat) (cause : BitVec 8) (placementReach : Bool) : State :=
  let p := fieldNat (s.rcb (s.setter 1 7 a) 0) 15 2
  if p = 2 then (s.placementsIn (s.rcb a 1).toNat).foldl (fun b x => b.terminate x cause) s
  else if p = 1 || placementReach then s.terminate a cause
  else s

/-- A trap is counted in the region control block of its placement (R103, R340). -/
def State.countTrap (s : State) (t : Nat) : State :=
  match (s.tile t).place with
  | none => s
  | some a => s.modRcb a 10 (fun x => bumpField x 0 32 1)

/-! ### Taking a trap, and returning from one -/

/-- The trap causes (R97). -/
inductive TrapCode where
  | illegalOpcode | illegalLine | emptySource | waitTimeout | misaligned | accessDenied | unregistered
  | ticketStale | ticketDouble | ticketForged | claimExceeded | claimInvalid | queueFault | matrixConfig
  | slotState | breakpoint | watchpoint | software | privileged | uncorrectable | gangMismatch | streamFault
  | pageRefused
  deriving DecidableEq, Repr

/-- The code of a cause (R97). -/
def TrapCode.code : TrapCode → BitVec 8
  | .illegalOpcode => 0x01 | .illegalLine => 0x02 | .emptySource => 0x03 | .waitTimeout => 0x04
  | .misaligned => 0x05 | .accessDenied => 0x06 | .unregistered => 0x07 | .ticketStale => 0x08
  | .ticketDouble => 0x09 | .ticketForged => 0x0A | .claimExceeded => 0x0B | .claimInvalid => 0x0C
  | .queueFault => 0x0D | .matrixConfig => 0x0E | .slotState => 0x0F | .breakpoint => 0x10
  | .watchpoint => 0x11 | .software => 0x12 | .privileged => 0x13 | .uncorrectable => 0x14
  | .gangMismatch => 0x15 | .streamFault => 0x16 | .pageRefused => 0x17

/-- A cause as it is raised: its TRAP_INFO, the detail that the lantern keeps for causes with a record of their own,
and whether it reaches the placement (R97, R405). -/
structure Cause where
  code : TrapCode
  info : Word := 0
  placement : Bool := false
  detail : Word := 0
  /-- The strand whose fusion request is in conflict and falls too (R198). -/
  poster : Option Who := none
  /-- The word in error: its unit (0 for HBM, a tile, a die, a register's strand) and its number there (R407). -/
  unit : Nat := 0
  word : Nat := 0
  /-- The table entry at which the walk of a translated address ends (R363, R405). -/
  entry : Option Nat := none
  deriving DecidableEq, Repr

/-- An UNCORRECTABLE that is raised is noted as an error (R407). -/
def State.noteCause (s : State) (w : Who) (c : Cause) : State :=
  if c.code == .uncorrectable then
    s.noteError (dieOf w.tile) (fieldNat c.info 0 4) c.unit c.word w.tile w.strand c.detail (s.tile w.tile).place
  else s

/-- The lantern records of a fatal trap: a TRAP record with its cause, TRAP_PC and TRAP_INFO, and beside it the ERROR record of
an uncorrectable word. Causes of translation and forged tickets have kinds of their own: with a TRANSLATION record goes the address of
the table entry, if a table was walked; for the others the spec states no third word (R103, R107, R405, R407, assumption 4). -/
def State.recordTrap (s : State) (w : Who) (c : Cause) (ip : Word) : State :=
  let kind := match c.code with | .unregistered => 6 | .pageRefused => 6 | .ticketForged => 7 | _ => 1
  if kind = 1 then (s.noteCause w c).record (dieOf w.tile) 1 c.code.code.toNat w.tile w.strand ip c.info
  else
    match c.entry with
    | some e => s.record (dieOf w.tile) kind c.code.code.toNat w.tile w.strand c.detail (BitVec.ofNat 64 e)
    | none =>
      let (x, s) := s.freeWord
      s.record (dieOf w.tile) kind c.code.code.toNat w.tile w.strand c.detail x

/-- A pop that met a cooperative beacon was fatal: the cut cannot complete, and the supervisor terminates the placement
unless its policy has done so (R382, R418). -/
def State.cutFault (s : State) (a : Nat) (c : Cause) : State :=
  if c.code == .queueFault && fieldNat c.info 0 4 == 5 then s.terminate a 0xFC else s

/-- Under policy REPORT the host is told of a fatal trap (R342). -/
def State.tellHost (s : State) (a : Nat) (c : Cause) : State :=
  if fieldNat (s.rcb (s.setter 1 7 a) 0) 15 2 = 0 then
    { s with outbox := s.outbox ++ [.trapReport a c.code.code.toNat] }
  else s

/-- A trap fatal to a crew (R103), after which the placement's policy applies (R342). -/
def State.crewFatal (s : State) (w : Who) (c : Cause) (ip : Word) : State :=
  let crew := (s.strand w).crewId.toNat
  let members := ((s.tile w.tile).members crew).map (·.1)
  let s := (s.recordTrap w c ip).countTrap w.tile
  let s := s.retireCrew w.tile crew
  let s := members.foldl (fun (a : State) i => a.kill ⟨w.tile, i⟩) s
  let s := match (s.tile w.tile).place with
    | none => s
    | some a => ((s.tellHost a c).policy a c.code.code false).cutFault a c
  s.noteStop w.tile

/-- A trap of a strand without a crew stops it alone (R104). -/
def State.stopAlone (s : State) (w : Who) (c : Cause) (ip : Word) : State :=
  let s := (s.recordTrap w c ip).countTrap w.tile
  let s := (((s.freeBlocks w).kill w).notify ⟨w.tile, false, w.strand⟩).wakeWaiters w.tile
  let s := match (s.tile w.tile).place with
    | none => s
    | some a => ((s.tellHost a c).policy a c.code.code false).cutFault a c
  s.noteStop w.tile

/-- A cause of placement reach terminates the placement, and no handler is entered (R97, R342). A strand on a tile
without a placement is stopped alone. -/
def State.placementFatal (s : State) (w : Who) (c : Cause) (ip : Word) : State :=
  match (s.tile w.tile).place with
  | none => s.stopAlone w c ip
  | some a => ((s.recordTrap w c ip).countTrap w.tile).policy a c.code.code true

/-- The home engine of a tile (R282). -/
def homeEngine (t : Nat) : Nat := dieOf t * 64 + (rowOf t * 16 + colOf t) % 64

/-- An engine's access ends its placement: no ring write, and a lantern record of the engine and the address (R291,
R405). -/
def State.engineFatal (s : State) (e : Nat) (w : Who) (va : Nat) (code : TrapCode) : State :=
  let s := s.record (e / 64) 2 code.code.toNat w.tile w.strand (BitVec.ofNat 64 va) (BitVec.ofNat 64 e)
  match (s.tile w.tile).place with
  | none => s
  | some a => s.policy a code.code true

/-- What a read issued in a cycle sees of a crew's register (R46). -/
def Shared.seen (r : Shared) (cycle : Nat) : Word :=
  match r.wrote with
  | none => r.now
  | some t => if cycle ≤ t + 1 then r.before else r.now

/-- A write of a crew's register (R46, R93). -/
def Shared.write (r : Shared) (cycle : Nat) (x : Word) : Shared :=
  { now := x, before := if r.wrote = some cycle then r.before else r.now, wrote := some cycle }

/-- TRAP_VEC of a strand's crew as a read issued in this cycle sees it (R46, R51). -/
def State.trapVec (s : State) (w : Who) : Word :=
  match FMap.find (s.tile w.tile).crews (s.strand w).crewId.toNat with
  | none => 0
  | some c => c.trapVec.seen (s.now w.tile)

/-- A trap ends the strand's wait: a pop no longer holds its place, an acquisition leaves the waiters, a fusion
request is withdrawn (R193, R198, R231). -/
def State.abandonWait (s : State) (w : Who) : State :=
  (s.modTile w.tile (fun t =>
    { t with ports := t.ports.map (fun e => (e.1, { e.2 with waiting := e.2.waiting.filter (· != w.strand) }))
             waiters := t.waiters.filter (fun x => x.strand != w.strand) })).modStrand w
    (fun x => { x with fuse := none, matched := false, fuseClash := none, xfault := none, mwait := none })

/-- Enter the handler: cause with bit 7, the trapping bundle's IP and the information are saved, and the strand goes
on at the vector (R99). -/
def State.enterHandler (s : State) (w : Who) (c : Cause) (ip v : Word) : State :=
  (s.noteCause w c).modStrand w (fun x =>
    { x with trapCause := 0x80 ||| c.code.code, trapPc := ip, trapInfo := c.info, ip := v, park := none, granted := none })

/-- The strike of a TRAP_INFO word is on a watchpoint whose hits go to a claiming debugger (R395). -/
def Tile.toDebugger (t : Tile) (info : Word) : Bool := bitAt (FMap.get 0 t.wpBase (fieldNat info 20 2)) 34

/-- A cause that a debugger takes instead of the crew's handler: BREAKPOINT on a claimed tile, and a strike with bit
34 of its watchpoint set (R96, R397). -/
def State.debugged (s : State) (w : Who) (c : Cause) : Bool :=
  (s.tile w.tile).claim.isSome &&
    (c.code == .breakpoint ||
      (c.code == .watchpoint && (s.tile w.tile).toDebugger c.info))

/-- Write a 64-bit word into the scratchpad at a physical address. -/
def Tile.setWord (t : Tile) (pa : Nat) (x : Word) : Tile :=
  (List.range 8).foldl (fun (a : Tile) i => a.setByte (pa + i) (byteOf x.toNat i)) t

/-- Write a trace record into the ring of 256 records in pages 14 and 15; word 3 is TCYC (R390). -/
def State.traceRec (s : State) (t : Nat) (w0 w1 w2 : Word) : State :=
  s.modTile t (fun y =>
    let a := 14 * 4096 + 32 * (y.traceNext % 256)
    { (((y.setWord a w0).setWord (a + 8) w1).setWord (a + 16) w2).setWord (a + 24) (BitVec.ofNat 64 (s.tcyc t)) with
      traceNext := y.traceNext + 1, traceLen := Nat.min (y.traceLen + 1) 256 })

/-- Word 0 of a trace record of a port (R390). -/
def traceHead (kind port strand queue : Nat) (header : BitVec 16) : Word :=
  BitVec.ofNat 64 (kind + port * 16 + strand % 8 * 512 + queue * 65536 + header.toNat * 2 ^ 32)

/-- Word 0 of the record of a BREAKPOINT that a debugger takes. DESIGN CHOICE: the record is of kind BREAK with port, queue and
header zero (R390, R397, assumption 59). -/
def breakHead (strand : Nat) : Word := BitVec.ofNat 64 (5 + strand % 8 * 512)

/-- The tile freezes for the debugger; the bundle has no effect. A strike has its record, a BREAKPOINT writes one, whose ordinal and
sequence are not stated (R397, assumption 59). -/
def State.debugFreeze (s : State) (w : Who) (c : Cause) : State :=
  let s :=
    if c.code == .breakpoint then
      let (a, s) := s.freeWord
      let (b, s) := s.freeWord
      s.traceRec w.tile (breakHead w.strand) a b
    else s
  s.modTile w.tile (fun t => { t with frozen := true, debugStop := some w.strand })

/-- A strike that no strand of the tile takes freezes a claimed tile where its watchpoint goes to the debugger; no strand stands for
it (R396, R397, assumption 59). -/
def State.strikeFreeze (s : State) (t j : Nat) : State :=
  if (s.tile t).claim.isSome && bitAt (FMap.get 0 (s.tile t).wpBase j) 34 then
    s.modTile t (fun y => { y with frozen := true, debugStop := if y.debugStop.isSome then y.debugStop else some 8 })
  else s

/-- Take a trap (R99, R100). -/
def State.takeTrap (s : State) (w : Who) (c : Cause) (ip : Word) : State :=
  let s := s.abandonWait w
  let s := match c.poster with
    | none => s
    | some p => s.modStrand p (fun x => { x with fuse := none, matched := false, fuseClash := some w.tile })
  if s.debugged w c then s.debugFreeze w c
  else if c.placement then s.placementFatal w c ip
  else if (s.strand w).crewId = 0xF then s.stopAlone w c ip
  else if bitAt (s.strand w).trapCause 7 then s.crewFatal w c ip
  else if s.trapVec w = 0 then s.crewFatal w c ip
  else s.enterHandler w c ip (s.trapVec w)

/-- Return from the handler: the strand goes on at TRAP_PC and leaves its handler (R101). -/
def State.returnTrap (s : State) (w : Who) : State :=
  s.modStrand w (fun x => { x with ip := x.trapPc, trapCause := x.trapCause &&& 0x7F })

end Sys2Proof.Machine
end

