-- ==== Sys2Proof/Machine/QueueOps.lean ====
section
/-!
DEFINITION. The operations on hardware queues that every pop and push shares (R208 to R221, R223, R228, R230).
-/
namespace Sys2Proof.Machine

/-- The end-of-item fields of a header (R210). -/
def Item.fence (x : Item) : Bool := bitAt x.header 9

/-- The item is a beacon (R210). -/
def Item.beacon (x : Item) : Bool := bitAt x.header 8

/-- A beacon's kind: 1 REPLACE, 2 PREEMPT, 3 STOP, 4 CHECKPOINT (R351). -/
def Item.beaconKind (x : Item) : Nat := fieldNat (x.words.getD 0 0) 0 4

/-- REPLACE and CHECKPOINT are cooperative (R351). -/
def Item.cooperative (x : Item) : Bool := x.beaconKind == 1 || x.beaconKind == 4

/-- Word j of an item; a word beyond its length reads 0 (R220). -/
def Item.word (x : Item) (j : Nat) : Word := x.words.getD j 0

/-- A header from its fields, with beacon 0 (R210). -/
def itemHeader (n eod : Nat) (fence : Bool) (tag : BitVec 8) : BitVec 16 :=
  BitVec.ofNat 16 ((n - 1) * 2 ^ 13 + eod * 2 ^ 10 + natOfBool fence * 2 ^ 9 + tag.toNat)

/-- The binding of a q register (R213). -/
def State.qbind (s : State) (w : Who) (q : Nat) : Option QBinding := FMap.find (s.strand w).q q

/-- A port of a tile, if it is attached (R209). -/
def State.port (s : State) (t p : Nat) : Option Port := FMap.find (s.tile t).ports p

/-- Change an attached port. -/
def State.modPort (s : State) (t p : Nat) (f : Port → Port) : State :=
  s.modTile t (fun y =>
    match FMap.find y.ports p with
    | none => y
    | some x => { y with ports := FMap.set y.ports p (f x) })

/-- A queue's descriptor; a queue that does not exist reads as one in state FREE. -/
def State.queue (s : State) (q : Nat) : Queue := (FMap.find s.queues q).getD { type := 0, state := 0 }

/-- The items that a port holds in its cells (R217, R393). -/
def Port.held (p : Port) : Nat := (p.items.filter (fun x => !x.inPort)).length

/-- The die whose translation unit consumes a queue (R368). -/
def State.unitQueue (s : State) (q : Nat) : Option Nat :=
  (s.dies.find? (fun e => e.2.xlateQueue == some q)).map (·.1)

/-- The saved port of an endpoint whose placement is pre-empted (R359, R360). -/
def State.suspended (s : State) (q t p : Nat) : Option Port :=
  s.nodes.findSome? (fun e =>
    if e.2.resume then
      match e.2.context.find? (fun c => c.1 == t) with
      | none => none
      | some c =>
        match FMap.find c.2.ports p with
        | none => none
        | some x => if x.queue == q && x.consumer then some x else none
    else none)

/-- The index of an endpoint in a queue's multicast set (R208). -/
def Queue.epOf (q : Queue) (t p : Nat) : Option Nat := q.eps.findIdx? (fun e => e.1 == t && e.2 == p)

/-- TRAP_INFO of QUEUE_FAULT (R228). -/
def queueInfo (reason q port queue mask : Nat) : Word :=
  BitVec.ofNat 64 (reason + q * 16 + port * 256 + queue * 2 ^ 16 + mask * 2 ^ 32)

/-- A QUEUE_FAULT through a bound q register. -/
def State.queueFault (s : State) (reason q : Nat) (b : QBinding) (mask : Nat := 0) : Cause :=
  let id := match s.port s.cur.who.tile b.port with | some p => p.queue | none => 0
  { code := .queueFault, info := queueInfo reason q b.port id mask }

/-- A port as a strand finds it in a cycle: where it has popped in this bundle, it is the earliest of those that wait (R219). -/
def Port.seenBy (p : Port) (strand now : Nat) : Port :=
  if p.popper = some (strand, now) then { p with waiting := strand :: p.waiting } else p

/-- The port behind a q register. -/
def State.qport (s : State) (w : Who) (q : Nat) : Option (QBinding × Port) :=
  match s.qbind w q with
  | none => none
  | some b =>
    match s.port w.tile b.port with
    | none => none
    | some p => some (b, p.seenBy w.strand (s.now w.tile))

/-- QUEUE_FAULT of a strand through its q register (R228). -/
def State.qfault (s : State) (w : Who) (reason q : Nat) (mask : Nat := 0) : Cause :=
  match s.qport w q with
  | none => { code := .queueFault, info := queueInfo reason q 0 0 0 }
  | some (b, p) => { code := .queueFault, info := queueInfo reason q b.port p.queue mask }

/-! ### Popping -/

/-- The endpoint of a CONSUMER port is marked BROKEN (R219, R229). -/
def State.portBroken (s : State) (t pn : Nat) (p : Port) : Bool :=
  match (s.queue p.queue).epOf t pn with
  | none => false
  | some e => bitAt (s.queue p.queue).broken e

/-- The faults of a pop: unbound 1, wrong role 2, endpoint BROKEN 3 (R219). -/
def State.popFault (s : State) (w : Who) (q : Nat) : Option Cause :=
  match s.qport w q with
  | none => some (s.qfault w 1 q)
  | some (b, p) =>
    if !p.consumer then some (s.qfault w 2 q)
    else if s.portBroken w.tile b.port p then some (s.qfault w 3 q (s.queue p.queue).broken.toNat)
    else none

/-- A cooperative beacon at the head faults a pop without status: 5 (R223). -/
def State.beaconFault (s : State) (w : Who) (q : Nat) : Option Cause :=
  match s.qport w q with
  | none => none
  | some (_, p) =>
    match p.items with
    | [] => none
    | x :: _ => if x.item.beacon && x.item.cooperative then some (s.qfault w 5 q) else none

/-- What a pop meets at a port. -/
inductive Meet where
  | item (x : Stored)
  | beacon (x : Stored)
  /-- The park kind of what it waits for: 3 or 15 (R106). -/
  | wait (kind : Nat)
  deriving DecidableEq, Repr

/-- An earlier pop still waits on the port (R219). -/
def Port.heldBefore (p : Port) (strand : Nat) : Bool :=
  match p.waiting with
  | [] => false
  | x :: _ => x != strand

/-- A fenced item waits for outstanding items of smaller ordinal; ign is the first item of the same vector pop
(R221). -/
def Port.fenced (p : Port) (x : Stored) (ign : Option Nat) : Bool :=
  x.item.fence && p.outst.any (fun o => decide (o.ordinal < x.ordinal) && some o.ordinal != ign)

/-- What a pop by a strand meets (R219, R221, R223). -/
def Port.meet (p : Port) (strand : Nat) (ign : Option Nat := none) : Meet :=
  match p.items with
  | [] => .wait 3
  | x :: _ =>
    if x.item.beacon then .beacon x
    else if p.heldBefore strand then .wait 3
    else if p.fenced x ign then .wait 15
    else if p.outst.length ≥ 64 then .wait 3
    else .item x

/-- One step of a digest (R391). -/
def digestStep (d v : Word) : Word := (d.rotateLeft 7 ^^^ v) * 0x9E3779B97F4A7C15

/-- The digest of an item (R391). -/
def Item.digest (x : Item) : Word := x.words.foldl digestStep (digestStep 0 (x.header.setWidth 64))

/-- Record an event of a port that the tile's trace mask selects (R390). -/
def State.tracePort (s : State) (t kind port strand queue : Nat) (header : BitVec 16) (w1 w2 : Word) : State :=
  if bitAt (s.tile t).traceMask port then s.traceRec t (traceHead kind port strand queue header) w1 w2 else s

/-- Remove the head item; it becomes outstanding, and it enters the port's digest and the trace (R219, R390, R391). -/
def State.popHead (s : State) (w : Who) (pn : Nat) : State :=
  match s.port w.tile pn with
  | none => s
  | some p =>
    match p.items with
    | [] => s
    | x :: r =>
      let s := s.modPort w.tile pn (fun p =>
        { p with items := r, outst := p.outst ++ [⟨x.ordinal, w.strand⟩]
                 waiting := p.waiting.filter (· != w.strand), popper := some (w.strand, s.now w.tile), digest := digestStep p.digest x.item.digest
                 pops := (p.pops + 1) % 2 ^ 48, moved := true })
      s.tracePort w.tile 1 pn w.strand p.queue x.item.header (BitVec.ofNat 64 x.ordinal) x.item.digest

/-- The waiting condition of n pops in a row through a q register: a forced beacon also waits (R70, R134, R219,
R221, R223). -/
def State.popWait (s : State) (w : Who) (q : Nat) (ign : Option Nat) : Nat → Option Nat
  | 0 => none
  | n + 1 =>
    match s.qport w q with
    | none => none
    | some (b, p) =>
      match p.meet w.strand ign with
      | .wait k => some k
      | .beacon _ => some 3
      | .item x => (s.popHead w b.port).popWait w q (some x.ordinal) n

/-- Pop one item through a q register; nothing to pop yields an empty item. -/
def State.pop1 (s : State) (w : Who) (q : Nat) : Item × State :=
  match s.qport w q with
  | none => (⟨0, []⟩, s)
  | some (b, p) =>
    match p.items with
    | [] => (⟨0, []⟩, s)
    | x :: _ => (x.item, s.popHead w b.port)

/-- A waiting pop takes its place on a port (R219). -/
def State.queueUp (s : State) (w : Who) (pn : Nat) : State :=
  s.modPort w.tile pn (fun p =>
    if p.waiting.contains w.strand then p else { p with waiting := p.waiting ++ [w.strand] })

/-- A strand waits for no pop any more: it leaves the ports on which it stands (R219). -/
def State.unqueue (s : State) (w : Who) : State :=
  s.modTile w.tile (fun t =>
    { t with ports := t.ports.map (fun e => (e.1, { e.2 with waiting := e.2.waiting.filter (· != w.strand) })) })

/-- The 32 lanes of two items (R134). -/
def lanesOfItems (x y : Item) : VWord :=
  ofLanes (fun i =>
    let wd := if i < 16 then x.word (i / 2) else y.word ((i - 16) / 2)
    wd.extractLsb' (32 * (i % 2)) 32)

/-! ### Pushing -/

/-- The faults of a push: unbound 1, CONSUMER port 2, CMD queue 7, FAULTED queue 4; a push to a CMD queue is what
CPY does, and it faults 9 elsewhere (R217, R283). -/
def State.pushFault (s : State) (w : Who) (q : Nat) (cpy : Bool := false) : Option Cause :=
  match s.qport w q with
  | none => some (s.qfault w 1 q)
  | some (_, p) =>
    let d := s.queue p.queue
    if p.consumer then some (s.qfault w 2 q)
    else if !cpy && d.type == 2 then some (s.qfault w 7 q)
    else if d.state == 2 then some (s.qfault w 4 q d.broken.toNat)
    else if cpy && d.type != 2 then some (s.qfault w 9 q)
    else none

/-- A user strand that pushes to a system queue (R67). -/
def State.pushPrivileged (s : State) (w : Who) (q : Nat) : Bool :=
  match s.qport w q with
  | none => false
  | some (_, p) => (s.queue p.queue).system && !(s.strand w).system

/-- Items on their way to an endpoint (R217). -/
def State.toward (s : State) (qid e : Nat) : Nat :=
  (s.flights.map (fun f =>
    match f.kind with
    | .item q e' _ items _ _ => if q == qid && e' == e then items.length else 0
    | .command q _ => if q == qid then 2 else 0
    | _ => 0)).sum

/-- An endpoint's room: capacity less the items held and the items admitted toward it; the endpoint of a CMD queue is its
engine, which buffers 32 items at most, and that of a translation queue is the translation unit (R217, R281, R368). -/
def State.room (s : State) (qid e : Nat) : Nat :=
  let d := s.queue qid
  match d.eps[e]? with
  | none => d.cap - s.toward qid e
  | some (t, p) =>
    if d.type = 2 then Nat.min d.cap 32 - 2 * (s.engine t).buf.length - s.toward qid e
    else
      let held := match s.unitQueue qid with
        | some u => (s.die u).commands.length
        | none =>
          match s.port t p with
          | some x => if x.queue = qid then x.held else ((s.suspended qid t p).map Port.held).getD 0
          | none => ((s.suspended qid t p).map Port.held).getD 0
      d.cap - held - s.toward qid e

/-- The pushes of a producer to a queue that are not stored at every endpoint: push number and item count (R217). -/
def unstored (w : Who) (qid : Nat) : List Flight → List (Nat × Nat)
  | [] => []
  | f :: r =>
    let l := unstored w qid r
    match f.kind with
    | .item q _ push items _ _ =>
      if f.owner == w && q == qid && !(l.any (fun e => e.1 == push)) then (push, items.length) :: l else l
    | .command q _ => if f.owner == w && q == qid then (f.id, 2) :: l else l
    | _ => l

/-- A push of c items is admitted: the flow window and every endpoint's room (R217). -/
def State.admits (s : State) (w : Who) (qid c : Nat) : Bool :=
  let d := s.queue qid
  decide (((unstored w qid s.flights).map (·.2)).sum + c ≤ d.window) &&
    (List.range d.eps.length).all (fun e => decide (c ≤ s.room qid e))

/-- The waiting condition of a push: park kind 2 (R217). -/
def State.pushWait (s : State) (w : Who) (q c : Nat) : Option Nat :=
  match s.qport w q with
  | none => none
  | some (_, p) => if s.admits w p.queue c then none else some 2

/-- An admitted push is posted: one copy to each endpoint; it is a release at the queue's scope (R217, R218, R314). -/
def State.post (s : State) (w : Who) (qid : Nat) (items : List Item) : State :=
  let s := s.sweepFor w (s.queue qid).scope
  let push := s.nextId
  (List.range (s.queue qid).eps.length).foldl (fun (a : State) e => a.send w 1 none (.item qid e push items 0 none)) s

/-- An admitted push through a port is counted and traced, item by item (R388, R390). -/
def State.countPush (s : State) (w : Who) (pn qid : Nat) : List Item → State
  | [] => s
  | x :: r =>
    let n := match s.port w.tile pn with | none => 0 | some p => (p.pushes + 1) % 2 ^ 48
    let s := s.modPort w.tile pn (fun p => { p with pushes := n, moved := true })
    (s.tracePort w.tile 2 pn w.strand qid x.header (BitVec.ofNat 64 n) x.digest).countPush w pn qid r

/-- Push items through a q register. -/
def State.push (s : State) (w : Who) (q : Nat) (items : List Item) : State :=
  match s.qport w q with
  | none => s
  | some (b, p) => (s.countPush w b.port p.queue items).post w p.queue items

/-- The default tag of a q register (R213, R215). -/
def State.qtag (s : State) (w : Who) (q : Nat) : BitVec 8 :=
  match s.qbind w q with
  | none => 0
  | some b => b.tag

/-- The item of a scalar push (R215). -/
def State.scalarItem (s : State) (w : Who) (q : Nat) (x : Word) : Item :=
  { header := itemHeader 1 0 false (s.qtag w q), words := [x] }

/-- The two items of a vector push; inactive lanes are zero (R133, R134, R215). -/
def State.vectorItems (s : State) (w : Who) (q : Nat) (m : BitVec 32) (x : VWord) : List Item :=
  let ln := fun i => if bitAt m i then lane x i else 0
  let word := fun j => (ln (2 * j + 1)) ++ (ln (2 * j))
  let h := itemHeader 8 0 false (s.qtag w q)
  [{ header := h, words := (List.range 8).map word }, { header := h, words := (List.range 8).map (fun j => word (8 + j)) }]

/-- The report queue of a crew, if it has one (R51). -/
def State.reportQueue (s : State) (t crew : Nat) : Option Nat :=
  match FMap.find (s.tile t).crews crew with
  | none => none
  | some c => if bitAt c.reportQ.now 16 then some (fieldNat c.reportQ.now 0 16) else none

/-- A report of a kind goes to a report queue, or is counted only when the queue is full or absent (R230). -/
def State.reportTo (s : State) (t : Nat) (queue : Option Nat) (kind : BitVec 8) (words : List Word) : State :=
  let count := match (s.tile t).place with
    | none => s
    | some a => s.modRcb a 10 (fun x => bumpField x 32 32 1)
  match queue with
  | none => count
  | some q =>
    if (s.queue q).state == 1 && (s.queue q).type == 0 && s.admits ⟨t, 8⟩ q 1 then
      s.post ⟨t, 8⟩ q [{ header := itemHeader words.length 0 false kind, words := words }]
    else count

/-- A report of a kind goes to a crew's report queue (R230). -/
def State.report (s : State) (t crew : Nat) (kind : BitVec 8) (words : List Word) : State :=
  s.reportTo t (s.reportQueue t crew) kind words

end Sys2Proof.Machine
end

