-- ==== Sys2Proof/Machine/Translate.lean ====
section
/-!
DEFINITION. Device memory and its translation: HBM bytes, the table walk, TLBs, translation caches, merge tables and
the pager's fault items (R361 to R370), and the checks of a global access (R170, R172).
-/
namespace Sys2Proof.Machine

/-! ### Queue descriptors (R208) -/

/-- A descriptor as its words give it; scope 0, 6 or 7 and state 3 make it invalid, and it describes no queue (R208, R281). -/
def parseDescriptor (l : List Word) : Option Queue :=
  let w := l.getD 0 0
  let scope := fieldNat w 4 3
  let type := fieldNat w 0 2
  let f := l.getD 5 0
  if scope = 0 ∨ 5 < scope ∨ fieldNat w 8 2 = 3 then none
  else some
    { type := type, prio := fieldNat w 2 2, scope := scope, system := bitAt w 7, state := fieldNat w 8 2, part := fieldNat w 10 6
      cap := fieldNat w 16 8 + 1, window := fieldNat w 24 6 + 1, loopBack := bitAt w 34
      eps := (List.range (fieldNat w 30 4 + 1)).map (fun e =>
        let x := fieldNat (l.getD (1 + e / 4) 0) (16 * (e % 4)) 16
        if type = 2 then (x % 256, 0) else (x % 2048, x / 2048))
      broken := BitVec.ofNat 16 (fieldNat f 0 16), partialMask := BitVec.ofNat 16 (fieldNat f 16 16), faults := BitVec.ofNat 32 (fieldNat f 32 32) }

/-- Endpoint e as a descriptor's 16 bits name it (R208, R281). -/
def Queue.endpoint (x : Queue) (e : Nat) : Nat :=
  match x.eps[e]? with
  | none => 0
  | some (t, p) => t + 2048 * p

/-- Word i of the descriptor that a queue's fields give (R208). -/
def Queue.word (x : Queue) (i : Nat) : Nat :=
  if i = 0 then x.type + 2 ^ 2 * x.prio + 2 ^ 4 * x.scope + 2 ^ 7 * natOfBool x.system + 2 ^ 8 * x.state + 2 ^ 10 * x.part + 2 ^ 16 * (x.cap - 1) +
    2 ^ 24 * (x.window - 1) + 2 ^ 30 * (x.eps.length - 1) + 2 ^ 34 * natOfBool x.loopBack
  else if i < 5 then ((List.range 4).map (fun k => x.endpoint (4 * (i - 1) + k) * 2 ^ (16 * k))).sum
  else if i = 5 then x.broken.toNat + 2 ^ 16 * x.partialMask.toNat + 2 ^ 32 * x.faults.toNat
  else 0

/-- Word i of a descriptor: as system software last wrote it, with the state and the masks that hardware keeps (R208). -/
def State.descWord (s : State) (q i : Nat) : Word :=
  match FMap.find s.queues q, FMap.find s.descs q with
  | none, l => (l.getD []).getD i 0
  | some x, none => BitVec.ofNat 64 (x.word i)
  | some x, some l => if i = 0 then putField (l.getD 0 0) 8 2 x.state else if i = 5 then BitVec.ofNat 64 (x.word 5) else l.getD i 0

/-- System software writes a descriptor: it creates, changes, repairs or removes the queue; the ordinals of endpoints that stay go on
(R208, R211, R229). Words that describe no queue stay as they are. -/
def State.writeDescriptor (s : State) (q : Nat) (l : List Word) : State :=
  let s := { s with descs := FMap.set s.descs q ((List.range 8).map (fun i => l.getD i 0)) }
  match parseDescriptor l with
  | none => { s with queues := FMap.erase s.queues q }
  | some d =>
    let old := s.queue q
    let ords := (List.range d.eps.length).filterMap (fun e =>
      if old.eps[e]? = d.eps[e]? then (FMap.find old.ordinals e).map (fun n => (e, n)) else none)
    if d.state = 0 then { s with queues := FMap.erase s.queues q }
    else { s with queues := FMap.set s.queues q { d with ordinals := ords } }

/-! ### Blocks of device memory (R208, R339) -/

/-- What the hardware keeps in a stretch of device memory: a node's control block, or a queue's descriptor. -/
inductive Block where
  | region (a : Nat)
  | descriptor (q : Nat)
  deriving DecidableEq, Repr

/-- The block that a physical byte lies in, and the byte's offset in it. DESIGN CHOICE: where the blocks stand is open (assumption 73). -/
def State.blockAt (s : State) (pa : Nat) : Option (Block × Nat) :=
  match s.nodes.find? (fun e => e.2.home.any (fun h => decide (h ≤ pa) && decide (pa < h + 256))) with
  | some (a, n) => some (.region a, pa - n.home.getD 0)
  | none => (s.descHome.findIdx? (· == pa / 2 ^ 21)).map (fun k => (.descriptor (32768 * k + pa % 2 ^ 21 / 64), pa % 64))

/-- Word i of a block. -/
def State.blockWord (s : State) (b : Block) (i : Nat) : Word :=
  match b with
  | .region a => s.rcb a i
  | .descriptor q => s.descWord q i

/-- Write word i of a block. DESIGN CHOICE: a node keeps its kind, depth, partition and parent, and a placement its state, whatever is
written (R339, R340, assumption 117). -/
def State.putBlock (s : State) (b : Block) (i : Nat) (w : Word) : State :=
  match b with
  | .region a =>
    { s.modRcb a i (fun x =>
        if i = 0 then
          let y := putField w 0 11 (fieldNat x 0 11)
          if fieldNat x 0 2 = 3 then putField y 29 3 (fieldNat x 29 3) else y
        else if i = 1 then x else w) with passDue := true }
  | .descriptor q => s.writeDescriptor q (((List.range 8).map (s.descWord q)).set i w)

/-- A word at an address with those of n bytes of v from pa that fall into it. -/
def mergeBytes (x : Word) (base pa v n : Nat) : Word :=
  BitVec.ofNat 64 (leNat (fun i => if pa ≤ base + i ∧ base + i < pa + n then byteOf v (base + i - pa) else byteOf x.toNat i) 8)

/-- The blocks that n bytes from pa lie in take them, word by word. -/
def State.writeBlocks (s : State) (pa v n : Nat) : State :=
  (List.range (n / 8 + 2)).foldl (fun (a : State) j =>
    let base := 8 * (pa / 8 + j)
    if pa + n ≤ base then a
    else
      match a.blockAt base with
      | none => a
      | some (b, o) => a.putBlock b (o / 8) (mergeBytes (a.blockWord b (o / 8)) base pa v n)) s

/-! ### HBM -/

/-- A byte of HBM: of a block that the hardware keeps there, else of the frame. -/
def State.hbmByte (s : State) (pa : Nat) : Byte :=
  match s.blockAt pa with
  | some (b, o) => byteOf (s.blockWord b (o / 8)).toNat (o % 8)
  | none => FMap.get 0 s.hbm pa

/-- n bytes of HBM as a number, little-endian. -/
def State.hbmRead (s : State) (pa n : Nat) : Nat := leNat (fun i => s.hbmByte (pa + i)) n

/-- Write n bytes of a number to the frames of HBM; whole words lose their poison (R408). -/
def State.hbmPut (s : State) (pa v : Nat) : Nat → State
  | 0 => s
  | n + 1 =>
    let s := s.hbmPut pa v n
    let a := pa + n
    let s := { s with hbm := FMap.put 0 s.hbm a (byteOf v n) }
    if (a + 1) % 8 = 0 ∧ 8 ≤ n + 1 then { s with hbmPoison := FMap.put false s.hbmPoison (a / 8) false } else s

/-- Write n bytes of a number to HBM, and to the blocks that they lie in. -/
def State.hbmWrite (s : State) (pa v n : Nat) : State := (s.hbmPut pa v n).writeBlocks pa v n

/-- A word of HBM that n bytes lie in is poisoned. -/
def State.hbmBad (s : State) (pa n : Nat) : Bool :=
  (List.range (n / 8 + 2)).any (fun j => decide (pa / 8 + j ≤ (pa + n - 1) / 8) && FMap.get false s.hbmPoison (pa / 8 + j))

/-! ### The table walk (R361 to R363) -/

/-- What a walk answers. -/
inductive Walk where
  | page (x : XEntry)
  /-- LAZY, or an entry with an uncorrectable error, at its address (R366, R408). -/
  | lazy (bad : Option Nat)
  /-- UNREGISTERED; the address of a malformed entry, if one was met. -/
  | unregistered (malformed : Option Nat)
  deriving DecidableEq, Repr

/-- An entry of level 1 or 2 that is malformed: large set, bits above the table's address, a package without the peer flag (R362).
-/
def pointerBad (e : Word) : Bool := bitAt e 1 || fieldNat e 48 16 != 0 || (!bitAt e 4 && fieldNat e 5 10 != 0)

/-- A level-3 entry that is malformed (R362). -/
def leafBad (pkg : Nat) (e : Word) : Bool :=
  fieldNat e 15 6 != 0 || fieldNat e 48 16 != 0 ||
    (bitAt e 1 && fieldNat e 21 9 != 0) ||
    (!bitAt e 4 && fieldNat e 5 10 != 0) ||
    (bitAt e 0 && !bitAt e 4 && fieldNat e 39 9 != 0) ||
    (bitAt e 0 && bitAt e 4 && fieldNat e 5 10 == pkg)

/-- The table that a pointer entry names. -/
def nextTable (e : Word) : Nat := fieldNat e 15 33 * 32768

/-- Entry i of the table at a physical address. -/
def State.tableEntry (s : State) (t i : Nat) : Word := BitVec.ofNat 64 (s.hbmRead (t + 8 * i) 8)

/-- The level-3 part of a walk: the head of the 1 GiB group, then the page's own entry (R363). -/
def State.walkLeaf (s : State) (t part va : Nat) : Walk :=
  let i3 := va / 2 ^ 21 % 4096
  let hi := i3 / 512 * 512
  let h := s.tableEntry t hi
  if s.hbmBad (t + 8 * hi) 8 then .lazy (some (t + 8 * hi))
  else if leafBad s.pkg h then .unregistered (some (t + 8 * hi))
  else if bitAt h 0 && bitAt h 1 then .page { part := part, page := va / 2 ^ 30 * 512, large := true, entry := h }
  else
    let e := s.tableEntry t i3
    if s.hbmBad (t + 8 * i3) 8 then .lazy (some (t + 8 * i3))
    else if leafBad s.pkg e then .unregistered (some (t + 8 * i3))
    else if bitAt e 0 then .page { part := part, page := va / 2 ^ 21, large := false, entry := e }
    else if bitAt e 3 then .lazy none
    else .unregistered none

/-- One pointer level of a walk. -/
def State.walkPointer (s : State) (t i : Nat) (k : Nat → Walk) : Walk :=
  let e := s.tableEntry t i
  if s.hbmBad (t + 8 * i) 8 then .lazy (some (t + 8 * i))
  else if pointerBad e then .unregistered (some (t + 8 * i))
  else if !bitAt e 0 then .unregistered none
  else k (nextTable e)

/-- The walk for a partition and a translated address (R363). -/
def State.walk (s : State) (part va : Nat) : Walk :=
  let root := s.tableEntry (s.rcb 0 15).toNat part
  if s.hbmBad ((s.rcb 0 15).toNat + 8 * part) 8 then .lazy (some ((s.rcb 0 15).toNat + 8 * part))
  else if !bitAt root 0 then .unregistered none
  else
    s.walkPointer (nextTable root) (va / 2 ^ 45 % 2048) (fun t2 =>
      s.walkPointer t2 (va / 2 ^ 33 % 4096) (fun t3 => s.walkLeaf t3 part va))

/-- The address of the table entry at which the walk for a partition and a translated address ends (R363). -/
def State.walkEntry (s : State) (part va : Nat) : Nat :=
  let root := (s.rcb 0 15).toNat
  let next := fun (t i : Nat) => (t + 8 * i, s.tableEntry t i)
  let stops := fun (e : Nat × Word) => s.hbmBad e.1 8 || pointerBad e.2 || !bitAt e.2 0
  let e1 := next root part
  if s.hbmBad e1.1 8 || !bitAt e1.2 0 then e1.1
  else
    let e2 := next (nextTable e1.2) (va / 2 ^ 45 % 2048)
    if stops e2 then e2.1
    else
      let e3 := next (nextTable e2.2) (va / 2 ^ 33 % 4096)
      if stops e3 then e3.1
      else
        let i := va / 2 ^ 21 % 4096
        let h := next (nextTable e3.2) (i / 512 * 512)
        if s.hbmBad h.1 8 || leafBad s.pkg h.2 || (bitAt h.2 0 && bitAt h.2 1) then h.1 else (next (nextTable e3.2) i).1

/-- An entry covers an address of a partition. -/
def XEntry.covers (x : XEntry) (part va : Nat) : Bool :=
  x.part == part && (if x.large then x.page / 512 == va / 2 ^ 30 else x.page == va / 2 ^ 21)

/-- The physical address behind a translated one. -/
def XEntry.phys (x : XEntry) (va : Nat) : Nat :=
  if x.large then fieldNat x.entry 30 18 * 2 ^ 30 + va % 2 ^ 30 else fieldNat x.entry 21 27 * 2 ^ 21 + va % 2 ^ 21

/-- The frame of an entry, in this package or in a peer's (R362). -/
def XEntry.target (x : XEntry) (va : Nat) : Target :=
  if bitAt x.entry 4 then .peer (fieldNat x.entry 5 10) (x.phys va) va else .hbm (x.phys va)

/-! ### TLB misses (R365 to R367) -/

/-- What a bundle waits for at a TLB miss: the page, whether it writes, and the kind of access 0 R, 1 W, 2 T, 3 E. -/
structure Miss where
  page : Nat
  write : Bool
  kind : Nat
  deriving DecidableEq, Repr

/-- A merge entry of a page. -/
def Merge.isFor (m : Merge) (part page : Nat) : Bool := m.part == part && m.page == page

/-- Word 0 of a fault item (R367). -/
def Merge.word0 (m : Merge) : Word :=
  BitVec.ofNat 64 (m.part + m.kind * 64 + Nat.min m.count 255 * 256 + natOfBool m.write * 65536)

/-- The words of a fault item (R367). -/
def Merge.words (m : Merge) : List Word :=
  [m.word0, BitVec.ofNat 64 (m.page * 2 ^ 21),
   BitVec.ofNat 64 (m.tile % 2048 + m.strand % 8 * 2 ^ 11 + m.ip % 65536 * 65536 + m.engine % 256 * 2 ^ 32),
   BitVec.ofNat 64 m.seq]

/-- A fault item that is still stored takes a new word 0 (R367). -/
def updateStored (seq : Nat) (w0 : Word) (x : Stored) : Stored :=
  if x.item.words.getD 3 0 = BitVec.ofNat 64 seq then { x with item := { x.item with words := x.item.words.set 0 w0 } } else x

/-- Update the stored fault item of a merge entry at the pager's endpoint. -/
def State.updateFault (s : State) (d : Nat) (m : Merge) : State :=
  match (s.die d).faultQueue with
  | none => s
  | some q =>
    match (s.queue q).eps with
    | [] => s
    | (t, p) :: _ => s.modPort t p (fun y => { y with items := y.items.map (updateStored m.seq m.word0) })

/-- Put an entry into a buffer of n entries; where it is full, which one leaves is open. -/
def State.cacheIn (s : State) (l : List XEntry) (n : Nat) (x : XEntry) : List XEntry × State :=
  if l.contains x then (l, s)
  else if l.length < n then (l ++ [x], s)
  else
    let (i, s) := s.choose l.length
    (l.eraseIdx i ++ [x], s)

/-- Put an entry into a tile's TLB of 64 entries (R365). -/
def State.tlbIn (s : State) (t : Nat) (x : XEntry) : State :=
  let (l, s) := s.cacheIn (s.tile t).tlb 64 x
  s.modTile t (fun y => { y with tlb := l })

/-- Put an entry into a die's translation cache of 8,192 entries (R365). -/
def State.dieIn (s : State) (d : Nat) (x : XEntry) : State :=
  let (l, s) := s.cacheIn (s.die d).xcache 8192 x
  s.modDie d (fun y => { y with xcache := l })

/-- What a die's translation cache has for a page of a partition (R365). -/
def State.cached (s : State) (d part page : Nat) : Option XEntry :=
  (s.die d).xcache.find? (fun x => x.covers part (page * 2 ^ 21))

/-- A faulter joins the merge entry of its page or starts one; a full merge table makes it wait. An engine waits at the
table of its own die (R365, R367). -/
def State.joinWalk (s : State) (w : Who) (k : Miss) (engine : Option Nat := none) : State :=
  let d := match engine with | none => dieOf w.tile | some e => e / 64
  let part := (s.tile w.tile).part
  match (s.die d).merge.find? (fun m => m.isFor part k.page) with
  | some m =>
    if (match engine with | none => m.faulters.contains w | some e => m.engines.contains e) then s
    else
      let m' : Merge := { m with
        count := m.count + 1, write := m.write || k.write
        faulters := if engine.isNone then m.faulters ++ [w] else m.faulters
        engines := m.engines ++ engine.toList }
      let s := s.modDie d (fun x => { x with merge := x.merge.map (fun y => if y.isFor part k.page then m' else y) })
      if m.walking then s else s.updateFault d m'
  | none =>
    if (s.die d).merge.length ≥ 512 then s
    else
      s.modDie d (fun x => { x with merge := x.merge ++ [
        { part := part, page := k.page, walking := true, kind := k.kind, write := k.write, count := 1, tile := w.tile,
          strand := w.strand, ip := if engine.isNone then (s.strand w).ip.toNat else 0, engine := engine.getD 0
          faulters := if engine.isNone then [w] else [], engines := engine.toList, seq := 0 }] })

/-- A miss looks up the die's cache: a strand whose page is there gets it into its TLB, for its next slot; a miss there joins a
walk or starts one (R365). -/
def State.joinMerge (s : State) (w : Who) (k : Miss) (engine : Option Nat := none) : State :=
  match engine, s.cached (dieOf w.tile) (s.tile w.tile).part k.page with
  | none, some x => s.tlbIn w.tile x
  | _, _ => s.joinWalk w k engine

/-! ### The checks of a global access (R170, R172) -/

/-- What the check of a global access answers. -/
inductive Xlate where
  | ok (t : Target)
  | bad (c : Cause)
  | miss (k : Miss)
  deriving DecidableEq, Repr

/-- TRAP_INFO of MISALIGNED and ACCESS_DENIED of a memory access (R161). -/
def addrInfo (va kind : Nat) : Word := BitVec.ofNat 64 (va % 2 ^ 57 + kind * 2 ^ 57)

/-- UNREGISTERED of an address that no table translates: fatal to the placement; the lantern keeps the address (R170, R405). -/
def unregistered (va : Nat) : Cause :=
  { code := .unregistered, placement := true, detail := BitVec.ofNat 64 va }

/-- ACCESS_DENIED of a memory access (R161). -/
def denied (va kind : Nat) : Cause := { code := .accessDenied, info := addrInfo va kind }

/-- The rights of an access: its partition, the system privilege, the right to read the weight store (R170, R172). -/
structure Rights where
  part : Nat
  system : Bool
  wsRead : Bool
  deriving DecidableEq, Repr

/-- The rights of a strand. -/
def State.rights (s : State) (w : Who) : Rights :=
  { part := (s.tile w.tile).part, system := (s.strand w).system, wsRead := (s.tile w.tile).wsRead }

/-- An access to a tile window (R172). -/
def State.checkTileWindow (s : State) (r : Rights) (va kind : Nat) : Xlate :=
  let t := va / 2 ^ 20 % 2048
  let off := va % 2 ^ 20
  let y := s.tile t
  if !validTile t then .bad (unregistered va)
  else if off ≥ 0x62000 then .bad (denied va kind)
  else if r.system then .ok (.tile t off)
  else if y.place.isSome && y.part == r.part && decide (0x10000 ≤ off) then .ok (.tile t off)
  else .bad (denied va kind)

/-- An access to a weight-store window: loads only, by holders of the rights (R172). -/
def checkWsWindow (r : Rights) (va kind : Nat) : Xlate :=
  let off := va % 2 ^ 30
  if off ≥ 0x30000000 ∨ kind ≠ 0 then .bad (denied va kind)
  else if r.system || r.wsRead then .ok (.ws (va / 2 ^ 30 % 4) off)
  else .bad (denied va kind)

/-- An access in translated space: the TLB decides; what a walk found otherwise is taken by the retried bundle
(R170, R363). -/
def State.checkTranslated (s : State) (w : Who) (va kind : Nat) (bind : Bool) : Xlate :=
  let t := s.tile w.tile
  match t.tlb.find? (fun x => x.covers t.part va) with
  | some x => if kind ≠ 0 ∧ !bitAt x.entry 2 then .bad (denied va kind) else .ok (x.target va)
  | none =>
    let page := va / 2 ^ 21
    match (s.strand w).xfault with
    | some (p, c) =>
      if p = page then
        .bad { code := if c = 0x17 then .pageRefused else .unregistered, placement := true, detail := BitVec.ofNat 64 va
               entry := some (s.walkEntry t.part va) }
      else .miss { page := page, write := kind ≠ 0, kind := if bind then 2 else if kind = 0 then 0 else 1 }
    | none => .miss { page := page, write := kind ≠ 0, kind := if bind then 2 else if kind = 0 then 0 else 1 }

/-- An address with bit 56 set (R172). -/
def State.checkWindows (s : State) (r : Rights) (va kind : Nat) : Xlate :=
  if va < 2 ^ 56 + 2 ^ 31 then s.checkTileWindow r va kind
  else if 0x0110000000000000 ≤ va ∧ va < 0x0110000000000000 + 2 ^ 32 then checkWsWindow r va kind
  else .bad (unregistered va)

/-- The check of an access by a copy engine of a die, at any alignment; it looks up the die's translation cache (R170,
R172, R285, R365). -/
def State.checkEngine (s : State) (r : Rights) (d va kind : Nat) : Xlate :=
  if va ≥ 2 ^ 57 then .bad (unregistered va)
  else if va ≥ 2 ^ 56 then s.checkWindows r va kind
  else
    match (s.die d).xcache.find? (fun x => x.covers r.part va) with
    | some x => if kind ≠ 0 ∧ !bitAt x.entry 2 then .bad (denied va kind) else .ok (x.target va)
    | none => .miss { page := va / 2 ^ 21, write := kind ≠ 0, kind := 3 }

/-- The check of a global access of size bytes by a strand; kind: 0 load, 1 store, 2 atomic, 3 tag operation (R161,
R170, R172). -/
def State.checkGlobal (s : State) (w : Who) (va size kind : Nat) (bind : Bool := false) : Xlate :=
  if va % size ≠ 0 then .bad { code := .misaligned, info := addrInfo va kind }
  else if va ≥ 2 ^ 57 then .bad (unregistered va)
  else if va < 2 ^ 56 then s.checkTranslated w va kind bind
  else s.checkWindows (s.rights w) va kind

/-- The physical scratchpad address behind an offset of a tile window (R158, R172, R177). -/
def Tile.winPhys (t : Tile) (off : Nat) : Nat :=
  if off < 0x60000 then off
  else if off < 0x61000 then (12 + natOfBool t.mirror) * 4096 + off % 4096
  else (13 - natOfBool t.mirror) * 4096 + off % 4096

/-- The structure code of what an access reaches (R407). -/
def Target.structure : Target → Nat
  | .hbm _ => 8
  | .ws _ _ => 7
  | _ => 1

/-- The unit and the 8-byte word at a target. -/
def State.errKey (s : State) : Target → Nat × Nat
  | .hbm pa => (0, pa / 8)
  | .tile t off => (t, (s.tile t).winPhys off / 8)
  | .ws d off => (d, off / 8)
  | .peer p pa _ => (p, pa / 8)

/-- The bytes an access reaches hold an uncorrectable error (R408). -/
def State.targetBad (s : State) (t : Target) (n : Nat) : Bool :=
  match t with
  | .hbm pa => s.hbmBad pa n
  | .tile t off => (s.tile t).poisoned ((s.tile t).winPhys off) n
  | .ws d off => (List.range (n / 8 + 2)).any (fun i => decide (off / 8 + i ≤ (off + n - 1) / 8) && FMap.get false (s.die d).wsPoison (off / 8 + i))
  | .peer _ _ _ => false

/-! ### The end of a walk (R365 to R367) -/

/-- Everyone parked on a merge entry goes on: its entry leaves the table (R368). -/
def State.dropMerge (s : State) (d part page : Nat) : State :=
  s.modDie d (fun x => { x with merge := x.merge.filter (fun m => !m.isFor part page) })

/-- A strand takes what a walk found when its bundle is retried. -/
def State.setXfault (s : State) (w : Who) (page : Nat) (code : BitVec 8) : State :=
  s.modStrand w (fun x => { x with xfault := some (page, code) })

/-- The pager's fault item of a page that is lazy (R367). -/
def State.faultItem (s : State) (d : Nat) (m : Merge) : State :=
  let seq := (s.die d).faultSeq + 1
  let m' := { m with walking := false, seq := seq }
  let s := s.modDie d (fun x =>
    { x with faultSeq := seq, merge := x.merge.map (fun y => if y.isFor m.part m.page then m' else y) })
  match (s.die d).faultQueue with
  | none => s
  | some q => s.post ⟨512 * d, 9⟩ q [{ header := itemHeader 4 0 false 0, words := m'.words }]

/-- A page turns out to be unregistered or refused for an engine: its command, and the strips that it fetches, end their
placement; no ring is written, and the lantern keeps the engine and the address (R291, R298). -/
def State.engineFault (s : State) (part page : Nat) (code : TrapCode) (e : Nat) : State :=
  let s := match (s.engine e).run with
    | some r =>
      match r.phase with
      | .page p va =>
        if p = page ∧ r.cmd.part = part then (s.endRun e).engineFatal e r.cmd.who va code else s
      | _ => s
    | none => s
  s.flights.foldl (fun (a : State) f =>
    match f.kind with
    | .strip _ va _ =>
      if homeEngine f.owner.tile = e ∧ va / 2 ^ 21 = page ∧ (a.tile f.owner.tile).part = part ∧ (a.flight f.id).isSome then
        (a.dropFlight f.id).engineFatal e f.owner va code
      else a
    | _ => a) s

/-- TLB_WALK_END: the die's cache or the walk answers for a page. A mapped page goes to the cache and to every
faulter's TLB; a lazy one goes to the pager; an unregistered one is taken by the faulters (R363, R365, R366). -/
def State.walkEnd (s : State) (d part page : Nat) : State :=
  match (s.die d).merge.find? (fun m => m.isFor part page && m.walking) with
  | none => s
  | some m =>
    let va := page * 2 ^ 21
    let ans := match s.cached d part page with
      | some x => Walk.page x
      | none => s.walk part va
    match ans with
    | .page x =>
      let s := m.faulters.foldl (fun (a : State) w => a.tlbIn w.tile x) (s.dieIn d x)
      s.dropMerge d part page
    | .lazy bad =>
      let s := match bad with
        | none => s
        | some a => s.noteError d 8 0 (a / 8) m.tile m.strand (BitVec.ofNat 64 a) (some 0)
      s.faultItem d m
    | .unregistered bad =>
      let s := match bad with
        | none => s
        | some a => s.record d 6 0x07 m.tile m.strand (BitVec.ofNat 64 va) (BitVec.ofNat 64 a)
      m.engines.foldl (fun (a : State) e => a.engineFault part page .unregistered e)
        ((m.faulters.foldl (fun (a : State) w => a.setXfault w page 0x07) s).dropMerge d part page)

end Sys2Proof.Machine
end

