-- ==== Sys2Proof/Machine/Operands.lean ====
section
/-!
DEFINITION. Operand forms, and the issue of a bundle: what a half needs, when it traps, when it waits and what it
does; the four steps of R19, the masks of R64, parks, the commit of a gang, bank conflicts.
-/
namespace Sys2Proof.Machine

/-- A register or memory operand: m is 128 bytes of scratchpad through pointer i (R60). -/
inductive Loc where
  | none
  | g (i : Nat)
  | c (i : Nat)
  | q (i : Nat)
  | k (i : Nat)
  | p (i : Nat)
  | v (i : Nat)
  | m (i : Nat) (post : Bool)
  deriving DecidableEq, Repr

/-- A scalar-class operand field (R60). -/
def sLoc (f : BitVec 2) (i : BitVec 6) : Loc :=
  match f.toNat with
  | 0 => .g i.toNat
  | 1 => .c i.toNat
  | 2 => .q i.toNat
  | _ => if i.toNat < 8 then .k i.toNat else .p (i.toNat - 8)

/-- A vector-class operand field (R60). -/
def vLoc (f : BitVec 2) (i : BitVec 6) : Loc :=
  match f.toNat with
  | 0 => .v i.toNat
  | 1 => .m (i.toNat % 8) (decide (i.toNat / 8 % 2 = 0))
  | 2 => .q i.toNat
  | _ => .k i.toNat

/-- The register-file code of an operand (R60), for TRAP_INFO (R44, R106). -/
def Loc.file : Loc → Nat
  | .none => 0
  | .g _ => 0
  | .c _ => 1
  | .q _ => 2
  | .k _ => 3
  | .p _ => 3
  | .v _ => 0
  | .m _ _ => 1

/-- The index of an operand in its file. -/
def Loc.index : Loc → Nat
  | .none => 0
  | .g i => i
  | .c i => i
  | .q i => i
  | .k i => i
  | .p i => 8 + i
  | .v i => i
  | .m i _ => i

/-- A source of a half: where it is, its trap bit, whether TRAP_INFO marks it with operand 1, as source b and a register d that is
read and also written are marked, and how many items a pop takes. DESIGN CHOICE: a d that is only read (BR, the W forms of ST, STE,
STF and STG) is marked 0, for R44 gives it no mark (assumption 97). -/
structure Src where
  loc : Loc
  trap : Bool := false
  isB : Bool := false
  items : Nat := 1
  deriving DecidableEq, Repr

/-- Scratchpad bytes that a bundle reads or writes, by physical address, as watchpoints see them (R395). -/
structure Acc where
  pa : Nat
  n : Nat
  load : Bool := false
  store : Bool := false
  /-- It belongs to the access of the bytes before it in a list (R395). -/
  more : Bool := false
  /-- The bytes are reached after the bundle has issued, in an order that is kept there: only the matrix path holds the bundle back
  for them (R260, R310). -/
  later : Bool := false
  deriving DecidableEq, Repr

/-- A redeem: its ticket, its width, the physical address that RDMS writes, the register that receives the data or the
status of RDMS, the status register of RDM.Q, and a pointer to post-increment (R242). -/
structure RedeemReq where
  ticket : Word
  width : Nat
  place : Option Nat := none
  dest : Option RegRef := none
  status : Option RegRef := none
  quiet : Bool := false
  bump : Option Nat := none
  deriving DecidableEq, Repr

/-- What else a waiting bundle leaves behind: a miss in the merge table, a waiter of the banker, a fusion request, the
places of a QSEL, a redeem that is held. -/
inductive Note where
  | miss (m : Miss)
  | acquire (req : Counts)
  | fuse (desc : Word)
  | select (ports : List Nat)
  | redeem (r : RedeemReq)
  /-- The markers of a sweep set out, over the circuits of the strand's own accesses and those of its engine commands (R321). -/
  | sweep (own engines : Bool)
  /-- Nothing: a BPASS that lacks a beacon is no pop. -/
  | nothing
  deriving DecidableEq, Repr

/-- What a bundle waits for: a park kind with its file and index (R106). -/
structure Wait where
  kind : Nat
  file : Nat := 0
  index : Nat := 0
  note : Option Note := none
  deriving DecidableEq, Repr

/-- A half of a bundle. The functions take the state before the bundle, and where two are taken the second is the
state that the earlier half has left, which matters for queues only (R19 rule 3). -/
structure Half where
  /-- The vector class. -/
  vec : Bool := false
  /-- The mask register; k0 masks nothing (R64). -/
  mask : Nat := 0
  /-- ILLEGAL_OPCODE that the encoding of the half alone does not show: SPAWN of the own index, TRET outside a
  handler. -/
  illegal : State → Who → Bool := fun _ _ => false
  privileged : State → Who → Bool := fun _ _ => false
  /-- ACCESS_DENIED for a slot, accumulator or ring that is not held (R68 item 3). -/
  names : State → Who → Option Cause := fun _ _ => none
  srcs : List Src := []
  /-- Registers that it reads without naming them as sources: the pointer that PADD changes (R49). -/
  readsToo : List Loc := []
  /-- What the half writes, post-incremented pointers included. -/
  dests : List Loc := []
  /-- The instruction's own traps, in the order of its description. -/
  traps : State → Who → Option Cause := fun _ _ => none
  /-- Its waiting conditions. -/
  waits : State → State → Who → Option Wait := fun _ _ _ => none
  /-- The physical 64-byte units of scratchpad it accesses (R139, R162). -/
  units : State → Who → List Nat := fun _ _ => []
  /-- The scratchpad bytes it reads and writes (R395). -/
  accs : State → Who → List Acc := fun _ _ => []
  /-- Scratchpad bytes that it reads or writes unseen by watchpoints: tags, and what the matrix path moves for it (R167, R260). -/
  touch : State → Who → List Acc := fun _ _ => []
  /-- It makes a memory access, and so waits behind an acquire not yet performed (R321). -/
  memory : Bool := false
  /-- It may share its bundle with VNOP only (R244). -/
  solo : Bool := false
  /-- It is VNOP. -/
  isNop : Bool := false
  /-- It may write a register in stream mode (R297). -/
  binds : Bool := false
  /-- A source that is PENDING parks as a destination does, with kind 10 (R17, R89). -/
  owedAsDest : Bool := false
  /-- It writes its destinations, and so waits for those that are PENDING (R17). -/
  writes : State → Who → Bool := fun _ _ => true
  /-- The completion count that it finds at its first attempt (R272). -/
  counts : State → Who → Option Nat := fun _ _ => none
  /-- The SR draws it makes (R121). -/
  draws : State → Who → Nat := fun _ _ => 0
  effect : State → State → Who → State := fun _ cur _ => cur

/-! ### Reading operands -/

/-- The condition of a source, where it has one. -/
def State.locFill (s : State) (w : Who) : Loc → Fill
  | .g i => ((s.strand w).readG i).st
  | .c i => (s.readC w.tile i).st
  | .k i => ((s.strand w).readK i).st
  | .v i => ((s.strand w).readV i).st
  | _ => .full

/-- A register in parity error (R49). -/
def State.locBad (s : State) (w : Who) : Loc → Bool
  | .g i => ((s.strand w).readG i).bad
  | .c i => (s.readC w.tile i).bad
  | .k i => ((s.strand w).readK i).bad
  | .v i => ((s.strand w).readV i).bad
  | .p i => ((s.strand w).readP i).bad
  | .m i _ => ((s.strand w).readP i).bad
  | _ => false

/-- The scalar value of a register operand; a k register is zero-extended, a pointer gives its addr (R76, R83). A
q operand has no value before it is popped. -/
def State.scalar (s : State) (w : Who) : Loc → Word
  | .g i => ((s.strand w).readG i).val
  | .c i => (s.readC w.tile i).val
  | .k i => ((s.strand w).readK i).val.setWidth 64
  | .p i => ((s.strand w).readP i).addr.setWidth 64
  | _ => 0

/-- Take a scalar source: a register of the state before the bundle, or a pop (R19 rule 2, R70). -/
def takeScalar (pre cur : State) (w : Who) (l : Loc) : Word × State :=
  match l with
  | .q i =>
    let (it, s) := cur.pop1 w i
    (it.word 0, s)
  | _ => (pre.scalar w l, cur)

/-- Write a scalar result: a g, c or k register, or a push (R69, R76). -/
def State.putScalar (s : State) (w : Who) (l : Loc) (x : Word) : State :=
  match l with
  | .g i => s.putG w i x
  | .c i => s.putC w.tile i x
  | .k i => s.putK w i (x.setWidth 32)
  | .q i => s.push w i [s.scalarItem w i x]
  | _ => s

/-- The register reference of a destination that a LONG result is owed to; g0 and k0 are discarded (R37). -/
def Loc.ref (w : Who) : Loc → Option RegRef
  | .g i => if i = 0 then Option.none else some (.g w i)
  | .c i => some (.c w.tile i)
  | .k i => if i = 0 then Option.none else some (.k w i)
  | .v i => some (.v w i)
  | _ => Option.none

/-- Read 128 bytes of scratchpad through an address, lane by lane (R135). -/
def State.readLanes (s : State) (w : Who) (x : Nat) : VWord :=
  ofLanes (fun i => BitVec.ofNat 32 (s.readLocal w (x + 4 * i) 4))

/-- The value of a vector operand that is no queue. -/
def State.vector (s : State) (w : Who) : Loc → VWord
  | .v i => ((s.strand w).readV i).val
  | .m i _ => s.readLanes w ((s.strand w).readP i).addr.toNat
  | .k i => ((s.strand w).readK i).val.setWidth 1024
  | _ => 0

/-- Take a vector source: a register or scratchpad of the state before the bundle, a strip of a register in stream mode,
or pops: two items, or the one item of VBCAST (R134 to R136, R154, R298). -/
def takeVector (pre cur : State) (w : Who) (l : Loc) (n : Nat) : VWord × State :=
  match l with
  | .v i => if (FMap.find (pre.strand w).streams i).isSome then (cur.vector w l, cur.takeStrip w i) else (pre.vector w l, cur)
  | .q i =>
    let (x, s1) := cur.pop1 w i
    if n = 1 then (lanesOfItems x { header := 0, words := [] }, s1)
    else
      let (y, s2) := s1.pop1 w i
      (lanesOfItems x y, s2)
  | _ => (pre.vector w l, cur)

/-- Write n bytes at a local address, translated in the state before the bundle; whole words lose their poison
(R136, R408). -/
def storeLocal (pre cur : State) (w : Who) (x n v : Nat) : State :=
  let s := pre.writeLocalAt w x v n cur
  (List.range n).foldl (fun (a : State) i =>
    if (x + i) % 8 = 0 ∧ i + 8 ≤ n then a.modTile w.tile (fun t => t.cleanse (pre.phys w (x + i))) else a) s

/-- Write the active lanes of a vector to 128 bytes of scratchpad (R64, R135). -/
def storeLanes (pre cur : State) (w : Who) (x : Nat) (m : BitVec 32) (v : VWord) : State :=
  (List.range 32).foldl (fun (a : State) i =>
    if bitAt m i then
      let b := storeLocal pre a w (x + 4 * i) 4 (lane v i).toNat
      if (x + 4 * i) % 8 = 0 ∧ bitAt m (i + 1) ∧ i + 1 < 32 then
        b.modTile w.tile (fun t => t.cleanse (pre.phys w (x + 4 * i)))
      else b
    else a) cur

/-- Apply the post-increment of a pointer operand (R40, R135). -/
def State.bumpLoc (s : State) (w : Who) : Loc → State
  | .m i true => s.modStrand w (fun x => x.writeP i (x.readP i).bump)
  | _ => s

/-- Write a vector result: the active lanes of a v register, of scratchpad, or two pushed items (R64, R133, R134). -/
def putVector (pre cur : State) (w : Who) (l : Loc) (m : BitVec 32) (v : VWord) : State :=
  match l with
  | .v i => cur.putV w i (blend m v ((pre.strand w).readV i).val)
  | .m i _ => storeLanes pre cur w ((pre.strand w).readP i).addr.toNat m v
  | .q i => cur.push w i (cur.vectorItems w i m v)
  | .k i => cur.putK w i ((v.setWidth 32 &&& m) ||| (((pre.strand w).readK i).val &&& ~~~m))
  | _ => cur

/-! ### Checks on operands -/

/-- The first of a list of optional causes. -/
def firstCause : List (Option Cause) → Option Cause
  | [] => none
  | some c :: _ => some c
  | none :: r => firstCause r

/-- An extension register in a block the strand does not hold (R39). -/
def Strand.lacks (x : Strand) : Loc → Bool
  | .g i => decide (16 ≤ i) && (FMap.find x.xg ((i - 16) / 16)).isNone
  | .v i => decide (8 ≤ i) && (FMap.find x.xv ((i - 8) / 8)).isNone
  | _ => false

/-- TRAP_INFO that names a register (R44). DESIGN CHOICE: a v register named by a scalar-class instruction (SBIND, SUNB, RDM) is
marked with class 1 and the vector class's file code 0, for R44 gives neither (assumption 97). -/
def regInfo (vec : Bool) (l : Loc) (one : Bool) : Word :=
  let v := vec || (match l with | .v _ => true | _ => false)
  BitVec.ofNat 64 (l.index + l.file * 64 + natOfBool v * 256 + natOfBool one * 512)

/-- ACCESS_DENIED for the first extension register not held: sources, then destinations; a register d that is read only is marked
as source a is, see Src (R39, R44). -/
def Half.denied (h : Half) (s : State) (w : Who) : Option Cause :=
  let x := s.strand w
  match h.srcs.find? (fun r => x.lacks r.loc) with
  | some r => some { code := .accessDenied, info := regInfo h.vec r.loc r.isB }
  | none =>
    match h.dests.find? (fun l => x.lacks l) with
    | some l => some { code := .accessDenied, info := regInfo h.vec l true }
    | none => h.names s w

/-- The word of the instruction for ILLEGAL_OPCODE and PRIVILEGED (R68). -/
def Half.word (h : Half) (s : State) : Word := if h.vec then s.cur.vWord else s.cur.sWord

/-- The first step of R19: the causes of R68 items 1 to 3. -/
def Half.step1 (h : Half) (s : State) (w : Who) : Option Cause :=
  if h.illegal s w then some { code := .illegalOpcode, info := h.word s }
  else if h.privileged s w then some { code := .privileged, info := h.word s }
  else h.denied s w

/-- The mask is known to leave nothing to do: bit 0 for the scalar class, every lane for the vector class (R64,
R133). -/
def Half.idle (h : Half) (s : State) (w : Who) : Bool :=
  let k := (s.strand w).readK h.mask
  decide (k.st = .full) && (if h.vec then k.val == 0 else !bitAt k.val 0)

/-- The first source of a list that meets a test, which also sees the sources before it: those of l0 and the earlier ones of the
list itself, whether or not they are equal to it (R134). -/
def findSrc (test : List Src → Src → Bool) : List Src → List Src → Option Src
  | _, [] => none
  | l0, r :: l => if test l0 r then some r else findSrc test (l0 ++ [r]) l

/-- The condition of a source as a bundle finds it, behind earlier sources; a q port has no condition of its own (R41). A register in
stream mode needs a landed strip for each read, and a read behind the last strip does not wait (R298). -/
def Src.full (r : Src) (earlier : List Src) (s : State) (w : Who) : Bool :=
  match r.loc with
  | .v i =>
    match FMap.find (s.strand w).streams i with
    | none => decide (s.locFill w r.loc = .full)
    | some x =>
      let n := (earlier.filter (fun y => y.loc == r.loc)).length
      decide (n < x.landed.length) || decide (x.total ≤ x.taken + n) ||
        x.landed.any (·.isNone)
  | _ => decide (s.locFill w r.loc = .full)

/-- A q source with its trap bit set and too few items (R44, R70, R134). -/
def Src.short (r : Src) (s : State) (w : Who) (before : Nat) : Bool :=
  match r.loc with
  | .q i =>
    match s.qport w i with
    | none => false
    | some (_, p) => r.trap && decide (p.items.length < before + r.items)
  | _ => false

/-- The items that the sources of a list take from the port of r. -/
def itemsOf (s : State) (w : Who) (l : List Src) (r : Src) : Nat :=
  match r.loc with
  | .q i =>
    (l.map (fun x =>
      match x.loc with
      | .q j => if (s.qbind w j).map (·.port) == (s.qbind w i).map (·.port) then x.items else 0
      | _ => 0)).sum
  | _ => 0

/-- A source with its trap bit set that finds too few items behind the pops of earlier sources (R44, R134). -/
def Src.shortAt (s : State) (w : Who) (earlier : List Src) (r : Src) : Bool := r.short s w (itemsOf s w earlier r)

/-- The second step of R19: EMPTY_SOURCE of a source with its trap bit set. A masked-off instruction reads nothing
and raises nothing (R64, R133). earlier: the sources of the half before it. -/
def Half.emptySource (h : Half) (earlier : List Src) (s : State) (w : Who) : Option Cause :=
  if h.idle s w then none
  else
    (findSrc (fun l r => (r.trap && !r.full l s w) || Src.shortAt s w l r) earlier h.srcs).map
      (fun r => { code := .emptySource, info := regInfo h.vec r.loc r.isB })

/-- The second step of R19: a source or the mask that is EMPTY or PENDING parks, kind 1. A masked-off half reads no source, and
so waits for none (R16, R64, R133, assumption 98). -/
def Half.sourceWait (h : Half) (s : State) (w : Who) : Option Wait :=
  let k := (s.strand w).readK h.mask
  if k.st ≠ .full then some { kind := 1, file := 3, index := h.mask }
  else if h.idle s w then none
  else (findSrc (fun l r => !r.full l s w) [] h.srcs).map (fun r =>
    { kind := if h.owedAsDest && s.locFill w r.loc == .pending then 10 else 1, file := r.loc.file, index := r.loc.index })

/-- TRAP_INFO of a register in parity error: structure 0 of UNCORRECTABLE (R107). DESIGN CHOICE: the owning strand of a common
register, which no strand owns, is the reading strand (assumption 97). -/
def parityInfo (vec : Bool) (l : Loc) (strand : Nat) : Word :=
  BitVec.ofNat 64 (l.index * 2 ^ 8 + l.file * 2 ^ 14 + natOfBool vec * 2 ^ 16 + strand * 2 ^ 17)

/-- UNCORRECTABLE of a register in parity error (R49, R107). -/
def parityCause (vec : Bool) (w : Who) (l : Loc) : Cause :=
  { code := .uncorrectable, info := parityInfo vec l w.strand, unit := w.tile * 8 + w.strand, word := (parityInfo vec l 0).toNat }

/-- An operand in scratchpad. -/
def Loc.isM : Loc → Bool
  | .m _ _ => true
  | _ => false

/-- The registers that a half that takes effect reads beside its mask: its sources, the pointers through which it writes, and
those that it reads without naming them as sources (R49). -/
def Half.reads (h : Half) : List Loc := h.srcs.map (·.loc) ++ h.dests.filter Loc.isM ++ h.readsToo

/-- The mask register is in parity error (R49, R64). -/
def Half.maskParity (h : Half) (s : State) (w : Who) : Option Cause :=
  if s.locBad w (.k h.mask) then some (parityCause h.vec w (.k h.mask)) else none

/-- A read that finds a parity error (R49). -/
def Half.parity (h : Half) (s : State) (w : Who) : Option Cause :=
  (h.reads.find? (fun l => s.locBad w l)).map (parityCause h.vec w)

/-- STREAM_FAULT for a register and, with reason 3, the address of a strip (R298). -/
def streamCause (reason i addr : Nat) : Cause :=
  { code := .streamFault, info := BitVec.ofNat 64 (reason + 16 * i + addr / 128 % 2 ^ 50 * 2 ^ 14) }

/-- A read of a register in stream mode behind its last strip, or whose strip was refused (R298). -/
def State.stripFault (s : State) (w : Who) (i : Nat) : Option Cause :=
  match FMap.find (s.strand w).streams i with
  | none => none
  | some x =>
    if x.total ≤ x.taken then some (streamCause 2 i 0)
    else
      match x.landed with
      | none :: _ => some (streamCause 3 i (x.addr x.taken))
      | _ => none

/-- A write to a register in stream mode (R298). -/
def Half.streamWrite (h : Half) (s : State) (w : Who) : Option Cause :=
  if h.binds then none
  else
    h.dests.findSome? (fun l =>
      match l with
      | .v i => if (FMap.find (s.strand w).streams i).isSome then some (streamCause 1 i 0) else none
      | _ => none)

/-- The third step of R19: a mask in error, and the instruction's own traps where it takes effect. -/
def Half.own (h : Half) (s : State) (w : Who) : Option Cause :=
  match h.maskParity s w with
  | some c => some c
  | none => if h.idle s w then none else firstCause [h.parity s w, h.traps s w, h.streamWrite s w]

/-- A write to a register that is PENDING waits: kind 10 (R17). -/
def Half.pendingWait (h : Half) (s : State) (w : Who) : Option Wait :=
  if !h.writes s w then none
  else
    (h.dests.find? (fun l =>
      match l.ref w with
      | some r => decide (s.regFill r = .pending)
      | none => false)).map (fun l => { kind := 10, file := l.file, index := l.index })

/-- An access with acquire semantics of the strand is not yet performed (R321). -/
def State.acquiring (s : State) (w : Who) : Bool :=
  s.flights.any (fun f => f.owner == w && f.kind.acquires)

/-- The bytes that an access, or a fetch that is not bound, reaches through the window of a tile. -/
def Kind.inWindow (k : Kind) (t : Nat) : Option (Nat × Nat) :=
  match k with
  | .access _ (.tile u off) n _ _ => if u = t then some (off, n) else none
  | .ldt _ (.tile u off) _ c _ _ _ _ => if u = t then some (off, 8 * 2 ^ c) else none
  | .fetch _ _ _ (.tile u off) n ws _ => if u = t ∧ ws.any (·.isNone) then some (off, n) else none
  | _ => none

/-- An access or a bind of the strand in its own tile's window that is not performed touches bytes that a local access also
touches; a strand sees its own accesses in program order (R310 rule 1, R318). -/
def State.ownPending (s : State) (w : Who) (l : List Acc) : Bool :=
  s.flights.any (fun f =>
    f.owner == w &&
    (match f.kind.inWindow w.tile with
     | some (off, n) =>
       let pa := (s.tile w.tile).winPhys off
       l.any (fun a => !a.later && decide (pa < a.pa + a.n) && decide (a.pa < pa + n))
     | none => false))

/-- The bytes of an element of a drain format (R273). -/
def drainSize (fmt : Nat) : Nat :=
  match fmt with
  | 0 => 4
  | 1 => 2
  | 4 => 4
  | _ => 1

/-- The physical byte behind a local address whose page was fixed at issue (R257, R273). -/
def PathReq.phys (r : PathReq) (x : Nat) : Nat := FMap.get 0 r.pages (x % 2 ^ 20 / 4096) * 4096 + x % 4096

/-- The local address of element e of a drain, in row-major order (R273). -/
def drainAddr (base fmt n pitch e : Nat) : Nat := (base + e / n * pitch + e % n * drainSize fmt) % 2 ^ 20

/-- The runs of physical bytes that a request moves from byte lo on, up to byte hi: words of a fill, elements of a drain (R259). -/
def PathReq.runs (r : PathReq) (lo hi : Nat) : List (Nat × Nat) :=
  match r.kind with
  | .fill _ _ _ _ => (List.range ((hi - lo) / 8)).map (fun i => (r.phys (r.base + lo + 8 * i), 8))
  | .drain _ f _ n p =>
    (List.range ((hi - lo) / drainSize f)).map (fun i => (r.phys (drainAddr r.base f n p (lo / drainSize f + i)), drainSize f))
  | .write _ _ _ _ _ => []

/-- A request of the matrix path holds a later bundle of its strand: the bundle writes a byte that a fill has yet to read,
or accesses a byte that a drain has yet to write (R260). -/
def PathReq.holds (r : PathReq) (l : List Acc) : Bool :=
  let fill := match r.kind with | .fill _ _ _ _ => true | _ => false
  (r.runs r.moved r.total).any (fun e =>
    l.any (fun a => (!fill || a.store) && decide (e.1 < a.pa + a.n) && decide (a.pa < e.1 + e.2)))

/-- The park of a bundle that the strand's own path requests hold: kind 8, index 16 + S for a fill, J for a drain
(R260). -/
def State.pathHold (s : State) (w : Who) (l : List Acc) : Option Wait :=
  if l.isEmpty then none
  else
    ((s.tile w.tile).path.find? (fun r => r.who == w && r.holds l)).map (fun r =>
      { kind := 8, index := (match r.kind with | .fill _ _ _ _ => 16 + r.name | _ => r.name) })

/-- The fourth step of R19: the waiting conditions. -/
def Half.waitAt (h : Half) (pre cur : State) (w : Who) : Option Wait :=
  match h.pendingWait pre w with
  | some x => some x
  | none =>
    if h.memory && (pre.acquiring w || pre.ownPending w ((if (h.units pre w).isEmpty then [] else h.accs pre w) ++ h.touch pre w)) then
      some { kind := 11 }
    else
      match pre.pathHold w (h.accs pre w ++ h.touch pre w) with
      | some x => some x
      | none => h.waits pre cur w

/-! ### The issue of a bundle -/

/-- The destinations that count for R19 rule 5: g0 and k0 are discarded (R37). -/
def Loc.counts : Loc → Bool
  | .none => false
  | .g i => i != 0
  | .k i => i != 0
  | .m _ _ => false
  | _ => true

/-- The pointers a half post-increments or writes. -/
def Half.bumps (h : Half) : List Nat :=
  (h.srcs.map (·.loc) ++ h.dests).filterMap (fun l => match l with | .m i true => some i | _ => none)

/-- A list names a number twice. -/
def hasRepeat : List Nat → Bool
  | [] => false
  | x :: r => r.contains x || hasRepeat r

/-- ILLEGAL_OPCODE of a half that post-increments one pointer twice (R135). -/
def Half.twice (h : Half) (s : State) : Option Cause :=
  if hasRepeat h.bumps then some { code := .illegalOpcode, info := h.word s } else none

/-- ILLEGAL_OPCODE of two halves together: one destination in both, or a trapping redeem beside a vector half other than VNOP; it is
reported as the scalar half's (R19 rule 5, R85, R244). -/
def clash (a b : Half) (s : State) : Option Cause :=
  let ad := a.dests.filter Loc.counts ++ a.bumps.map Loc.p
  let bd := b.dests.filter Loc.counts ++ b.bumps.map Loc.p
  if ad.any (fun l => bd.contains l) || (a.solo && !b.isNop) then some { code := .illegalOpcode, info := a.word s } else none

/-- The first step of R19 for a bundle: the causes of the scalar half, those of both halves together among them, then those of
the vector half (R19 rule 4). -/
def firstStep (hs : List Half) (s : State) (w : Who) : List (Option Cause) :=
  match hs with
  | [a, b] => [clash a b s, a.twice s, a.step1 s w, b.twice s, b.step1 s w]
  | _ => hs.flatMap (fun h => [h.twice s, h.step1 s w])

/-- The leader of a strand's gang, or the strand itself (R51). -/
def State.leader (s : State) (w : Who) : Who :=
  let x := s.strand w
  if x.fused then ⟨w.tile - 16 * fieldNat x.gangShape 12 4 - fieldNat x.gangShape 8 4, w.strand⟩ else w

/-- The strands of the rectangle that GANG_SHAPE describes, the leader's row first, row by row (R51). -/
def State.gang (s : State) (w : Who) : List Who :=
  let x := s.strand w
  let lead := w.tile - 16 * fieldNat x.gangShape 12 4 - fieldNat x.gangShape 8 4
  (List.range (fieldNat x.gangShape 4 4 + 1)).flatMap (fun r =>
    (List.range (fieldNat x.gangShape 0 4 + 1)).map (fun c => ⟨lead + 16 * r + c, w.strand⟩))

/-- The strands on which a bundle of a strand issues: the members of its gang, or the strand alone, as also a strand whose fusion
has completed while its GFUSE has not issued (R51, R198, R199). -/
def State.members (s : State) (w : Who) : List Who := if (s.strand w).fused then s.gang w else [w]

/-- A member has a share in a gang's bundle: it runs, and it is fused into this gang (R199). -/
def State.joined (s : State) (lead m : Who) : Bool :=
  (s.strand m).running && !(s.strand m).dying && (s.strand m).fused && s.leader m == lead && (s.gang m).length == (s.gang lead).length

/-- A gang cannot issue in this slot: a member's tile is frozen, or a member cannot issue because it has stopped or has its GFUSE
yet to issue; every member forfeits (R199, R207). DEDUCED: a gang that has lost a member to its crew's fatal trap issues nothing
any more (assumption 89). -/
def State.gangHeld (s : State) (ms : List Who) : Bool :=
  match ms with
  | [w] => (s.tile w.tile).frozen
  | _ => ms.any (fun w => (s.tile w.tile).frozen || !s.joined (s.leader (ms.headD ⟨0, 0⟩)) w)

/-- The member mask of a gang trap: the faulting members of the own row by column offset, and the rows that hold a
faulting member (R204). -/
def memberMask (lead w : Who) (bad : List Who) : Word :=
  let row := rowOf w.tile
  let a := (bad.filter (fun x => rowOf x.tile == row)).map (fun x => 2 ^ (colOf x.tile - colOf lead.tile))
  let b := ((List.range 16).filter (fun r => bad.any (fun x => rowOf x.tile - rowOf lead.tile == r))).map
    (fun r => 2 ^ (16 + r))
  BitVec.ofNat 64 (a.sum + b.sum)

/-- A gang takes a trap in lockstep (R204). -/
def State.gangTrap (s : State) (ms : List Who) (cs : List (Who × Cause)) (ip : Word) : State :=
  let lead := s.leader (ms.headD ⟨0, 0⟩)
  let v := s.trapVec lead
  let causeOf := fun w =>
    match cs.find? (fun e => e.1 == w) with
    | some e => e.2
    | none => { code := .gangMismatch, info := memberMask lead w (cs.map (·.1)) }
  match cs.find? (fun e => e.2.placement) with
  | some e => s.placementFatal e.1 e.2 ip
  | none =>
    if cs.any (fun e => s.debugged e.1 e.2) then
      cs.foldl (fun (a : State) e => if a.debugged e.1 e.2 then a.debugFreeze e.1 e.2 else a) s
    else if v = 0 || ms.any (fun w => bitAt (s.strand w).trapCause 7) then
      ms.foldl (fun (a : State) w => a.crewFatal w (causeOf w) ip) s
    else ms.foldl (fun (a : State) w => (a.abandonWait w).enterHandler w (causeOf w) ip v) s

/-- Raise causes of the members of a bundle; a strand whose fusion has completed raises its own as a member of its gang (R19 rule
4, R99, R198, R204). -/
def State.raise (s : State) (ms : List Who) (cs : List (Who × Cause)) : State :=
  match ms, cs with
  | [w], (_, c) :: _ =>
    if (s.strand w).matched then
      let s' := (s.gang w).foldl (fun (a : State) m => a.modStrand m (fun x => { x with matched := false })) s
      s'.gangTrap (s.gang w) cs s.cur.ip
    else s.takeTrap w c s.cur.ip
  | _, _ => s.gangTrap ms cs s.cur.ip

/-- TRAP_INFO of WAIT_TIMEOUT (R106). -/
def timeoutInfo (k : Wait) (cycles : Nat) : Word :=
  BitVec.ofNat 64 (k.kind + k.file * 16 + k.index * 64 + Nat.min cycles 0xFFFFFFFF * 2 ^ 32)

/-- The park of a strand whose bundle waits: a new one, or the old one 8 cycles longer (R18). -/
def Strand.parkOn (x : Strand) (k : Wait) : Park :=
  { kind := k.kind, file := k.file, index := k.index,
    cycles := match x.park with | none => 0 | some p => p.cycles + 8 }

/-- A slot lost to a bank: the bundle has no effect and is retried, and the park of a strand that is parked goes on (R11, R18). -/
def Strand.loseSlot (x : Strand) : Strand := { x with park := x.park.map (fun p => { p with cycles := p.cycles + 8 }) }

/-- The park has lasted more than WAIT_LIMIT cycles (R18). -/
def Strand.timedOut (x : Strand) (p : Park) : Bool :=
  decide (x.waitLimit ≠ 0) && decide (x.waitLimit.toNat < p.cycles)

/-- A strand enters its tile's list of waiters, unless it stands there (R193). -/
def State.enroll (s : State) (w : Who) (req : Counts) : State :=
  s.modTile w.tile (fun t =>
    if t.waiters.any (fun x => x.strand == w.strand) then t
    else { t with waiters := t.waiters ++ [{ strand := w.strand, crew := (s.strand w).crewId.toNat, req := req }] })

/-- The tiles of the rectangle of a fusion descriptor, row by row (R198). -/
def rectangle (desc : Word) : List Nat :=
  (List.range (fieldNat desc 15 4 + 1)).flatMap (fun r =>
    (List.range (fieldNat desc 11 4 + 1)).map (fun c => fieldNat desc 0 11 + 16 * r + c))

/-- GANG_SHAPE of a member (R51). -/
def shapeOf (desc : Word) (t : Nat) : BitVec 17 :=
  let l := fieldNat desc 0 11
  BitVec.ofNat 17 (fieldNat desc 11 4 + fieldNat desc 15 4 * 16 + (colOf t - colOf l) * 256 + (rowOf t - rowOf l) * 4096 + 65536)

/-- A strand posts a fusion request; once every tile of the rectangle holds it, fusion completes on all of them at once, and no
request stands any more; a member's GFUSE issues in a later cycle (R18, R198). -/
def State.postFuse (s : State) (w : Who) (desc : Word) : State :=
  let s := s.modStrand w (fun x => { x with fuse := some desc })
  if (rectangle desc).all (fun t => (s.strand ⟨t, w.strand⟩).fuse == some desc) then
    (rectangle desc).foldl (fun (a : State) t =>
      a.modStrand ⟨t, w.strand⟩ (fun x =>
        { x with fuse := none, matched := true, gangShape := shapeOf desc t, startAt := Nat.max x.startAt (s.now w.tile + 1) })) s
  else s

/-- A redeem sets out: a flight for its delivery and one for its ticket. The registers of a quiet form are PENDING; the
null ticket is STALE without being sent (R241, R244). -/
def State.sendRedeem (s : State) (w : Who) (r : RedeemReq) : State :=
  let id := s.nextId
  let s := s.sendLong w 1 none (.redeem r.ticket r.width (r.place.map (fun pa => (w.tile, pa))) (!r.quiet) none 0)
    (if r.quiet then r.dest.toList else [])
  s.sendLong w 1 (if r.ticket = 0 then some 8 else none)
    (.present r.ticket (s.tile w.tile).part (s.tile w.tile).place id r.quiet (if r.ticket = 0 then some 1 else none))
    (if r.quiet then r.status.toList else [])

/-- A trapping redeem is held in issue until its answer comes (R244). -/
def State.startHold (s : State) (w : Who) (r : RedeemReq) : State :=
  (s.sendRedeem w r).modStrand w (fun x =>
    { x with park := none, hold := some { ticket := r.ticket, redeem := s.nextId, dest := r.dest, next := s.cur.next, bump := r.bump } })

/-- What a waiting bundle leaves behind; a waiting pop takes its place on its port (R219). -/
def State.leave (s : State) (w : Who) (k : Wait) : State :=
  match k.note with
  | none => if k.kind = 3 ∨ k.kind = 15 then s.queueUp w k.index else s
  | some (.redeem r) => s.startHold w r
  | some (.select ps) => ps.foldl (fun a p => a.queueUp w p) s
  | some (.miss m) => s.joinMerge w m
  | some (.acquire req) => s.enroll w req
  | some (.fuse d) => s.postFuse w d
  | some .nothing => s
  | some (.sweep a b) => s.sweepOver w a b

/-- The first wait of each strand in a list: a park has one kind, that of the scalar half where both halves wait (R106). -/
def firstWaits : List Who → List (Who × Wait) → List (Who × Wait)
  | _, [] => []
  | seen, e :: r => if seen.contains e.1 then firstWaits seen r else e :: firstWaits (e.1 :: seen) r

/-- Members park; those whose park has lasted too long raise WAIT_TIMEOUT instead. Each half that waits leaves what it leaves behind,
and the park of a strand goes on once (R18, R199). -/
def State.parkAll (s : State) (ms : List Who) (ks : List (Who × Wait)) : State :=
  let parks := firstWaits [] (ks.filter (fun e => e.2.kind != 16))
  let late := parks.filter (fun e => (s.strand e.1).timedOut ((s.strand e.1).parkOn e.2))
  match late with
  | [] =>
    parks.foldl (fun (a : State) e => a.modStrand e.1 (fun x => { x with park := some (x.parkOn e.2) }))
      (ks.foldl (fun (a : State) e => a.leave e.1 e.2) s)
  | _ =>
    s.raise ms (late.map (fun e =>
      (e.1, { code := .waitTimeout, info := timeoutInfo e.2 ((s.strand e.1).parkOn e.2).cycles })))

/-- The parts of a bundle in the order in which they act: member by member, the scalar half first. -/
def parts (ms : List Who) (hs : List Half) : List (Who × Half) := ms.flatMap (fun w => hs.map (fun h => (w, h)))

/-- Run the parts in order; a part whose waiting condition fails is noted and has no effect (R19). Each member is masked
by its own mask (R64; DEDUCED, assumption 17). -/
def attempt (pre : State) : List (Who × Half) → State → List (Who × Wait) × State
  | [], cur => ([], cur)
  | (w, h) :: r, cur =>
    if h.idle pre w then attempt pre r cur
    else
      match h.waitAt pre cur w with
      | some k =>
        let (ks, c) := attempt pre r cur
        ((w, k) :: ks, c)
      | none => attempt pre r (h.effect pre cur w)

/-- The causes that the members of a bundle raise in one step. -/
def causesOf (ms : List Who) (f : Who → Option Cause) : List (Who × Cause) :=
  ms.filterMap (fun w => (f w).map (fun c => (w, c)))

/-- The state as the checks of the second half see it: the first half's sources are popped (R19 rule 3). -/
def State.afterPops (s : State) (w : Who) (l : List Src) : State :=
  l.foldl (fun (a : State) r =>
    match r.loc with
    | .q i => (List.range r.items).foldl (fun (b : State) _ => (b.pop1 w i).2) a
    | _ => a) s

/-- The halves of a bundle with the state that their operands are examined in: the vector half sees the queues as the scalar half's
pops leave them (R19 rule 3). -/
def views (hs : List Half) (s : State) (w : Who) : List (Half × State) :=
  match hs with
  | [a, b] => [(a, s), (b, if a.idle s w then s else s.afterPops w a.srcs)]
  | _ => hs.map (fun h => (h, s))

/-- The distinct units of a bundle on a member (R139). -/
def unitsOf (hs : List Half) (s : State) (w : Who) : List Nat :=
  ((views hs s w).flatMap (fun e => if e.1.idle s w then [] else e.1.units e.2 w)).dedup

/-- The scratchpad accesses of a bundle on a member (R395). -/
def accsOf (hs : List Half) (s : State) (w : Who) : List Acc :=
  (views hs s w).flatMap (fun e => if e.1.idle s w then [] else e.1.accs e.2 w)

/-- The accesses of a bundle in a bank (R12). -/
def inBank (us : List Nat) (b : Nat) : Nat := (us.filter (fun u => decide (bankOf (64 * u) = b))).length

/-- The largest count of accesses in any one bank (R12, R139). -/
def conflict (us : List Nat) : Nat := Nat.max (inBank us 0) (Nat.max (inBank us 1) (inBank us 2))

/-- Each bank is held for as many cycles as the bundle has accesses in it (R162). -/
def State.holdBanks (s : State) (w : Who) (us : List Nat) : State :=
  s.modTile w.tile (fun t =>
    { t with bankHeld := (List.range 3).map (fun b => Nat.max (t.bankHeld.getD b 0) (s.now w.tile + inBank us b)) })

/-- The strand goes on behind the bundle, out of its park, with its SR draws made (R27, R121). -/
def State.advance (s : State) (w : Who) (hs : List Half) : State :=
  let n := (hs.map (fun h => h.draws s w)).sum
  s.modStrand w (fun x =>
    { x with ip := s.cur.next, park := none, ignoreOnce := false, xfault := none, mwait := none, rndSeed := drawState n x.rndSeed })

/-- The first byte of an access that a watchpoint watches (R395). -/
def Tile.hit (t : Tile) (n : Nat) (a : Acc) : Option Nat :=
  let b := FMap.get 0 t.wpBase n
  let m := FMap.get 0 t.wpMask n
  if (bitAt b 32 && a.load) || (bitAt b 33 && a.store) then
    ((List.range a.n).map (a.pa + ·)).find? (fun x => x / 64 == fieldNat b 6 14 && bitAt m (x % 64))
  else none

/-- The lowest watchpoint that an access strikes, with the first matching byte (R395). -/
def Tile.strikes (t : Tile) (a : Acc) : Option (Nat × Nat) :=
  (List.range 4).findSome? (fun n => (t.hit n a).map (fun x => (n, x)))

/-- TRAP_INFO of WATCHPOINT (R396). -/
def watchInfo (addr n : Nat) (write : Bool) (ip : Word) : Word :=
  BitVec.ofNat 64 (addr % 2 ^ 20 + n * 2 ^ 20 + natOfBool write * 2 ^ 22 + ip.toNat % 65536 * 2 ^ 24)

/-- A WATCH record: watchpoint j, the strand, the engine id or 0xFF (R390, R396). -/
def State.watchRec (s : State) (t j strand engine : Nat) (write : Bool) (w1 : Nat) (w2 : Word) : State :=
  s.traceRec t (BitVec.ofNat 64 (6 + j * 16 + strand % 8 * 512 + engine % 256 * 2 ^ 32 + natOfBool write * 2 ^ 40))
    (BitVec.ofNat 64 w1) w2

/-- The strike of a watchpoint on the bytes of one access: the first matching byte, and whether it struck as a store (R395). -/
def Tile.hitOf (t : Tile) (l : List Acc) (n : Nat) : Option (Nat × Nat × Bool) :=
  l.findSome? (fun a => (t.hit n a).map (fun x => (n, x, a.store && bitAt (FMap.get 0 t.wpBase n) 33)))

/-- The strike of one access: that of the lowest watchpoint that it strikes (R395). -/
def Tile.strikeOf (t : Tile) (l : List Acc) : Option (Nat × Nat × Bool) := (List.range 4).findSome? (t.hitOf l)

/-- A list of bytes cut into accesses (R395). -/
def groupAccs : List Acc → List (List Acc)
  | [] => []
  | a :: r =>
    match groupAccs r with
    | (b :: g) :: l => if b.more then (a :: b :: g) :: l else [a] :: (b :: g) :: l
    | l => [a] :: l

/-- The strikes of a bundle's accesses, one of each access that strikes (R390, R395, assumption 99). -/
def Tile.strikesOf (t : Tile) (l : List Acc) : List (Nat × Nat × Bool) := (groupAccs l).filterMap t.strikeOf

/-- A committed bundle's strikes are recorded, and they are taken before the strand's next bundle (R396, R397). -/
def State.watch (pre cur : State) (hs : List Half) (w : Who) : State :=
  if (pre.strand w).ignoreOnce then cur
  else
    match (pre.tile w.tile).strikesOf (accsOf hs pre w) with
    | [] => cur
    | l =>
      (l.foldl (fun (a : State) e =>
        a.watchRec w.tile e.1 w.strand 0xFF e.2.2 (e.2.1 % 2 ^ 20) (BitVec.ofNat 64 (fieldNat pre.cur.ip 0 16))) cur).modStrand w
        (fun y => { y with struck := l.map (fun e => watchInfo e.2.1 e.1 e.2.2 pre.cur.ip) })

/-- A bundle commits: consumed slots of a bank conflict fall on every member (R12, R199). -/
def commit (pre cur : State) (ms : List Who) (hs : List Half) : State :=
  let cur := ms.foldl (fun a w => (State.watch pre a hs w).settleStreams w) cur
  let k := (ms.map (fun w => conflict (unitsOf hs pre w))).foldl Nat.max 0
  if k = 0 then cur
  else
    ms.foldl (fun (a : State) w =>
      (a.holdBanks w (unitsOf hs pre w)).modStrand w (fun x => { x with skip := k - 1 })) cur

/-- The first attempt of an MWAIT leaves the completion count that it finds, whatever holds its bundle back (R272). -/
def State.attempted (s : State) (l : List (Who × Half)) : State :=
  l.foldl (fun (a : State) e =>
    match if e.2.idle s e.1 then none else e.2.counts s e.1 with
    | some n => a.modStrand e.1 (fun x => { x with mwait := some (x.mwait.getD n) })
    | none => a) s

/-- Issue a bundle of the strand State.cur names, on every member of its gang or on none (R19, R199). -/
def issue (hs : List Half) (s : State) : State :=
  let ms := s.members s.cur.who
  if s.gangHeld ms then s
  else
    let c1 := causesOf ms (fun w => firstCause (firstStep hs s w))
    if !c1.isEmpty then s.raise ms c1
    else
      let c2 := causesOf ms (fun w => firstCause (
        match hs with
        | [a, b] => [a.emptySource [] s w, b.emptySource (if a.idle s w then [] else a.srcs) s w]
        | _ => hs.map (fun h => h.emptySource [] s w)))
      if !c2.isEmpty then s.raise ms c2
      else
        let k2 := (parts ms hs).filterMap (fun e => (e.2.sourceWait s e.1).map (fun k => (e.1, k)))
        if !k2.isEmpty then s.parkAll ms k2
        else
          let c3 := causesOf ms (fun w => firstCause (
            (views hs s w).map (fun e => e.1.own e.2 w)))
          if !c3.isEmpty then s.raise ms c3
          else
            let (ks, cur) := attempt s (parts ms hs) (ms.foldl (fun a w => a.advance w hs) s)
            if !ks.isEmpty then (s.attempted (parts ms hs)).parkAll ms ks
            else if ms.any (fun w => (unitsOf hs s w).any (fun u => (s.tile w.tile).bankTaken.contains (bankOf (64 * u)))) then
              ms.foldl (fun (a : State) w => a.modStrand w Strand.loseSlot) (s.attempted (parts ms hs))
            else commit s cur ms hs

/-- A bundle of one half, as Dispatch runs it. -/
def run1 (h : Half) (s : State) : Host.Outcome State Fault Refusal := .next (issue [h] s)

/-- A bundle of two halves. -/
def run2 (a b : Half) (s : State) : Host.Outcome State Fault Refusal := .next (issue [a, b] s)

end Sys2Proof.Machine

namespace Sys2Proof
open Machine

/-- Source a of an L tail. -/
def LTail.srcA (t : LTail) : Src := { loc := sLoc t.fa t.a, trap := t.ta }

/-- Source b of an L tail. -/
def LTail.srcB (t : LTail) : Src := { loc := sLoc t.fb t.b, trap := t.tb, isB := true }

/-- The destination of an L tail. -/
def LTail.dst (t : LTail) : Loc := sLoc t.fd t.d

/-- Source a of a W tail. -/
def WTail.srcA (t : WTail) : Src := { loc := sLoc t.fa t.a, trap := t.ta }

/-- A sign-extended imm32 (R59). -/
def WTail.simm (t : WTail) : Word := t.imm.signExtend 64

/-- Bit i of the sub field. -/
def LTail.bit (t : LTail) (i : Nat) : Bool := bitAt t.sub i

/-- Bit i of the sub field. -/
def WTail.bit (t : WTail) (i : Nat) : Bool := bitAt t.sub i

end Sys2Proof
end

