-- ==== Sys2Proof/Machine/ScalarAlu.lean ====
section
/-!
DEFINITION. The scalar integer family: arithmetic, logic, comparison, selection, bit fields, addresses and pointer
registers (R69 to R84).
-/
namespace Sys2Proof.Machine

/-! ### Operands of the scalar family (R69, R70) -/

/-- The traps of n pops in a row through one q register (R219, R223). -/
def State.popsFault (s : State) (w : Who) (q : Nat) : Nat → Option Cause
  | 0 => none
  | n + 1 =>
    match firstCause [s.popFault w q, s.beaconFault w q] with
    | some c => some c
    | none => (s.pop1 w q).2.popsFault w q n

/-- The traps of a list of sources, in order: those of their pops. -/
def State.srcsFault (s : State) (w : Who) : List Src → Option Cause
  | [] => none
  | r :: rs =>
    match r.loc with
    | .q i =>
      match s.popsFault w i r.items with
      | some c => some c
      | none => ((List.range r.items).foldl (fun (a : State) _ => (a.pop1 w i).2) s).srcsFault w rs
    | _ => s.srcsFault w rs

/-- The traps of a push destination (R217). -/
def State.dstFault (s : State) (w : Who) : Loc → Option Cause
  | .q i => s.pushFault w i
  | _ => none

/-- The waiting condition of a list of sources, in order: their pops (R70, R134). -/
def State.srcsWait (s : State) (w : Who) : List Src → Option Wait × State
  | [] => (none, s)
  | r :: rs =>
    match r.loc with
    | .q i =>
      match s.popWait w i none r.items with
      | some k => (some { kind := k, index := ((s.qbind w i).map (·.port)).getD 0 }, s)
      | none => ((List.range r.items).foldl (fun (a : State) _ => (a.pop1 w i).2) s).srcsWait w rs
    | _ => s.srcsWait w rs

/-- The waiting condition of a push destination of n items (R70, R134, R217). -/
def State.dstWait (s : State) (w : Who) (l : Loc) (n : Nat) : Option Wait :=
  match l with
  | .q i => (s.pushWait w i n).map (fun k => { kind := k, index := ((s.qbind w i).map (·.port)).getD 0 })
  | _ => none

/-- The waiting condition of sources and then a destination. -/
def ioWait (cur : State) (w : Who) (srcs : List Src) (d : Loc) (n : Nat) : Option Wait :=
  match cur.srcsWait w srcs with
  | (some k, _) => some k
  | (none, s) => s.dstWait w d n

/-- Take scalar sources in order (R19 rule 2, R70). -/
def takeScalars (pre cur : State) (w : Who) : List Src → List Word × State
  | [] => ([], cur)
  | r :: rs =>
    let (x, c1) := takeScalar pre cur w r.loc
    let (xs, c2) := takeScalars pre c1 w rs
    (x :: xs, c2)

/-- An operand that is a queue. -/
def Loc.isQ : Loc → Bool
  | .q _ => true
  | _ => false

/-- The push destination is a system queue and the strand is at user level (R67). -/
def State.dstPrivileged (s : State) (w : Who) : Loc → Bool
  | .q i => s.pushPrivileged w i
  | _ => false

/-- A SHORT scalar instruction that computes one result from its sources (R14, R69). -/
def shortHalf (k : BitVec 3) (srcs : List Src) (d : Loc) (f : State → Who → List Word → Word) : Half :=
  { mask := k.toNat, srcs := srcs, dests := [d]
    privileged := fun s w => s.dstPrivileged w d
    traps := fun s w => firstCause [s.srcsFault w srcs, s.dstFault w d]
    waits := fun _ cur w => ioWait cur w srcs d 1
    memory := d.isQ || srcs.any (fun r => r.loc.isQ)
    effect := fun pre cur w =>
      let (xs, cur) := takeScalars pre cur w srcs
      cur.putScalar w d (f pre w xs) }

/-- A LONG scalar instruction whose result is computed from its sources at issue and arrives between lo and hi
cycles later (R14). -/
def longHalf (k : BitVec 3) (srcs : List Src) (d : Loc) (lo hi : Nat) (f : State → Who → List Word → Word) : Half :=
  { mask := k.toNat, srcs := srcs, dests := [d]
    traps := fun s w => s.srcsFault w srcs
    waits := fun _ cur w => ioWait cur w srcs .none 1
    memory := srcs.any (fun r => r.loc.isQ)
    effect := fun pre cur w =>
      let (xs, cur) := takeScalars pre cur w srcs
      cur.sendLong w lo (some hi) (.long [.s (f pre w xs)]) (d.ref w).toList }

/-- The first of a list of operand values. -/
def x0 (xs : List Word) : Word := xs.getD 0 0

/-- The second of a list of operand values. -/
def x1 (xs : List Word) : Word := xs.getD 1 0

/-! ### Arithmetic and logic -/

/-- The two-source operations of R72. -/
inductive AluOp where
  | add | sub | mul | and | or | xor | andn | shl | shr | sar | rot | min | max | minu | maxu
  deriving DecidableEq, Repr

/-- A shift or rotate by c, which is below the width (R72). -/
def AluOp.shift {n : Nat} (op : AluOp) (x : BitVec n) (c : Nat) : BitVec n :=
  match op with
  | .shl => x <<< c
  | .shr => x >>> c
  | .sar => x.sshiftRight c
  | _ => x.rotateLeft c

/-- The result of a two-source operation on n bits (R72). -/
def AluOp.run {n : Nat} (op : AluOp) (x y : BitVec n) : BitVec n :=
  match op with
  | .add => x + y
  | .sub => x - y
  | .mul => x * y
  | .and => x &&& y
  | .or => x ||| y
  | .xor => x ^^^ y
  | .andn => x &&& ~~~y
  | .min => if x.slt y then x else y
  | .max => if x.slt y then y else x
  | .minu => if x.ult y then x else y
  | .maxu => if x.ult y then y else x
  | .shl => AluOp.shift .shl x (y.toNat % n)
  | .shr => AluOp.shift .shr x (y.toNat % n)
  | .sar => AluOp.shift .sar x (y.toNat % n)
  | .rot => AluOp.shift .rot x (y.toNat % n)

/-- An operation at width 64, or with .w at width 32 with the result sign-extended (R71). -/
def atWidth (w : Bool) (f : {n : Nat} → BitVec n → BitVec n → BitVec n) (x y : Word) : Word :=
  if w then (f (x.setWidth 32) (y.setWidth 32)).signExtend 64 else f x y

/-- A two-source operation: sub 0 is the 64-bit form and sub 1 is .w (R72). -/
def hAlu (op : AluOp) (t : LTail) : Half :=
  shortHalf t.k [t.srcA, t.srcB] t.dst (fun _ _ xs => atWidth (t.bit 0) op.run (x0 xs) (x1 xs))

/-- MULH: the high 64 bits of the product; sub 1 is .u and sub 2 is .su (R73). -/
def mulHigh (sub : Nat) (x y : Word) : Word :=
  let a : Int := if sub = 1 then x.toNat else x.toInt
  let b : Int := if sub = 0 then y.toInt else y.toNat
  BitVec.ofInt 64 (a * b / 2 ^ 64)

/-- MULH (R73). -/
def hMulh (t : LTail) : Half :=
  shortHalf t.k [t.srcA, t.srcB] t.dst (fun _ _ xs => mulHigh t.sub.toNat (x0 xs) (x1 xs))

/-- Quotient or remainder of n bits (R74): division by zero gives all ones and the dividend; the one signed overflow
gives the dividend and zero; the quotient is truncated toward zero. -/
def divRem (rem signed : Bool) {n : Nat} (x y : BitVec n) : BitVec n :=
  if y = 0 then (if rem then x else BitVec.allOnes n)
  else if signed then
    if x = BitVec.intMin n ∧ y = BitVec.allOnes n then (if rem then 0 else x)
    else (if rem then x.srem y else x.sdiv y)
  else (if rem then x % y else x / y)

/-- DIV and REM: sub 0 signed, 1 .u, 2 .w, 3 .uw; LONG, 12 to 40 cycles (R74). -/
def hDivRem (rem : Bool) (t : LTail) : Half :=
  longHalf t.k [t.srcA, t.srcB] t.dst 12 40 (fun _ _ xs =>
    atWidth (t.bit 1) (divRem rem (!t.bit 0)) (x0 xs) (x1 xs))

/-- Zeros above the highest one of the low n bits; n for zero (R75). -/
def countLead (x : Nat) : Nat → Nat
  | 0 => 0
  | n + 1 => if x.testBit n then 0 else 1 + countLead x n

/-- Zeros below the lowest one among n bits from bit i; n for zero (R75). -/
def countTrail (x : Nat) : Nat → Nat → Nat
  | _, 0 => 0
  | i, n + 1 => if x.testBit i then 0 else 1 + countTrail x (i + 1) n

/-- Ones among the low n bits (R75). -/
def countOnes (x : Nat) : Nat → Nat
  | 0 => 0
  | n + 1 => natOfBool (x.testBit n) + countOnes x n

/-- The low n bytes in reverse order (R75). -/
def reverseBytes (x : Nat) : Nat → Nat
  | 0 => 0
  | n + 1 => x % 256 * 256 ^ n + reverseBytes (x / 256) n

/-- The one-source operations (R75). -/
inductive BitOp where
  | clz | ctz | popc | bswap
  deriving DecidableEq, Repr

/-- A one-source operation on n bits (R75). -/
def BitOp.run (op : BitOp) {n : Nat} (x : BitVec n) : BitVec n :=
  match op with
  | .clz => BitVec.ofNat n (countLead x.toNat n)
  | .ctz => BitVec.ofNat n (countTrail x.toNat 0 n)
  | .popc => BitVec.ofNat n (countOnes x.toNat n)
  | .bswap => BitVec.ofNat n (reverseBytes x.toNat (n / 8))

/-- CLZ, CTZ, POPC, BSWAP (R75). -/
def hBits (op : BitOp) (t : LTail) : Half :=
  shortHalf t.k [t.srcA] t.dst (fun _ _ xs => atWidth (t.bit 0) (fun x _ => op.run x) (x0 xs) 0)

/-! ### Moves -/

/-- MOV: the value of a to d (R76). -/
def hMov (t : LTail) : Half := shortHalf t.k [t.srcA] t.dst (fun _ _ xs => x0 xs)

/-- Set a register EMPTY; its value stays, and g0 and k0 are not changed (R37, R76). -/
def State.emptyLoc (s : State) (w : Who) (l : Loc) : State :=
  match l.ref w with
  | none => s
  | some r => s.markReg r .empty

/-- MOV.E (R76). -/
def hMovE (t : LTail) : Half :=
  { mask := t.k.toNat, dests := [t.dst], effect := fun _ cur w => cur.emptyLoc w t.dst }

/-- MOVI: the sign-extended imm48 (R77). -/
def hMovi (t : XTail) : Half :=
  shortHalf 0 [] (.g t.d.toNat) (fun _ _ _ => t.imm.signExtend 64)

/-! ### Immediate forms -/

/-- ADDI (R78). -/
def hAddi (t : WTail) : Half :=
  shortHalf t.k [t.srcA] (.g t.d.toNat) (fun _ _ xs => atWidth (t.bit 0) (AluOp.run .add) (x0 xs) t.simm)

/-- The logic operations of LOGI by sub [1:0] (R78). -/
def logiOp (n : Nat) : AluOp := match n with | 0 => .and | 1 => .or | 2 => .xor | _ => .andn

/-- LOGI: sub [1:0] the operation, sub [2] .w (R78). -/
def hLogi (t : WTail) : Half :=
  shortHalf t.k [t.srcA] (.g t.d.toNat) (fun _ _ xs =>
    atWidth (t.bit 2) (AluOp.run (logiOp (fieldNat t.sub 0 2))) (x0 xs) t.simm)

/-- The shifts of SHI by sub [1:0] (R78). -/
def shiOp (n : Nat) : AluOp := match n with | 0 => .shl | 1 => .shr | 2 => .sar | _ => .rot

/-- SHI: sub [1:0] the operation, sub [2] .w, imm [5:0] the count (R78). -/
def hShi (t : WTail) : Half :=
  shortHalf t.k [t.srcA] (.g t.d.toNat) (fun _ _ xs =>
    atWidth (t.bit 2) (fun x _ => AluOp.shift (shiOp (fieldNat t.sub 0 2)) x (fieldNat t.imm 0 6)) (x0 xs) 0)

/-! ### Comparison and selection -/

/-- A comparison's result: 1 for a g, c or q destination and all ones for a k destination (R80). -/
def cmpValue (d : Loc) (r : Bool) : Word :=
  if r then (match d with | .k _ => 0xFFFFFFFF | _ => 1) else 0

/-- Compare at width 64, or with .w at width 32 (R80). -/
def compare (w : Bool) (code : Nat) (x y : Word) : Bool :=
  if w then cond code (x.setWidth 32) (y.setWidth 32) else cond code x y

/-- CMP: sub [2:0] the condition, sub [3] .w (R80). -/
def hCmp (t : LTail) : Half :=
  shortHalf t.k [t.srcA, t.srcB] t.dst (fun _ _ xs =>
    cmpValue t.dst (compare (t.bit 3) (fieldNat t.sub 0 3) (x0 xs) (x1 xs)))

/-- CMPI (R80). -/
def hCmpi (t : WTail) : Half :=
  shortHalf t.k [t.srcA] (.g t.d.toNat) (fun _ _ xs =>
    cmpValue (.g t.d.toNat) (compare (t.bit 3) (fieldNat t.sub 0 3) (x0 xs) t.simm))

/-- SEL: the k field selects and does not mask; an EMPTY selector parks (R81). -/
def hSel (t : LTail) : Half :=
  shortHalf 0 [t.srcA, t.srcB, { loc := .k t.k.toNat }] t.dst (fun _ _ xs =>
    if bitAt (xs.getD 2 0) 0 then x0 xs else x1 xs)

/-! ### Bit fields and addresses -/

/-- The bits [lo+w-1:lo] of a word, sign-extended from the field's top bit if asked (R82). -/
def extract (signed : Bool) (x : Word) (lo w : Nat) : Word :=
  let v := fieldNat x lo w
  if signed && decide (2 ^ (w - 1) ≤ v) then BitVec.ofInt 64 ((v : Int) - 2 ^ w) else BitVec.ofNat 64 v

/-- EXT: imm [5:0] lo, imm [11:6] w - 1; sub 1 is .s (R82). -/
def hExt (t : WTail) : Half :=
  shortHalf t.k [t.srcA] (.g t.d.toNat) (fun _ _ xs =>
    extract (t.bit 0) (x0 xs) (fieldNat t.imm 0 6) (fieldNat t.imm 6 6 + 1))

/-- INS: the field of d is replaced by the low bits of a; d is read (R82). -/
def hIns (t : WTail) : Half :=
  shortHalf t.k [t.srcA, { loc := .g t.d.toNat, isB := true }] (.g t.d.toNat) (fun _ _ xs =>
    putField (x1 xs) (fieldNat t.imm 0 6) (fieldNat t.imm 6 6 + 1) (x0 xs).toNat)

/-- LEA: a + (b << s), or a + (imm << s) in the W form (R83). -/
def hLea : LWTail → Half
  | .l t => shortHalf t.k [t.srcA, t.srcB] t.dst (fun _ _ xs => x0 xs + x1 xs <<< fieldNat t.sub 0 3)
  | .w t => shortHalf t.k [t.srcA] (.g t.d.toNat) (fun _ _ xs => x0 xs + t.simm <<< fieldNat t.sub 0 3)

/-! ### Pointer registers -/

/-- A SHORT instruction that writes pointer register i from its old value and its sources (R84). -/
def pointerHalf (k : BitVec 3) (i : Nat) (srcs : List Src) (f : Ptr → List Word → Ptr) : Half :=
  { mask := k.toNat, srcs := srcs, dests := [.p i]
    effect := fun pre cur w =>
      let (xs, cur) := takeScalars pre cur w srcs
      cur.modStrand w (fun x => x.writeP i (f ((pre.strand w).readP i) xs)) }

/-- PSET: address and stride from the image in a, or from the immediate (R84). -/
def hPset : LWTail → Half
  | .l t => pointerHalf t.k t.d.toNat [t.srcA] (fun _ xs =>
      { addr := (x0 xs).setWidth 20, stride := (x0 xs).extractLsb' 32 16 })
  | .w t => pointerHalf t.k t.d.toNat [] (fun _ _ =>
      { addr := t.imm.setWidth 20, stride := (t.imm.extractLsb' 20 12).signExtend 16 })

/-- PADD: the address moves by the immediate, modulo 2^20 (R84). -/
def hPadd (t : WTail) : Half :=
  { pointerHalf t.k t.d.toNat [] (fun p _ => { p with addr := p.addr + t.simm.setWidth 20, bad := false }) with
    readsToo := [.p t.d.toNat] }

/-- PADD.ST: the stride (R84). DESIGN CHOICE: this write of a part of the register ends a parity error (R49, assumption 121). -/
def hPaddSt (t : WTail) : Half :=
  pointerHalf t.k t.d.toNat [] (fun p _ => { p with stride := t.imm.setWidth 16, bad := false })

/-- PGET: the image of pN (R84). -/
def hPget (t : LTail) : Half :=
  shortHalf t.k [t.srcA] t.dst (fun s w _ => ((s.strand w).readP (t.a.toNat - 8)).image)

/-! ### Meanings -/
-- BEGIN
/-- R76: S form: writes the value of a to d. -/
def execMov (t : STail) (s : State) : Host.Outcome State Fault Refusal := run1 (hMov t.toL) s

/-- R76: L form of MOV, reaching c, q and k files. -/
def execMovL (t : LTail) (s : State) : Host.Outcome State Fault Refusal := run1 (hMov t) s

/-- R76: S form: sets d EMPTY and leaves its value unchanged. -/
def execMovE (t : STail) (s : State) : Host.Outcome State Fault Refusal := run1 (hMovE t.toL) s

/-- R76: L form of MOV.E, reaching c and k destinations. -/
def execMovEL (t : LTail) (s : State) : Host.Outcome State Fault Refusal := run1 (hMovE t) s

/-- R77: Writes the sign-extended 48-bit immediate to a g register. -/
def execMovi (t : XTail) (s : State) : Host.Outcome State Fault Refusal := run1 (hMovi t) s

/-- R72: S form: writes a + b modulo 2^n. -/
def execAdd (t : STail) (s : State) : Host.Outcome State Fault Refusal := run1 (hAlu .add t.toL) s

/-- R72: L form of ADD with file codes and mask. -/
def execAddL (t : LTail) (s : State) : Host.Outcome State Fault Refusal := run1 (hAlu .add t) s

/-- R72: S form: writes a - b modulo 2^n. -/
def execSub (t : STail) (s : State) : Host.Outcome State Fault Refusal := run1 (hAlu .sub t.toL) s

/-- R72: L form of SUB. -/
def execSubL (t : LTail) (s : State) : Host.Outcome State Fault Refusal := run1 (hAlu .sub t) s

/-- R72: S form: writes the low n bits of a × b. -/
def execMul (t : STail) (s : State) : Host.Outcome State Fault Refusal := run1 (hAlu .mul t.toL) s

/-- R72: L form of MUL. -/
def execMulL (t : LTail) (s : State) : Host.Outcome State Fault Refusal := run1 (hAlu .mul t) s

/-- R72: S form: bitwise AND. -/
def execAnd (t : STail) (s : State) : Host.Outcome State Fault Refusal := run1 (hAlu .and t.toL) s

/-- R72: L form of AND. -/
def execAndL (t : LTail) (s : State) : Host.Outcome State Fault Refusal := run1 (hAlu .and t) s

/-- R72: S form: bitwise OR. -/
def execOr (t : STail) (s : State) : Host.Outcome State Fault Refusal := run1 (hAlu .or t.toL) s

/-- R72: L form of OR. -/
def execOrL (t : LTail) (s : State) : Host.Outcome State Fault Refusal := run1 (hAlu .or t) s

/-- R72: S form: bitwise XOR. -/
def execXor (t : STail) (s : State) : Host.Outcome State Fault Refusal := run1 (hAlu .xor t.toL) s

/-- R72: L form of XOR. -/
def execXorL (t : LTail) (s : State) : Host.Outcome State Fault Refusal := run1 (hAlu .xor t) s

/-- R72: S form: a AND NOT b. -/
def execAndn (t : STail) (s : State) : Host.Outcome State Fault Refusal := run1 (hAlu .andn t.toL) s

/-- R72: L form of ANDN. -/
def execAndnL (t : LTail) (s : State) : Host.Outcome State Fault Refusal := run1 (hAlu .andn t) s

/-- R72: S form: shift left by b mod n. -/
def execShl (t : STail) (s : State) : Host.Outcome State Fault Refusal := run1 (hAlu .shl t.toL) s

/-- R72: L form of SHL. -/
def execShlL (t : LTail) (s : State) : Host.Outcome State Fault Refusal := run1 (hAlu .shl t) s

/-- R72: S form: logical shift right. -/
def execShr (t : STail) (s : State) : Host.Outcome State Fault Refusal := run1 (hAlu .shr t.toL) s

/-- R72: L form of SHR. -/
def execShrL (t : LTail) (s : State) : Host.Outcome State Fault Refusal := run1 (hAlu .shr t) s

/-- R72: S form: arithmetic shift right. -/
def execSar (t : STail) (s : State) : Host.Outcome State Fault Refusal := run1 (hAlu .sar t.toL) s

/-- R72: L form of SAR. -/
def execSarL (t : LTail) (s : State) : Host.Outcome State Fault Refusal := run1 (hAlu .sar t) s

/-- R72: S form: rotate left. -/
def execRot (t : STail) (s : State) : Host.Outcome State Fault Refusal := run1 (hAlu .rot t.toL) s

/-- R72: L form of ROT. -/
def execRotL (t : LTail) (s : State) : Host.Outcome State Fault Refusal := run1 (hAlu .rot t) s

/-- R72: S form: signed minimum. -/
def execMin (t : STail) (s : State) : Host.Outcome State Fault Refusal := run1 (hAlu .min t.toL) s

/-- R72: L form of MIN. -/
def execMinL (t : LTail) (s : State) : Host.Outcome State Fault Refusal := run1 (hAlu .min t) s

/-- R72: S form: signed maximum. -/
def execMax (t : STail) (s : State) : Host.Outcome State Fault Refusal := run1 (hAlu .max t.toL) s

/-- R72: L form of MAX. -/
def execMaxL (t : LTail) (s : State) : Host.Outcome State Fault Refusal := run1 (hAlu .max t) s

/-- R72: S form: unsigned minimum. -/
def execMinu (t : STail) (s : State) : Host.Outcome State Fault Refusal := run1 (hAlu .minu t.toL) s

/-- R72: L form of MINU. -/
def execMinuL (t : LTail) (s : State) : Host.Outcome State Fault Refusal := run1 (hAlu .minu t) s

/-- R72: S form: unsigned maximum. -/
def execMaxu (t : STail) (s : State) : Host.Outcome State Fault Refusal := run1 (hAlu .maxu t.toL) s

/-- R72: L form of MAXU. -/
def execMaxuL (t : LTail) (s : State) : Host.Outcome State Fault Refusal := run1 (hAlu .maxu t) s

/-- R73: S form: writes the high 64 bits of the 128-bit product. -/
def execMulh (t : STail) (s : State) : Host.Outcome State Fault Refusal := run1 (hMulh t.toL) s

/-- R73: L form of MULH. -/
def execMulhL (t : LTail) (s : State) : Host.Outcome State Fault Refusal := run1 (hMulh t) s

/-- R74: S form: LONG division whose quotient arrives 12–40 cycles later. -/
def execDiv (t : STail) (s : State) : Host.Outcome State Fault Refusal := run1 (hDivRem false t.toL) s

/-- R74: L form of DIV. -/
def execDivL (t : LTail) (s : State) : Host.Outcome State Fault Refusal := run1 (hDivRem false t) s

/-- R74: S form: LONG remainder arriving 12–40 cycles later. -/
def execRem (t : STail) (s : State) : Host.Outcome State Fault Refusal := run1 (hDivRem true t.toL) s

/-- R74: L form of REM. -/
def execRemL (t : LTail) (s : State) : Host.Outcome State Fault Refusal := run1 (hDivRem true t) s

/-- R78: Writes a + sign-extended imm32 to a g register. -/
def execAddi (t : WTail) (s : State) : Host.Outcome State Fault Refusal := run1 (hAddi t) s

/-- R78: Shift or rotate by an immediate count. -/
def execShi (t : WTail) (s : State) : Host.Outcome State Fault Refusal := run1 (hShi t) s

/-- R78: AND, OR, XOR or ANDN with a sign-extended immediate. -/
def execLogi (t : WTail) (s : State) : Host.Outcome State Fault Refusal := run1 (hLogi t) s

/-- R75: S form: counts leading zeros. -/
def execClz (t : STail) (s : State) : Host.Outcome State Fault Refusal := run1 (hBits .clz t.toL) s

/-- R75: L form of CLZ. -/
def execClzL (t : LTail) (s : State) : Host.Outcome State Fault Refusal := run1 (hBits .clz t) s

/-- R75: S form: counts trailing zeros. -/
def execCtz (t : STail) (s : State) : Host.Outcome State Fault Refusal := run1 (hBits .ctz t.toL) s

/-- R75: L form of CTZ. -/
def execCtzL (t : LTail) (s : State) : Host.Outcome State Fault Refusal := run1 (hBits .ctz t) s

/-- R75: S form: counts set bits. -/
def execPopc (t : STail) (s : State) : Host.Outcome State Fault Refusal := run1 (hBits .popc t.toL) s

/-- R75: L form of POPC. -/
def execPopcL (t : LTail) (s : State) : Host.Outcome State Fault Refusal := run1 (hBits .popc t) s

/-- R75: S form: reverses byte order. -/
def execBswap (t : STail) (s : State) : Host.Outcome State Fault Refusal := run1 (hBits .bswap t.toL) s

/-- R75: L form of BSWAP. -/
def execBswapL (t : LTail) (s : State) : Host.Outcome State Fault Refusal := run1 (hBits .bswap t) s

/-- R81: Writes a or b according to bit 0 of the named k register. -/
def execSel (t : LTail) (s : State) : Host.Outcome State Fault Refusal := run1 (hSel t) s

/-- R80: S form: writes 1 or 0 by a condition on a and b. -/
def execCmp (t : STail) (s : State) : Host.Outcome State Fault Refusal := run1 (hCmp t.toL) s

/-- R80: L form of CMP, with .w and a k destination. -/
def execCmpL (t : LTail) (s : State) : Host.Outcome State Fault Refusal := run1 (hCmp t) s

/-- R80: Compares a with a sign-extended immediate. -/
def execCmpi (t : WTail) (s : State) : Host.Outcome State Fault Refusal := run1 (hCmpi t) s

/-- R82: Extracts a bit field, zero- or sign-extended. -/
def execExt (t : WTail) (s : State) : Host.Outcome State Fault Refusal := run1 (hExt t) s

/-- R82: Inserts the low bits of a into a field of d. -/
def execIns (t : WTail) (s : State) : Host.Outcome State Fault Refusal := run1 (hIns t) s

/-- R83: Forms a + (b or imm) << s without memory access. -/
def execLea (t : LWTail) (s : State) : Host.Outcome State Fault Refusal := run1 (hLea t) s

/-- R84: Writes a pointer register's address and stride. -/
def execPset (t : LWTail) (s : State) : Host.Outcome State Fault Refusal := run1 (hPset t) s

/-- R84: Adds an immediate to a pointer's address. -/
def execPadd (t : WTail) (s : State) : Host.Outcome State Fault Refusal := run1 (hPadd t) s

/-- R84: Sets a pointer's stride. -/
def execPaddSt (t : WTail) (s : State) : Host.Outcome State Fault Refusal := run1 (hPaddSt t) s

/-- R84: Reads a pointer register's 64-bit image. -/
def execPget (t : LTail) (s : State) : Host.Outcome State Fault Refusal := run1 (hPget t) s
-- END

end Sys2Proof.Machine
end

