-- ==== Sys2Proof/Machine/Control.lean ====
section
/-!
DEFINITION. Control transfer, the starting and stopping of strands, traps and returns, system registers, and the
encodings that are no instructions (R23, R25 to R28, R50 to R52, R67, R86 to R93, R95, R96, R101, R419).
-/
namespace Sys2Proof.Machine

/-! ### Transfers (R86 to R89) -/

/-- A transfer to a target with bit 0 set raises MISALIGNED with the target in TRAP_INFO (R26, R86). -/
def oddTarget (target : Option Word) : Option Cause :=
  match target with
  | none => none
  | some x => if bitAt x 0 then some { code := .misaligned, info := x } else none

/-- Go to a target, if there is one. -/
def State.goto (s : State) (w : Who) (target : Option Word) : State :=
  match target with
  | none => s
  | some x => s.modStrand w (fun y => { y with ip := x })

/-- A transfer of control: the target is a function of the state and of the gang's leader, whose values decide
(R86, R200). -/
def jumpHalf (k : BitVec 3) (srcs : List Src) (dests : List Loc) (target : State → Who → Option Word)
    (also : State → State → Who → State := fun _ cur _ => cur) : Half :=
  { mask := k.toNat, srcs := srcs, dests := dests
    traps := fun s w => oddTarget (target s (s.leader w))
    effect := fun pre cur w => (also pre cur w).goto w (target pre (pre.leader w)) }

/-- The IP of the bundle plus an immediate, modulo 2^64 (R59). -/
def State.relative (s : State) (imm : Word) : Word := s.cur.ip + imm

/-- The link: g15 receives the IP of the next bundle (R87). -/
def link (_pre cur : State) (w : Who) : State := cur.putG w 15 cur.cur.next

/-- J (R87). -/
def hJ (t : XTail) : Half := jumpHalf 0 [] [] (fun _ _ => some (t.imm.setWidth 64))

/-- CALL (R87). -/
def hCall (t : XTail) : Half := jumpHalf 0 [] [.g 15] (fun _ _ => some (t.imm.setWidth 64)) link

/-- JR (R87). -/
def hJr (t : LTail) : Half := jumpHalf t.k [t.srcA] [] (fun s w => some (s.scalar w t.srcA.loc))

/-- JR.L: a is read before g15 is written (R87). -/
def hJrLink (t : LTail) : Half := jumpHalf t.k [t.srcA] [.g 15] (fun s w => some (s.scalar w t.srcA.loc)) link

/-- RET (R87). -/
def hRet : Half := jumpHalf 0 [{ loc := .g 15 }] [] (fun s w => some (s.scalar w (.g 15)))

/-- BR: sub 0 to 5 compare d with a, sub 6 branches always (R88). -/
def hBr (t : WTail) : Half :=
  if t.sub = 6 then jumpHalf t.k [] [] (fun s _ => some (s.relative t.simm))
  else
    jumpHalf t.k [{ loc := .g t.d.toNat }, t.srcA] [] (fun s w =>
      if cond t.sub.toNat (s.scalar w (.g t.d.toNat)) (s.scalar w t.srcA.loc) then some (s.relative t.simm) else none)

/-- The value that a branch decides on: a register, or the item that a pop takes now; none while the pop waits (R69, R70). -/
def State.branchValue (s : State) (w : Who) (r : Src) : Option Word :=
  match r.loc with
  | .q i => if (s.srcsWait w [r]).1.isNone then some ((s.pop1 w i).1.word 0) else none
  | l => some (s.scalar w l)

/-- The target of BZ or BNZ, where it branches (R88). -/
def State.zeroTarget (s : State) (w : Who) (nz : Bool) (t : WTail) : Option Word :=
  match s.branchValue w t.srcA with
  | none => none
  | some x => if (x == 0) != nz then some (s.relative t.simm) else none

/-- BZ and BNZ: a may be a pop; every member of a gang pops, and the leader's value decides (R69, R88, R200). -/
def hBz (nz : Bool) (t : WTail) : Half :=
  { mask := t.k.toNat, srcs := [t.srcA]
    traps := fun s w => firstCause [s.srcsFault w [t.srcA], oddTarget (s.zeroTarget (s.leader w) nz t)]
    waits := fun _ cur w => ioWait cur w [t.srcA] .none 1
    memory := t.srcA.loc.isQ
    effect := fun pre cur w => (takeScalars pre cur w [t.srcA]).2.goto w (pre.zeroTarget (pre.leader w) nz t) }

/-- LOOP: a nonzero counter counts down, and the branch is taken while it stays nonzero; every member of a gang
counts its own down; a PENDING counter parks as a destination does (R17, R89, R200). -/
def hLoop (t : WTail) : Half :=
  let d := t.d.toNat
  { jumpHalf t.k [{ loc := .g d, isB := true }] [.g d]
      (fun s w => if s.scalar w (.g d) ≠ 0 ∧ s.scalar w (.g d) - 1 ≠ 0 then some (s.relative t.simm) else none)
      (fun pre cur w => if pre.scalar w (.g d) = 0 then cur else cur.putG w d (pre.scalar w (.g d) - 1)) with
    owedAsDest := true }

/-! ### Starting and stopping strands (R90 to R92) -/

/-- GANG_MISMATCH raised by the strand's own instruction (R107). -/
def gangMismatch (reason : Nat) (tile : Nat := 0) : Cause :=
  { code := .gangMismatch, info := BitVec.ofNat 64 (tile + reason * 2 ^ 60) }

/-- The default bindings of a starting strand: qN to port N where it is attached, N from 0 to 15 (R213). -/
def Tile.defaultBindings (t : Tile) : FMap QBinding :=
  (t.ports.filter (fun e => decide (e.1 < 16))).map (fun e => (e.1, { port := e.1 }))

/-- The new strand of a SPAWN (R91): its registers are zero and full but for g1. -/
def spawned (parent old : Strand) (t : Tile) (ip a : Word) (cycle : Nat) : Strand :=
  { running := true, startAt := cycle + 2, ip := ip, g := FMap.put {} [] 1 { val := a }, q := t.defaultBindings
    crewId := parent.crewId, system := parent.system, waitLimit := parent.waitLimit, rndSeed := old.rndSeed
    waking := if old.drowsy then some (cycle + 66) else none }

/-- SPAWN: strand n is d [2:0], a gives its g1 (R90). -/
def hSpawn (t : WTail) : Half :=
  let n := fieldNat t.d 0 3
  { mask := t.k.toNat, srcs := [t.srcA]
    illegal := fun _ w => n == w.strand
    traps := fun s w => if (s.strand w).fused then some (gangMismatch 8) else none
    waits := fun pre _ w => if (pre.strand ⟨w.tile, n⟩).running then some { kind := 13 } else none
    effect := fun pre cur w =>
      cur.setStrand ⟨w.tile, n⟩ (spawned (pre.strand w) (pre.strand ⟨w.tile, n⟩) (pre.tile w.tile)
        (pre.relative t.simm) (pre.scalar w t.srcA.loc) (pre.now w.tile)) }

/-- A crew without members retires (R184). -/
def State.retireIfEmpty (s : State) (t crew : Nat) : State :=
  if ((s.tile t).members crew).isEmpty then s.retireCrew t crew else s

/-- The stop of a strand at its STOP (R92, R196, R247). -/
def State.stopStrand (s : State) (w : Who) : State :=
  let crew := (s.strand w).crewId
  let s := s.freeBlocks w
  let s := s.modStrand w (fun x =>
    { x with running := false, crewId := 0xF, trapCause := x.trapCause &&& 0x7F, touched := s.now w.tile, drowsy := false })
  let s := if crew = 0xF then s.notify ⟨w.tile, false, w.strand⟩ else s.retireIfEmpty w.tile crew.toNat
  (s.wakeWaiters w.tile).noteStop w.tile

/-- STOP waits until no LONG result is owed to a register of the strand, with park kind 12 (R92). -/
def hStop : Half :=
  { traps := fun s w => if (s.strand w).fused then some (gangMismatch 8) else none
    waits := fun pre _ w => if (pre.strand w).owesNothing then none else some { kind := 12 }
    effect := fun _ cur w => cur.stopStrand w }

/-! ### Traps (R96, R101) -/

/-- TRAP_INFO of TRAP and BRK: the code and the IP of the next bundle (R96). -/
def softInfo (code : BitVec 32) (next : Word) : Word := putField (code.setWidth 64) 32 17 next.toNat

/-- TRAP (R96). -/
def hTrap (t : WTail) : Half :=
  { mask := t.k.toNat, traps := fun s _ => some { code := .software, info := softInfo t.imm s.cur.next } }

/-- BRK raises BREAKPOINT; after a RESUME with IGNORE_ONCE it acts as NOP (R96, R397). -/
def hBrk : Half :=
  { traps := fun s w =>
      if (s.strand w).ignoreOnce then none else some { code := .breakpoint, info := softInfo 0 s.cur.next } }

/-- TRET: outside a handler it raises ILLEGAL_OPCODE (R101); in a gang the leader's TRAP_PC decides (R200). -/
def hTret : Half :=
  { illegal := fun s w => !bitAt (s.strand w).trapCause 7
    effect := fun pre cur w =>
      cur.modStrand w (fun x => { x with ip := (pre.strand (pre.leader w)).trapPc, trapCause := x.trapCause &&& 0x7F }) }

/-- NOP and VNOP (R95, R66). -/
def hNop : Half := {}

/-- VNOP (R66). -/
def hVnop : Half := { vec := true, isNop := true }

/-! ### System registers (R50 to R52, R93) -/

/-- WS_PHASE: fabric cycles of the die modulo 32,768 (R3, R51). -/
def State.wsPhase (s : State) (d : Nat) : Nat := (s.die d).clock / 2 % 32768

/-- E_RGN: word 7 of the region control block of the region of the tile's placement; a tile without a placement reads what
it charges (R50, R402). -/
def State.eRgn (s : State) (t : Nat) : Word := s.rcb (s.regionOf t) 7

/-- A strand's crew. -/
def State.crewOf (s : State) (w : Who) : Option Crew := FMap.find (s.tile w.tile).crews (s.strand w).crewId.toNat

/-- The value of a system register by its number (R50, R51). -/
def State.sysRead (s : State) (w : Who) (n : Nat) : Word :=
  let x := s.strand w
  match n with
  | 0x000 => BitVec.ofNat 64 (w.tile % 2048)
  | 0x001 => BitVec.ofNat 64 (w.strand % 8)
  | 0x002 => x.crewId.setWidth 64
  | 0x003 => x.gangShape.setWidth 64
  | 0x004 => if x.system then 1 else 0
  | 0x008 => BitVec.ofNat 64 (s.tcyc w.tile)
  | 0x010 => x.waitLimit.setWidth 64
  | 0x018 => x.trapCause.setWidth 64
  | 0x019 => x.trapPc
  | 0x01A => x.trapInfo
  | 0x01B => s.trapVec w
  | 0x01C => match s.crewOf w with | none => 0 | some c => c.reportQ.seen (s.now w.tile)
  | 0x020 => x.rndSeed
  | 0x028 => BitVec.ofNat 64 (s.wsPhase (dieOf w.tile))
  | 0x030 => (s.die (dieOf w.tile)).pwrStep.setWidth 64
  | 0x031 => s.eRgn w.tile
  | 0x032 => (s.tile w.tile).eTile
  | _ =>
    if 0x040 ≤ n ∧ n < 0x044 then FMap.get 0 (s.tile w.tile).wpBase (n - 0x040)
    else if 0x044 ≤ n ∧ n < 0x048 then FMap.get 0 (s.tile w.tile).wpMask (n - 0x044)
    else 0

/-- SRD (R93). -/
def hSrd (t : WTail) : Half :=
  shortHalf t.k [] (.g t.d.toNat) (fun s w _ => s.sysRead w (fieldNat t.imm 0 12))

/-- Registers that a user strand may only read: TRAP_CAUSE, TRAP_INFO and the watchpoints (R50, R52). -/
def systemOnly (n : Nat) : Bool := n == 0x018 || n == 0x01A || decide (0x040 ≤ n)

/-- The bits of WP_BASE that exist (R395). -/
def wpBaseMask : Word := 0x00000007000FFFC0

/-- Write a system register that has no behaviour of its own (R52, R93). -/
def State.sysWrite (s : State) (w : Who) (n : Nat) (x : Word) : State :=
  match n with
  | 0x018 => s.modStrand w (fun y => { y with trapCause := x.setWidth 8 })
  | 0x019 => s.modStrand w (fun y => { y with trapPc := x })
  | 0x01A => s.modStrand w (fun y => { y with trapInfo := x })
  | _ =>
    if 0x040 ≤ n ∧ n < 0x044 then
      s.modTile w.tile (fun t => { t with wpBase := FMap.put 0 t.wpBase (n - 0x040) (x &&& wpBaseMask) })
    else if 0x044 ≤ n ∧ n < 0x048 then
      s.modTile w.tile (fun t => { t with wpMask := FMap.put 0 t.wpMask (n - 0x044) x })
    else s

/-- A SWR that writes by f. -/
def swrHalf (t : WTail) (traps : State → Who → Option Cause) (f : State → Who → Word → State) : Half :=
  { mask := t.k.toNat, srcs := [t.srcA], traps := traps
    effect := fun pre cur w => f cur w (pre.scalar w t.srcA.loc) }

/-- SWR of a register without behaviour of its own; PRIVILEGED at user level where the user may only read (R52). -/
def hSwr (t : WTail) : Half :=
  let n := fieldNat t.imm 0 12
  { swrHalf t (fun _ _ => none) (fun s w x => s.sysWrite w n x) with
    privileged := fun s w => systemOnly n && !(s.strand w).system }

/-- SWR of RND_SEED: 0 stores 1 (R52). -/
def hSwrRndSeed (t : WTail) : Half :=
  swrHalf t (fun _ _ => none) (fun s w x => s.modStrand w (fun y => { y with rndSeed := if x = 0 then 1 else x }))

/-- Change the crew of a strand; a strand without a crew changes nothing (R51). -/
def State.modCrew (s : State) (w : Who) (f : Crew → Crew) : State :=
  s.modTile w.tile (fun t =>
    match FMap.find t.crews (s.strand w).crewId.toNat with
    | none => t
    | some c => { t with crews := FMap.set t.crews (s.strand w).crewId.toNat (f c) })

/-- SWR of WAIT_LIMIT (R93). -/
def hSwrWaitLimit (t : WTail) : Half :=
  swrHalf t (fun _ _ => none) (fun s w x => s.modStrand w (fun y => { y with waitLimit := x.setWidth 32 }))

/-- SWR of TRAP_VEC; without a crew it is ignored (R46, R51). -/
def hSwrTrapVec (t : WTail) : Half :=
  swrHalf t (fun _ _ => none) (fun s w x => s.modCrew w (fun c => { c with trapVec := c.trapVec.write (s.now w.tile) x }))

/-- SWR of REPORT_Q: a queue outside the strand's partition raises ACCESS_DENIED; without a crew it is ignored
(R51, R52). -/
def hSwrReportQ (t : WTail) : Half :=
  swrHalf t
    (fun s w =>
      let x := s.scalar w t.srcA.loc
      if (s.crewOf w).isSome && bitAt x 16 &&
          ((FMap.find s.queues (fieldNat x 0 16)).isNone || (s.queue (fieldNat x 0 16)).part != (s.tile w.tile).part) then
        some { code := .accessDenied, info := Config.reportQInfo x }
      else none)
    (fun s w x => s.modCrew w (fun c => { c with reportQ := c.reportQ.write (s.now w.tile) (BitVec.ofNat 64 (fieldNat x 0 17)) }))

/-! ### Encodings that are no instructions, and lines that fail -/

/-- A half whose encoding is no instruction (R23, R67). -/
def hIllegal (head : BitVec 16) : Half := { vec := head.getLsbD 13, illegal := fun _ _ => true }

/-- A bundle that holds an encoding that is no instruction comes to issue and raises ILLEGAL_OPCODE (R67, R68). -/
def execIllegalOpcode (head : BitVec 16) (tail : BitVec 48) (s : State) : Host.Outcome State Fault Refusal :=
  run1 (hIllegal head) { s with cur := { s.cur with sWord := instrWord head tail, vWord := instrWord head tail } }

/-- A fetch that fails: ILLEGAL_LINE with the IP at which the strand entered and the head index (R25 to R28, R419);
in a gang it is the leader's fetch, and a gang that is held fetches nothing (R199, R204, R207). -/
def execIllegalLine (w : Who) (ip : Word) (head : Nat) (s : State) : Host.Outcome State Fault Refusal :=
  if s.gangHeld (s.members w) then .next s
  else
    .next (({ s with cur := { s.cur with who := w, ip := ip } }).raise (s.members w)
      [(w, { code := .illegalLine, info := BitVec.ofNat 64 (head % 32) })])

/-- The park of a strand one slot longer, where it exceeds WAIT_LIMIT (R18). -/
def Strand.overdue (x : Strand) : Option Park :=
  match x.park with
  | none => none
  | some p =>
    let q := { p with cycles := p.cycles + 8 }
    if x.running && !x.dying && x.timedOut q then some q else none

/-- WAIT_TIMEOUT: at the slot the park of some member of the bundle exceeds WAIT_LIMIT, and each such member raises the trap
(R18, R203). A slot takes this trap itself when it finds that the bundle still waits, in State.parkAll. -/
def execWaitTimeout (w : Who) (s : State) : Host.Outcome State Fault Refusal :=
  let ms := s.members w
  if s.gangHeld ms then .next s
  else
    let late := causesOf ms (fun m => (s.strand m).overdue.map (fun p =>
      { code := .waitTimeout, info := timeoutInfo { kind := p.kind, file := p.file, index := p.index } p.cycles }))
    if late.isEmpty then .next s
    else .next (({ s with cur := { s.cur with who := w, ip := (s.strand w).ip } }).raise ms late)

/-! ### Meanings -/
-- BEGIN
/-- R95: Does nothing and takes its slot. -/
def execNop (s : State) : Host.Outcome State Fault Refusal := run1 (hNop) s

/-- R87: Jumps to an absolute IP. -/
def execJ (t : XTail) (s : State) : Host.Outcome State Fault Refusal := run1 (hJ t) s

/-- R87: S form: jumps to the IP in a. -/
def execJr (t : STail) (s : State) : Host.Outcome State Fault Refusal := run1 (hJr t.toL) s

/-- R87: L form of JR, a in g or c. -/
def execJrLForm (t : LTail) (s : State) : Host.Outcome State Fault Refusal := run1 (hJr t) s

/-- R87: S form: writes the next IP to g15 and jumps to a. -/
def execJrLink (t : STail) (s : State) : Host.Outcome State Fault Refusal := run1 (hJrLink t.toL) s

/-- R87: L form of JR.L. -/
def execJrLinkLForm (t : LTail) (s : State) : Host.Outcome State Fault Refusal := run1 (hJrLink t) s

/-- R87: Writes the next IP to g15 and jumps to an absolute IP. -/
def execCall (t : XTail) (s : State) : Host.Outcome State Fault Refusal := run1 (hCall t) s

/-- R87: Jumps to the IP in g15. -/
def execRet (s : State) : Host.Outcome State Fault Refusal := run1 (hRet) s

/-- R88: Branches relative when a condition on d and a holds, or always. -/
def execBr (t : WTail) (s : State) : Host.Outcome State Fault Refusal := run1 (hBr t) s

/-- R88: Branches relative when a is zero. -/
def execBz (t : WTail) (s : State) : Host.Outcome State Fault Refusal := run1 (hBz false t) s

/-- R88: Branches relative when a is nonzero. -/
def execBnz (t : WTail) (s : State) : Host.Outcome State Fault Refusal := run1 (hBz true t) s

/-- R89: Decrements a nonzero counter and branches while it stays nonzero. -/
def execLoop (t : WTail) (s : State) : Host.Outcome State Fault Refusal := run1 (hLoop t) s

/-- R90: Waits until strand n is stopped, then starts it at a target with g1 set. -/
def execSpawn (t : WTail) (s : State) : Host.Outcome State Fault Refusal := run1 (hSpawn t) s

/-- R92: Waits for owed LONG results, then stops the strand, releasing its blocks and leaving its crew. -/
def execStop (s : State) : Host.Outcome State Fault Refusal := run1 (hStop) s

/-- R96: Raises SOFTWARE with an immediate code. -/
def execTrap (t : WTail) (s : State) : Host.Outcome State Fault Refusal := run1 (hTrap t) s

/-- R101: Returns from the handler to TRAP_PC and clears TRAP_CAUSE [7]. -/
def execTret (s : State) : Host.Outcome State Fault Refusal := run1 (hTret) s

/-- R96: Raises BREAKPOINT, or freezes the tile for a claiming debugger. -/
def execBrk (s : State) : Host.Outcome State Fault Refusal := run1 (hBrk) s

/-- R93: Reads a system register into a g register. -/
def execSrd (t : WTail) (s : State) : Host.Outcome State Fault Refusal := run1 (hSrd t) s

/-- R93: Writes a system register that has no behaviour of its own. -/
def execSwr (t : WTail) (s : State) : Host.Outcome State Fault Refusal := run1 (hSwr t) s

/-- R52: Writes RND_SEED, storing 1 for a value of 0. -/
def execSwrRndSeed (t : WTail) (s : State) : Host.Outcome State Fault Refusal := run1 (hSwrRndSeed t) s

/-- R52: Writes the crew's REPORT_Q, refusing a queue outside the partition. -/
def execSwrReportQ (t : WTail) (s : State) : Host.Outcome State Fault Refusal := run1 (hSwrReportQ t) s

/-- R46: Writes the crew's TRAP_VEC, visible to traps from two cycles later. -/
def execSwrTrapVec (t : WTail) (s : State) : Host.Outcome State Fault Refusal := run1 (hSwrTrapVec t) s

/-- R93: Writes WAIT_LIMIT, applying from the next slot to parks in progress. -/
def execSwrWaitLimit (t : WTail) (s : State) : Host.Outcome State Fault Refusal := run1 (hSwrWaitLimit t) s

/-- R154: Vector no-operation. -/
def execVnop (s : State) : Host.Outcome State Fault Refusal := run1 (hVnop) s
-- END

end Sys2Proof.Machine
end

