-- ==== Sys2Proof/Machine/Memory.lean ====
section
/-!
DEFINITION. Scalar memory access: local loads and stores, tagged words, global and remote access, atomics, the
mirror pair, remote register access, FENCE, and the arrival of what these send (R94, R158 to R178, R302, R320, R321).
-/
namespace Sys2Proof.Machine

/-! ### Addresses -/

/-- The base operand of an address. -/
def baseOf : LWTail → Src
  | .l t => t.srcA
  | .w t => t.srcA

/-- The offset that the W form adds. -/
def offOf : LWTail → Word
  | .l _ => 0
  | .w t => t.simm

/-- The mask register. -/
def maskOf : LWTail → BitVec 3
  | .l t => t.k
  | .w t => t.k

/-- A bit of the sub field. -/
def subBit (i : Nat) : LWTail → Bool
  | .l t => t.bit i
  | .w t => t.bit i

/-- The size of an access by sub [1:0] (R168). -/
def sizeOf4 : LWTail → Nat
  | .l t => 2 ^ fieldNat t.sub 0 2
  | .w t => 2 ^ fieldNat t.sub 0 2

/-- The pointer that a local access post-increments: sub [3] of the L form (R165). -/
def postOf : LWTail → List Loc
  | .l t =>
    match sLoc t.fa t.a with
    | .p n => if t.bit 3 then [.m n true] else []
    | _ => []
  | .w _ => []

/-- The local effective address (R158, R165). -/
def State.localEa (s : State) (w : Who) (t : LWTail) : Nat := (s.scalar w (baseOf t).loc + offOf t).toNat % 2 ^ 20

/-- The global effective address (R169). -/
def State.globalEa (s : State) (w : Who) (t : LWTail) : Nat := (s.scalar w (baseOf t).loc + offOf t).toNat

/-- Where a load puts its value. -/
def dstOf : LWTail → Loc
  | .l t => t.dst
  | .w t => .g t.d.toNat

/-- Where a store takes its data: b, or in the W form the g register d (R168). -/
def dataOf : LWTail → Src
  | .l t => t.srcB
  | .w t => { loc := .g t.d.toNat }

/-- The scope of a tagged access: sub [6:4], DIE in the W form (R165). -/
def scopeOf : LWTail → Nat
  | .l t => fieldNat t.sub 4 3
  | .w _ => 3

/-- TRAP_INFO of UNCORRECTABLE for a memory word: structure, window bit, address (R107). -/
def eccInfo (structure_ addr : Nat) : Word :=
  BitVec.ofNat 64 (structure_ + addr / 2 ^ 56 % 2 * 128 + addr / 8 * 8 % 2 ^ 56 * 256)

/-- UNCORRECTABLE in memory has placement reach (R97, R408). -/
def eccCause (structure_ addr unit word : Nat) : Cause :=
  { code := .uncorrectable, info := eccInfo structure_ addr, placement := true, detail := BitVec.ofNat 64 addr, unit := unit, word := word }

/-- The checks of a local access: alignment, R158, poison for a read or a narrow write (R161, R168, R408). -/
def State.localFault (s : State) (w : Who) (x n kind : Nat) (readsWord : Bool) : Option Cause :=
  if x % n ≠ 0 then some { code := .misaligned, info := addrInfo x kind }
  else
    match s.localDenied w x n with
    | some y => some { code := .accessDenied, info := addrInfo y kind }
    | none =>
      if readsWord && (s.tile w.tile).poisoned (s.phys w x) n then some (eccCause 1 x w.tile (s.phys w x / 8)) else none

/-- The units of one local access (R162). -/
def State.localUnit (s : State) (w : Who) (x : Nat) : List Nat := [s.phys w x / 64]

/-- Sign- or zero-extend n bytes to 64 bits (R168). -/
def extendBytes (unsigned : Bool) (n v : Nat) : Word :=
  if unsigned then BitVec.ofNat 64 v
  else
    let b := 8 * n
    if 2 ^ (b - 1) ≤ v then BitVec.ofInt 64 ((v : Int) - 2 ^ b) else BitVec.ofNat 64 v

/-! ### What a strand has outstanding (R313, R321) -/

/-- A load or the load part of a read-modify-write (R302). -/
def AccOp.reads : AccOp → Bool
  | .load _ => true
  | .amo _ _ => true
  | .cas _ _ => true
  | .tagQ => true
  | _ => false

/-- A store or the store part of a read-modify-write (R302). -/
def AccOp.writes : AccOp → Bool
  | .load _ => false
  | .tagQ => false
  | _ => true

/-- The memory events of a flight that are not performed: loads, stores, binds, engine commands with their writes (R302, R313).
-/
def Kind.events : Kind → Bool × Bool × Bool × Bool
  | .access op _ _ _ _ => (op.reads, op.writes, false, false)
  | .redeem _ _ (some _) _ _ _ => (false, true, false, false)
  | .strip _ _ ws => (ws.any (·.isNone), false, false, false)
  | .ldt _ _ _ _ _ _ _ _ => (false, false, true, false)
  | .fetch _ _ _ _ _ ws _ => (false, false, ws.any (·.isNone), false)
  | .command _ _ => (false, false, false, true)
  | .ewrite _ _ _ _ => (false, false, false, true)
  | _ => (false, false, false, false)

/-- The place of a flight in its strand's program order: a fetch stands where its request stood (R251, R318). -/
def Flight.order (f : Flight) : Nat :=
  match f.kind with
  | .fetch _ _ _ _ _ _ n => n
  | _ => f.id

/-- A store that is not performed is not performed at a scope either: at TILE scope one to the strand's own scratchpad, and one
that is a release itself, for the ordered outbound path of the tile carries the others; so at GANG scope for an unfused strand; at
DIE scope one to a target of the die, for the circuits carry the others; else every one. DEDUCED: the ordered path reaches the tile's
own agents only, so that at GANG scope a fused strand waits for all (R307, R308, R320, R321, assumption 102). -/
def State.storeDue (s : State) (w : Who) (scope : Nat) (f : Flight) : Bool :=
  let held := match f.kind with
    | .access _ _ _ rel _ => rel.isSome
    | _ => true
  let own := match f.kind with
    | .access _ (.tile t _) _ _ _ => t == w.tile
    | _ => false
  let near := match f.kind with
    | .access _ t _ _ _ => t.onDie == some (dieOf w.tile)
    | _ => false
  match scope with
  | 0 => false
  | 1 => held || own
  | 2 => held || own || (s.strand w).fused
  | 3 => held || near
  | _ => true

/-- What SYSTEM scope awaits beyond the package: the flits that no peer has acknowledged (R321, R414). -/
def State.limisOwes (s : State) : Bool := s.links.any (fun e => !e.2.retry.isEmpty)

/-- Some earlier event of the strand of a kind in the set is not performed at the scope: loads and binds shall be
bound; stores as storeDue says, and from DEVICE scope on the sweeps shall have returned; engine commands shall have
ended, their writes performed; the matrix path shall have read what it fills from and written what it drains (R260). before: only
flights with a smaller number count (R313, R321). -/
def State.unperformed (s : State) (w : Who) (r wr tb e : Bool) (scope before : Nat) : Bool :=
  s.flights.any (fun f =>
    let (a, b, c, d) := f.kind.events
    f.owner == w && decide (f.order < before) &&
      ((r && a) || (wr && b && s.storeDue w scope f) || (tb && c) || (e && d) ||
        ((wr || e) && decide (4 ≤ scope) && (match f.kind with | .sweep _ => true | _ => false)))) ||
    (s.tile w.tile).path.any (fun q =>
      q.who == w && decide (q.id < before) &&
        (match q.kind with
         | .fill _ _ _ _ => r
         | .drain _ _ _ _ _ => wr
         | .write _ _ _ _ _ => false)) ||
    (e && s.owesCommands w) || ((wr || e) && decide (scope = 5) && s.limisOwes)

/-- The circuits that a wait at DEVICE scope has to sweep: those of the strand's own accesses, and those of its engine commands
(R321). -/
def State.toSweep (s : State) (w : Who) (wr e : Bool) : List (Nat × Nat × Nat) :=
  (if wr then (s.strand w).circuits else []) ++ (if e then (s.strand w).engCircuits else [])

/-- The wait of kind 11 for earlier events of the strand, with stores or engine commands in the set for the sweeps of DEVICE scope, the
commands having ended (R313, R321). -/
def State.orderWait (s : State) (w : Who) (r wr tb e : Bool) (scope : Nat) : Option Wait :=
  if decide (4 ≤ scope) && !(s.toSweep w wr e).isEmpty && !(e && s.unperformed w false false false true scope s.nextId) then
    some { kind := 11, note := some (.sweep wr e) }
  else if s.unperformed w r wr tb e scope s.nextId then some { kind := 11 }
  else none

/-- A release waits for every earlier event of its strand (R314, R321). -/
def State.releaseWait (s : State) (w : Who) (scope : Nat) : Option Wait := s.orderWait w true true true false scope

/-- FENCE: scope in sub [2:0], the set R W T E in sub [6:3]; it waits with kind 11, and an empty set waits for
nothing (R94, R313). -/
def hFence (t : LTail) : Half :=
  { waits := fun pre _ w => pre.orderWait w (t.bit 3) (t.bit 4) (t.bit 5) (t.bit 6) (fieldNat t.sub 0 3)
    effect := fun pre cur w => if t.bit 4 then cur.showDie w (fieldNat t.sub 0 3) pre.nextId else cur }

/-! ### Local loads and stores (R168) -/

/-- Bump the post-incremented pointers of a list. -/
def State.bumps (s : State) (w : Who) (l : List Loc) : State := l.foldl (fun a x => a.bumpLoc w x) s

/-- LD (R168). -/
def hLd (t : LWTail) : Half :=
  let n := sizeOf4 t
  { mask := (maskOf t).toNat, srcs := [baseOf t], dests := dstOf t :: postOf t, memory := true
    privileged := fun s w => s.dstPrivileged w (dstOf t)
    traps := fun s w => firstCause [s.localFault w (s.localEa w t) n 0 true, s.dstFault w (dstOf t)]
    waits := fun _ cur w => cur.dstWait w (dstOf t) 1
    units := fun s w => s.localUnit w (s.localEa w t)
    accs := fun s w => [{ pa := s.phys w (s.localEa w t), n := n, load := true }]
    effect := fun pre cur w =>
      (cur.putScalar w (dstOf t) (extendBytes (subBit 2 t) n (pre.readLocal w (pre.localEa w t) n))).bumps w (postOf t) }

/-- ST (R168). -/
def hSt (t : LWTail) : Half :=
  let n := sizeOf4 t
  { mask := (maskOf t).toNat, srcs := [baseOf t, dataOf t], dests := postOf t, memory := true
    traps := fun s w => firstCause [s.localFault w (s.localEa w t) n 1 (decide (n < 8)), s.srcsFault w [dataOf t]]
    waits := fun _ cur w => ioWait cur w [dataOf t] .none 1
    units := fun s w => s.localUnit w (s.localEa w t)
    accs := fun s w => [{ pa := s.phys w (s.localEa w t), n := n, store := true }]
    effect := fun pre cur w =>
      let (x, cur) := takeScalar pre cur w (dataOf t).loc
      (storeLocal pre cur w (pre.localEa w t) n x.toNat).bumps w (postOf t) }

/-! ### Tagged words (R165 to R167) -/

/-- The tag of the word at a local address. -/
def State.localTag (s : State) (w : Who) (x : Nat) : Bool := (s.tile w.tile).tag (s.phys w x)

/-- Set the tag of the word at a local address. -/
def setLocalTag (pre cur : State) (w : Who) (x : Nat) (full : Bool) : State :=
  cur.modTile w.tile (fun t => t.setTag (pre.phys w x) full)

/-- LDF: waits with kind 7 while the tag is EMPTY; without .k it empties the tag (R165). -/
def hLdf (t : LWTail) : Half :=
  { mask := (maskOf t).toNat, srcs := [baseOf t], dests := dstOf t :: postOf t, memory := true
    privileged := fun s w => s.dstPrivileged w (dstOf t)
    traps := fun s w => firstCause [s.localFault w (s.localEa w t) 8 0 true, s.dstFault w (dstOf t)]
    waits := fun pre cur w =>
      if pre.localTag w (pre.localEa w t) then cur.dstWait w (dstOf t) 1 else some { kind := 7 }
    units := fun s w => s.localUnit w (s.localEa w t)
    accs := fun s w => [{ pa := s.phys w (s.localEa w t), n := 8, load := true }]
    effect := fun pre cur w =>
      let x := pre.localEa w t
      let s := cur.putScalar w (dstOf t) (BitVec.ofNat 64 (pre.readLocal w x 8))
      (if subBit 0 t then s else setLocalTag pre s w x false).bumps w (postOf t) }

/-- STE and STF on a local word: STE waits with kind 7 while the tag is FULL; both are releases at their scope (R166,
R314). -/
def hStTag (waitEmpty : Bool) (t : LWTail) : Half :=
  { mask := (maskOf t).toNat, srcs := [baseOf t, dataOf t], dests := postOf t, memory := true
    traps := fun s w => firstCause [s.localFault w (s.localEa w t) 8 1 false, s.srcsFault w [dataOf t]]
    waits := fun pre cur w =>
      if waitEmpty && pre.localTag w (pre.localEa w t) then some { kind := 7 }
      else (pre.releaseWait w (scopeOf t)).or (ioWait cur w [dataOf t] .none 1)
    units := fun s w => s.localUnit w (s.localEa w t)
    accs := fun s w => [{ pa := s.phys w (s.localEa w t), n := 8, store := true }]
    effect := fun pre cur w =>
      let (x, cur) := takeScalar pre cur w (dataOf t).loc
      let a := pre.localEa w t
      ((setLocalTag pre (storeLocal pre cur w a 8 x.toNat) w a true).bumps w (postOf t)).showDie w (scopeOf t) pre.nextId }

/-! ### Global access (R166, R167, R169 to R172) -/

/-- The trap of a global access, if the check raises one. DESIGN CHOICE: an ACCESS_DENIED of TAG.g outside every window has kind 1
(R161, R166, R167, assumption 123). -/
def State.globalFault (s : State) (w : Who) (va n kind : Nat) (windowOnly reads : Bool) : Option Cause :=
  if windowOnly && decide (va % n = 0) && !(decide (2 ^ 56 ≤ va) && decide (va < 2 ^ 56 + 2 ^ 31)) then some (denied va 1)
  else
    match s.checkGlobal w va n kind with
    | .bad c => some c
    | .miss _ => none
    | .ok t => if reads && s.targetBad t n then some (eccCause t.structure va (s.errKey t).1 (s.errKey t).2) else none

/-- The wait for a translation: kind 9 (R170). -/
def State.missWait (s : State) (w : Who) (va n kind : Nat) : Option Wait :=
  match s.checkGlobal w va n kind with
  | .miss k => some { kind := 9, note := some (.miss k) }
  | _ => none

/-- A global access of the strand: checked and translated at issue, then sent. mk gives the operation from the
operand values. -/
def globalHalf (t : LWTail) (n kind : Nat) (windowOnly : Bool) (extra : List Src) (dests : List Loc)
    (rel : Option Nat) (acq : Bool) (reads : Bool) (mk : State → Who → List Word → AccOp) : Half :=
  { mask := (maskOf t).toNat, srcs := baseOf t :: extra, dests := dests, memory := true
    traps := fun s w => firstCause [s.globalFault w (s.globalEa w t) n kind windowOnly reads, s.srcsFault w extra]
    waits := fun pre cur w =>
      match pre.missWait w (pre.globalEa w t) n kind with
      | some k => some k
      | none => ioWait cur w extra .none 1
    accs := fun s w =>
      match s.checkGlobal w (s.globalEa w t) n kind with
      | .ok (.tile tl off) =>
        if tl = w.tile ∧ kind ≠ 3 then
          [{ pa := (s.tile tl).winPhys off, n := n, load := kind != 1, store := kind != 0 }]
        else []
      | _ => []
    touch := fun s w =>
      match s.checkGlobal w (s.globalEa w t) n kind with
      | .ok (.tile tl off) =>
        if tl = w.tile ∧ kind = 3 then [{ pa := (s.tile tl).winPhys off, n := n, load := true, store := true, later := true }] else []
      | _ => []
    effect := fun pre cur w =>
      let (xs, cur) := takeScalars pre cur w extra
      match pre.checkGlobal w (pre.globalEa w t) n kind with
      | .ok tgt =>
        ((cur.sweepFor w (rel.getD 0)).noteCircuit w tgt).sendLong w 1 none (.access (mk pre w xs) tgt n rel acq)
          (dests.filterMap (fun l => l.ref w))
      | _ => cur }

/-- LDG (R169). -/
def hLdg (t : LWTail) : Half :=
  globalHalf t (sizeOf4 t) 0 false [] [.g (dstOf t).index] none (subBit 3 t) true (fun _ _ _ => .load (subBit 2 t))

/-- STG (R169). -/
def hStg (t : LWTail) : Half :=
  globalHalf t (sizeOf4 t) 1 false [dataOf t] [] (if subBit 3 t then some 4 else none) false (decide (sizeOf4 t < 8))
    (fun _ _ xs => .store (x0 xs).toNat)

/-- STF.G (R166). -/
def hStfG (t : LWTail) : Half :=
  globalHalf t 8 1 true [dataOf t] [] (some (scopeOf t)) false false (fun _ _ xs => .stf (x0 xs).toNat)

/-- STE.G: d receives 1 if the word was EMPTY and has been written, else 0 (R166). In the strand's own window it strikes a watchpoint
if its word is EMPTY as its bundle issues. DEDUCED: the strike is taken before the next bundle, when the store may not be performed
(R395, R396, assumption 99). -/
def hSteG (t : LWTail) : Half :=
  let h := globalHalf t 8 1 true [dataOf t] [.g (dstOf t).index] (some (scopeOf t)) false false (fun _ _ xs => .ste (x0 xs).toNat)
  { h with
    accs := fun s w => (h.accs s w).filter (fun a => !(s.tile w.tile).tag a.pa)
    touch := fun s w => ((h.accs s w).filter (fun a => (s.tile w.tile).tag a.pa)).map (fun a => { a with later := true }) }

/-- AMO: sub [3:0] the operation, [4] .w, [5] .aq, [6] .rl (R171). -/
def hAmo (t : LTail) : Half :=
  globalHalf (.l t) (if t.bit 4 then 4 else 8) 2 false [t.srcB] [t.dst] (if t.bit 6 then some 4 else none) (t.bit 5) true
    (fun _ _ xs => .amo (fieldNat t.sub 0 4) (x0 xs).toNat)

/-- The size of a CAS by sub [1:0]: 8, 4 or 2 bytes (R171). -/
def casSize (n : Nat) : Nat := match n with | 0 => 8 | 1 => 4 | _ => 2

/-- CAS: d is read as the expected value (R171). -/
def hCas (t : LTail) : Half :=
  globalHalf (.l t) (casSize (fieldNat t.sub 0 2)) 2 false [t.srcB, { loc := t.dst, isB := true }] [t.dst]
    (if t.bit 3 then some 4 else none) (t.bit 2) true
    (fun _ _ xs => .cas (x1 xs).toNat (x0 xs).toNat)

/-- The tile-window address of a local address (R167, R172): physical pages by their number, a mirror view by the
view. -/
def State.windowAddr (s : State) (w : Who) (x : Nat) : Word :=
  let off := if 0x60000 ≤ x ∧ x < 0x62000 then x else s.phys w x
  BitVec.ofNat 64 (2 ^ 56 + w.tile * 2 ^ 20 + off)

/-- A local TAG operation on a word; f makes its effect from the address (R167). -/
def tagHalf (t : LWTail) (n : Nat) (dests : List Loc) (unit : Bool)
    (f : State → State → Who → Nat → State) : Half :=
  { mask := (maskOf t).toNat, srcs := [baseOf t], dests := dests ++ postOf t, memory := unit
    privileged := fun s w => dests.any (fun d => s.dstPrivileged w d)
    traps := fun s w => firstCause (s.localFault w (s.localEa w t) n 3 false :: dests.map (fun d => s.dstFault w d))
    waits := fun _ cur w => dests.findSome? (fun d => cur.dstWait w d 1)
    units := fun s w => if unit then s.localUnit w (s.localEa w t) else []
    touch := fun s w =>
      if unit then [{ pa := s.phys w (s.localEa w t), n := 8, load := !dests.isEmpty, store := dests.isEmpty }] else []
    effect := fun pre cur w => (f pre cur w (pre.localEa w t)).bumps w (postOf t) }

/-- The .g bit of TAG: sub [2] (R167). -/
def tagRemote (t : LWTail) : Bool := subBit 2 t

/-- TAG.Q (R167). -/
def hTagQ (t : LWTail) : Half :=
  if tagRemote t then globalHalf t 8 3 true [] [dstOf t] none false false (fun _ _ _ => .tagQ)
  else tagHalf t 8 [dstOf t] true (fun pre cur w x => cur.putScalar w (dstOf t) (if pre.localTag w x then 1 else 0))

/-- TAG.E and TAG.F: the value is kept (R167). -/
def hTagSet (full : Bool) (t : LWTail) : Half :=
  if tagRemote t then globalHalf t 8 3 true [] [] none false false (fun _ _ _ => if full then .tagF else .tagE)
  else tagHalf t 8 [] true (fun pre cur w x => setLocalTag pre cur w x full)

/-- TAG.WA (R167). -/
def hTagWa (t : LWTail) : Half :=
  tagHalf t 1 [dstOf t] false (fun pre cur w x => cur.putScalar w (dstOf t) (pre.windowAddr w x))

/-! ### The mirror pair (R177, R178) -/

/-- A store of the strand to its own tile's mirror view that is not performed: an access, a delivery of RDMS, or a drain of the matrix
path (R178, R302). -/
def State.mirrorStores (s : State) (w : Who) : Bool :=
  s.flights.any (fun f =>
    f.owner == w &&
    (match f.kind with
     | .access op (.tile t off) _ _ _ => op.writes && t == w.tile && decide (0x60000 ≤ off)
     | .redeem _ _ (some (_, pa)) _ _ _ => pa / 4096 == 12 || pa / 4096 == 13
     | _ => false)) ||
  (s.tile w.tile).path.any (fun q =>
    q.who == w &&
    (match q.kind with
     | .drain _ _ _ _ _ => q.pages.any (fun e => e.2 == 12 || e.2 == 13)
     | _ => false))

/-- A request for a unit of a mirror view, which the flip turns over to the other page (R164, R177). -/
def State.flipRequest (s : State) (r : BankReq) : BankReq :=
  let mirrored := r.engine.isNone && (match (s.flight r.flight).map Flight.kind with
    | some (.access _ (.tile _ off) _ _ _) => decide (0x60000 ≤ off)
    | some (.fetch _ _ _ (.tile _ off) _ ws _) => decide (0x60000 ≤ off) && ws.any (·.isNone)
    | some (.host _ _ off) => decide (0x60000 ≤ off)
    | some (.strip _ va _) => decide (2 ^ 56 ≤ va) && decide (0x60000 ≤ va % 2 ^ 20)
    | some (.ewrite _ _ p _) => decide (0x60000 ≤ p.addr % 2 ^ 20) && decide (p.addr % 2 ^ 20 < 0x62000)
    | _ => false)
  if !mirrored then r
  else if r.unit / 64 = 12 then { r with unit := r.unit + 64 }
  else if r.unit / 64 = 13 then { r with unit := r.unit - 64 }
  else r

/-- MFLIP (R178). -/
def hMflip : Half :=
  { memory := false
    waits := fun pre _ w => if pre.mirrorStores w then some { kind := 11 } else none
    effect := fun _ cur w =>
      cur.modTile w.tile (fun t => { t with mirror := !t.mirror, bankQ := t.bankQ.map cur.flipRequest }) }

/-! ### Remote register access (R174 to R176) -/

/-- The register that a descriptor names; none where a check at the issuing tile fails (R174, R176). -/
def descReg (x : Word) : Option RegRef :=
  let t := fieldNat x 0 11
  let w : Who := ⟨t, fieldNat x 11 3⟩
  let i := fieldNat x 16 6
  if fieldNat x 22 42 ≠ 0 ∨ !validTile t then none
  else
    match fieldNat x 14 2 with
    | 0 => some (.g w i)
    | 1 => if i < 32 then some (.c t i) else none
    | 2 => if i < 8 then some (.k w i) else none
    | _ => none

/-- RFILL and RGET: a descriptor that fails its check answers DENIED within 8 cycles (R174, R176). -/
def remoteHalf (t : LTail) (extra : List Src) (denied : Word) (mk : List Word → RegRef → Kind) : Half :=
  { mask := t.k.toNat, srcs := t.srcA :: extra, dests := [t.dst], memory := extra.any (fun r => r.loc.isQ)
    traps := fun s w => s.srcsFault w extra
    waits := fun _ cur w => ioWait cur w extra .none 1
    effect := fun pre cur w =>
      let (xs, cur) := takeScalars pre cur w extra
      let ds := (t.dst.ref w).toList
      match descReg (pre.scalar w t.srcA.loc) with
      | none => cur.sendLong w 1 (some 8) (.long [.s denied]) ds
      | some r => cur.sendLong w 1 none (mk xs r) ds }

/-- RFILL: sub [0] .e (R174). -/
def hRfill (t : LTail) : Half := remoteHalf t [t.srcB] 2 (fun xs r => .rfill (t.bit 0) r (x0 xs))

/-- RGET: sub [0] .s, the status instead of the value (R174). -/
def hRget (t : LTail) : Half := remoteHalf t [] (if t.bit 0 then 2 else 0) (fun _ r => .rget (t.bit 0) r)

/-! ### What arrives -/

/-- The tile of a register. -/
def RegRef.tile : RegRef → Nat
  | .g w _ => w.tile
  | .c t _ => t
  | .k w _ => w.tile
  | .v w _ => w.tile

/-- The strand of a register; a common register has none. -/
def RegRef.who : RegRef → Option Who
  | .g w _ => some w
  | .c _ _ => none
  | .k w _ => some w
  | .v w _ => some w

/-- A register of the model as an operand location. -/
def RegRef.loc : RegRef → Loc
  | .g _ i => .g i
  | .c _ i => .c i
  | .k _ i => .k i
  | .v _ i => .v i

/-- The queue and the endpoint that a copy or a cancel travels to. -/
def Kind.endpoint : Kind → Option (Nat × Nat)
  | .item q e _ _ _ _ => some (q, e)
  | .cancel q e _ => some (q, e)
  | .command q _ => some (q, 0)
  | _ => none

/-- The bytes that an access reaches, or that a fetch has still to bind. -/
def Kind.touches : Kind → Option (Target × Nat)
  | .access _ t n _ _ => some (t, n)
  | .ldt _ t _ c _ _ _ _ => some (t, 8 * 2 ^ c)
  | .fetch _ _ _ t n ws _ => if ws.any (·.isNone) then some (t, n) else none
  | _ => none

/-- A request for a ticket. -/
def Kind.isLdt : Kind → Bool
  | .ldt _ _ _ _ _ _ _ _ => true
  | _ => false

/-- Two runs of bytes have a byte in common. -/
def overlap (a n b m : Nat) : Bool := decide (a < b + m) && decide (b < a + n)

/-- Two runs of bytes at spots have a byte in common. -/
def spotsMeet : Spot → Nat → Spot → Nat → Bool
  | .hbm a, n, .hbm b, m => overlap a n b m
  | .pad t a, n, .pad u b, m => t == u && overlap a n b m
  | .ws d a, n, .ws e b, m => d == e && overlap a n b m
  | .peer p a, n, .peer q b, m => p == q && overlap a n b m
  | _, _, _, _ => false

/-- The spot of a target. -/
def State.spotOf (s : State) : Target → Spot
  | .hbm pa => .hbm pa
  | .tile t off => .pad t ((s.tile t).winPhys off)
  | .ws d off => .ws d off
  | .peer p pa _ => .peer p pa

/-- The bytes that a flight reaches: those of an access, those that a fetch has still to bind, those that RDMS writes. -/
def State.reached (s : State) (k : Kind) : Option (Spot × Nat) :=
  match k with
  | .redeem _ n (some (t, pa)) _ _ _ => some (.pad t pa, n)
  | k => k.touches.map (fun r => (s.spotOf r.1, r.2))

/-- The target of a strip, once its page is in the translation cache (R291, R297). -/
def State.stripTarget (s : State) (f : Flight) (va : Nat) : Xlate :=
  s.checkEngine (s.rights f.owner) (dieOf f.owner.tile) va 0

/-- A flight waits for its turn: at a bank of a tile, or for a refresh to end. -/
def State.queued (s : State) (f : Flight) : Bool :=
  s.tiles.any (fun e => e.2.bankQ.any (fun r => r.flight == f.id && r.engine.isNone)) ||
    s.dies.any (fun e => e.2.refreshWait.contains f.id)

/-- A flight stands at its destination and has left the path: at a bank, at its register, at its source, or as a fetch (R43, R163,
R239). -/
def State.atTarget (s : State) (f : Flight) : Bool :=
  s.queued f || s.tiles.any (fun e => e.2.fills.contains f.id) ||
    (match f.kind with
     | .ldt src _ _ _ _ _ _ _ => (FMap.get {} s.sources src).waiting.contains f.id
     | .fetch _ _ _ _ _ _ _ => true
     | _ => false)

/-- The destination to which a queue's copies for an endpoint travel: the tile, or the engine of a CMD queue (R209, R283). -/
def State.endpointKey (s : State) (q e : Nat) : Option (Nat × Nat) :=
  ((s.queue q).eps[e]?).map (fun x => if (s.queue q).type = 2 then (4, x.1 % 256) else (1, x.1))

/-- The destination of a ticket's source. -/
def sourcePath (key : Nat) : Nat × Nat :=
  match key / 4096 with
  | 0 => (0, key % 4096)
  | 1 => (2, key % 4096)
  | _ => (1, key % 4096)

/-- The destination of a flight on its way there, for the order of R320; none on the way back. DEDUCED: a strip rides the outbound path
of its tile (R297, R307, assumption 102). -/
def State.pathKey (s : State) (f : Flight) : Option (Nat × Nat) :=
  match f.kind with
  | .strip _ va _ => match s.stripTarget f va with | .ok t => some t.key | _ => none
  | .access _ t _ _ _ => some t.key
  | .ldt _ t _ _ _ _ _ _ => some t.key
  | .rfill _ r _ => some (1, r.tile)
  | .rget _ r => some (1, r.tile)
  | .item q e _ _ _ _ => s.endpointKey q e
  | .cancel q e _ => s.endpointKey q e
  | .command q _ => s.endpointKey q 0
  | .present t _ _ _ _ none => some (sourcePath (fieldNat t 62 2 * 4096 + fieldNat t 50 12))
  | .query _ t _ _ => some (sourcePath (fieldNat t 62 2 * 4096 + fieldNat t 50 12))
  | _ => none

/-- Where a flight's path begins: its tile, for an engine the engine (R320). -/
def Flight.start (f : Flight) : Nat × Nat := (f.owner.tile, if f.owner.strand < 8 then 0 else f.owner.strand)

/-- The destination of a write of an engine. -/
def Spot.key : Spot → Nat × Nat
  | .hbm pa => (Target.hbm pa).key
  | .pad t _ => (1, t)
  | .ws d off => (Target.ws d off).key
  | .peer p _ => (3, p)

/-- The circuit that carries a flight to another die (R320). -/
def State.circuit (s : State) (f : Flight) : Option (Nat × Nat × Nat) :=
  match f.kind with
  | .ewrite e _ p _ => engineCircuit e p.spot.key
  | _ => (s.pathKey f).bind (if f.owner.strand < 8 then circuitFrom (dieOf f.owner.tile) f.owner.tile
      else engineCircuit (dieOf f.owner.tile * 64 + (f.owner.strand - 16)))

/-- A release that still waits for its strand's earlier events has not set out (R314). -/
def State.heldBack (s : State) (f : Flight) : Bool :=
  match f.kind with
  | .access _ _ _ (some scope) _ => s.unperformed f.owner true true true false scope f.id
  | .item q _ _ _ _ _ => s.unperformed f.owner true true true false (s.queue q).scope f.id
  | .command q _ => s.unperformed f.owner true true true false (s.queue q).scope f.id
  | _ => false

/-- Two flights ride one path: a start's traffic to one destination, or one circuit (R320). -/
def State.samePath (s : State) (g f : Flight) : Bool :=
  (g.start == f.start && (s.pathKey f).isSome && s.pathKey g == s.pathKey f) ||
    ((s.circuit f).isSome && s.circuit g == s.circuit f)

/-- Two events of one strand touch a common byte (R310, R318). A request for a ticket is no event: its binds are (R239, R318). -/
def State.sameBytes (s : State) (g f : Flight) : Bool :=
  g.owner == f.owner && !f.kind.isLdt &&
    (match s.reached g.kind, s.reached f.kind with
     | some q, some r => spotsMeet q.1 q.2 r.1 r.2
     | _, _ => false)

/-- An access loads. -/
def Kind.loads : Kind → Bool
  | .access op _ _ _ _ => op.reads
  | .fetch _ _ _ _ _ _ _ => true
  | .strip _ _ _ => true
  | _ => false

/-- The bytes of a store of a strand that has left the die and is performed at DIE scope, though its target has not seen it yet
(R308, R321). -/
def State.shownBytes (s : State) (g : Flight) : Option (Spot × Nat) :=
  match g.kind with
  | .access op t n _ _ =>
    if op.writes && t.onDie != some (dieOf g.owner.tile) && decide (g.id < (s.strand g.owner).dieShown) then some (s.spotOf t, n) else none
  | _ => none

/-- A load by an agent of a die behind such a store of that die to one of its bytes (R308). -/
def State.shownTo (s : State) (g f : Flight) : Bool :=
  f.kind.loads && dieOf f.owner.tile == dieOf g.owner.tile &&
    (match s.shownBytes g, f.kind with
     | some q, .strip _ va _ => (match s.stripTarget f va with | .ok t => spotsMeet q.1 q.2 (s.spotOf t) 128 | _ => false)
     | some q, k => (s.reached k).any (fun r => spotsMeet q.1 q.2 r.1 r.2)
     | none, _ => false)

/-- A request of an owner behind a retirement notice of that owner for the same source (R247). -/
def noticed (g f : Flight) : Bool :=
  match g.kind with
  | .retire o src => f.kind.requests o == some src
  | _ => false

/-- Two writes of one command have a byte in common (R288). -/
def sameWrite (g f : Flight) : Bool :=
  match g.kind, f.kind with
  | .ewrite e c p _, .ewrite e' c' p' _ => e == e' && c.num == c'.num && spotsMeet p.spot p.n p'.spot p'.n
  | _, _ => false

/-- Something earlier goes first: what rides the same path, unless it has not set out or has arrived (R320); the strand's own
accesses, binds and deliveries of the same bytes (R310, R318); a store that the die has been shown (R308); a producer's copies and cancels for the same endpoint (R218, R226); a notice of
the owner's retirement (R247); a write of the same command to the same bytes (R288). -/
def State.behind (s : State) (f : Flight) : Bool :=
  s.flights.any (fun g =>
    decide (g.order < f.order) &&
      ((s.samePath g f && !s.atTarget f && !s.atTarget g && !s.heldBack g) || s.sameBytes g f || s.shownTo g f ||
        noticed g f || sameWrite g f ||
        (g.owner == f.owner && f.kind.endpoint.isSome && g.kind.endpoint == f.kind.endpoint)))

/-- A weight-store bank is refreshing (R300). -/
def State.refreshing (s : State) (d bank : Nat) : Bool :=
  decide (((s.die d).clock / 2 + 32768 - 1024 * (bank % 32)) % 32768 < 256)

/-- The access or fetch meets a refreshing bank; a request for a ticket does not (R240, R300). -/
def State.refreshed (s : State) (f : Flight) : Bool :=
  match f.kind with
  | .ldt _ _ _ _ _ _ _ _ => false
  | k =>
    match k.touches with
    | some (.ws d off, _) => s.refreshing d (off / 128 % 32)
    | _ => false

/-- The number at which the stream of a register began (R297). -/
def State.streamSince (s : State) (w : Who) (reg : Nat) : Nat :=
  match FMap.find (s.strand w).streams reg with
  | none => 0
  | some x => x.since

/-- A link that is up leads to a package (R414). -/
def State.hasPath (s : State) (pkg : Nat) : Bool := s.links.any (fun e => e.2.up && e.2.peers.contains pkg)

/-- A target in another package has a path (R414). -/
def State.targetPath (s : State) : Target → Bool
  | .peer p _ _ => s.hasPath p
  | _ => true

/-- A flit goes out on a link that leads to a package; which link is open where there are several (R414, assumption 3). -/
def State.putFlit (s : State) (pkg : Nat) (data : BitVec 1024) : State :=
  let l := s.links.filter (fun e => e.2.up && e.2.peers.contains pkg)
  let (c, s) := s.choose l.length
  match l[c]? with
  | none => s
  | some (port, x) =>
    { s with links := FMap.set s.links port { x with retry := x.retry ++ [(x.nextSeq, pkg, data)], nextSeq := x.nextSeq + 1 }
             outbox := s.outbox ++ [.flit port x.nextSeq data] }

/-- A flit for a package, with content that is open (R414, assumption 8). -/
def State.sendFlit (s : State) (pkg : Nat) : State :=
  let data := BitVec.ofNat 1024 (leNat (fun i => byteOf (Config.freeWord (s.choices + i / 8)).toNat (i % 8)) 128)
  { s with choices := s.choices + 16 }.putFlit pkg data

/-- An access to another package goes out as a flit. -/
def State.flitTo (s : State) : Target → State
  | .peer p _ _ => s.sendFlit p
  | _ => s

/-- A sweep returns once every earlier access on its circuit is performed, after the strand's earlier events (R321). -/
def State.swept (s : State) (f : Flight) (c : Nat × Nat × Nat) : Bool :=
  !s.unperformed f.owner true true true false 3 f.id && !s.flights.any (fun g => decide (g.order < f.id) && s.circuit g == some c)

/-- A flight reaches its destination now: its time has come, nothing stands before it on its path, a link leads to its
package, a release follows its strand's earlier events, and a strip the accesses before its SBIND (R297, R314, R320, R414). -/
def State.arrived (s : State) (f : Flight) : Bool :=
  decide (f.lo ≤ (s.die f.die).clock) && !s.behind f && !s.heldBack f &&
    (match f.kind with
     | .access _ t _ _ _ => s.targetPath t
     | .ewrite _ _ p _ => (match p.spot with | .peer k _ => s.hasPath k | _ => true)
     | .strip r _ _ => !s.unperformed f.owner true true true false 4 (s.streamSince f.owner r)
     | .sweep c => s.swept f c
     | _ => true)

/-- A flight may take effect now: it has arrived, and its bank is not refreshing (R300). -/
def State.ready (s : State) (f : Flight) : Bool := s.arrived f && !s.refreshed f

/-- A read that meets a refreshing bank waits until the window ends (R300). -/
def State.awaitRefresh (s : State) (f : Flight) : State :=
  match f.kind.touches with
  | some (.ws d _, _) =>
    s.modDie d (fun x => { x with refreshWait := if x.refreshWait.contains f.id then x.refreshWait else x.refreshWait ++ [f.id] })
  | _ => s

/-- n bytes at a target; a peer's frame lies outside the package, and what it holds is open (assumption 8). -/
def State.readTarget (s : State) (t : Target) (n : Nat) : Nat :=
  match t with
  | .hbm pa => s.hbmRead pa n
  | .tile t off => leNat (fun i => (s.tile t).look ((s.tile t).winPhys (off + i))) n
  | .ws d off => leNat (fun i => FMap.get 0 (s.die d).ws (off + i)) n
  | .peer _ _ _ => (Config.freeWord s.choices).toNat % 256 ^ n

/-- What a peer's frame holds is open afresh at each read. -/
def State.afterRead (s : State) : Target → State
  | .peer _ _ _ => { s with choices := s.choices + 1 }
  | _ => s

/-- Write n bytes at a target; a peer's frame is not of this package. -/
def State.writeTarget (s : State) (t : Target) (n v : Nat) : State :=
  match t with
  | .hbm pa => s.hbmWrite pa v n
  | .tile t off =>
    s.modTile t (fun y =>
      let pa := y.winPhys off
      let y := (List.range n).foldl (fun (a : Tile) i => a.setByte (pa + i) (byteOf v i)) y
      if n = 8 then y.cleanse pa else y)
  | .ws _ _ => s
  | .peer _ _ _ => s

/-- The tag of the word at a target. -/
def State.targetTag (s : State) (t : Target) : Bool :=
  match t with
  | .tile t off => (s.tile t).tag ((s.tile t).winPhys off)
  | _ => true

/-- Set the tag of the word at a target. -/
def State.setTargetTag (s : State) (t : Target) (full : Bool) : State :=
  match t with
  | .tile t off => s.modTile t (fun y => y.setTag (y.winPhys off) full)
  | _ => s

/-- The atomic operations of AMO on n bits (R171). -/
def amoOp (op : Nat) {n : Nat} (x y : BitVec n) : BitVec n :=
  match op with
  | 0 => x + y
  | 1 => x &&& y
  | 2 => x ||| y
  | 3 => x ^^^ y
  | 4 => y
  | 5 => if x.slt y then x else y
  | 6 => if x.slt y then y else x
  | 7 => if x.ult y then x else y
  | _ => if x.ult y then y else x

/-- What an access does at its target: the new state and, where there is one, the value that returns (R165 to R171). -/
def State.perform (s : State) (op : AccOp) (t : Target) (n : Nat) : State × Option Word :=
  let old := s.readTarget t n
  let s := s.afterRead t
  match op with
  | .load u => (s, some (extendBytes u n old))
  | .store v => (s.writeTarget t n v, none)
  | .amo o v =>
    (s.writeTarget t n (amoOp o (BitVec.ofNat (8 * n) old) (BitVec.ofNat (8 * n) v)).toNat, some (extendBytes false n old))
  | .cas e v => (if old = e % 256 ^ n then s.writeTarget t n v else s, some (BitVec.ofNat 64 old))
  | .ste v =>
    if s.targetTag t then (s, some 0) else ((s.writeTarget t 8 v).setTargetTag t true, some 1)
  | .stf v => ((s.writeTarget t 8 v).setTargetTag t true, none)
  | .tagQ => (s, some (if s.targetTag t then 1 else 0))
  | .tagE => (s.setTargetTag t false, none)
  | .tagF => (s.setTargetTag t true, none)

/-- A WATCH record of another tile's access (R390, R396). -/
def State.remoteStrike (s : State) (w : Who) (t pa n : Nat) (load store : Bool) : State :=
  let a : Acc := { pa := pa, n := n, load := load, store := store }
  match (s.tile t).strikes a with
  | none => s
  | some (j, x) =>
    let write := store && bitAt (FMap.get 0 (s.tile t).wpBase j) 33
    (s.watchRec t j w.strand 0xFF write (x % 2 ^ 20 + w.tile % 2048 * 2 ^ 20 + 2 ^ 31) 0).strikeFreeze t j

/-- Part i of a run of n bytes from pa, cut at the multiples of 128 (R396). -/
def burst (pa n i : Nat) : Nat × Nat :=
  let lo := Nat.max pa (pa / 128 * 128 + 128 * i)
  (lo, Nat.min (pa + n) (pa / 128 * 128 + 128 * (i + 1)) - lo)

/-- The strikes of an engine, of the matrix path or of a delivery on a run of bytes: one record for each burst, written
after the burst; the skid is that of writes (R396). -/
def State.burstStrike (s : State) (t engine strand pa n : Nat) (write : Bool) (tag : Word) : State :=
  (List.range (n / 128 + 2)).foldl (fun (a : State) i =>
    let (lo, len) := burst pa n i
    match (a.tile t).strikes { pa := lo, n := len, load := !write, store := write } with
    | none => a
    | some (j, x) =>
      (a.watchRec t j strand engine write (x % 2 ^ 20 + (if write then lo + len - 1 - x else 0) * 2 ^ 32) tag).strikeFreeze t j) s

/-- Watchpoints see another tile's access; tag operations never strike, nor does an STE that finds its word FULL, for it touches no
byte's value. The tile's own accesses strike at their bundle (R166, R395, R396). -/
def State.strikeAccess (s : State) (f : Flight) (op : AccOp) (t : Target) (n : Nat) : State :=
  match t, op with
  | .tile _ _, .tagQ => s
  | .tile _ _, .tagE => s
  | .tile _ _, .tagF => s
  | .tile tl off, .ste _ =>
    if tl = f.owner.tile ∨ s.targetTag (.tile tl off) then s else s.remoteStrike f.owner tl ((s.tile tl).winPhys off) n false true
  | .tile tl off, _ => if tl = f.owner.tile then s else s.remoteStrike f.owner tl ((s.tile tl).winPhys off) n op.reads op.writes
  | _, _ => s

/-- An answer sets out on its way back (R43). -/
def State.answer (s : State) (f : Flight) (vals : List Val) : State :=
  { s with flights := s.flights.map (fun x =>
      if x.id == f.id then { x with kind := .long vals, lo := (s.die x.die).clock + 1, hi := none } else x) }

/-- A flight's access is performed (R169 to R173). -/
def State.performFlight (s : State) (f : Flight) : State :=
  match f.kind with
  | .access op t n rel _ =>
    let s := (s.strikeAccess f op t n).showDie f.owner (rel.getD 0) f.id
    let s := s.flitTo t
    match s.perform op t n with
    | (s', some v) => if f.dests.isEmpty then s'.dropFlight f.id else s'.answer f [.s v]
    | (s', none) => s'.dropFlight f.id
  | _ => s

/-- A request from outside comes to the banks of units of a tile's scratchpad, and waits there for its turn at each (R163). -/
def State.viaBank (s : State) (f : Flight) (t : Nat) (units : List Nat) : State :=
  if (s.tile t).bankQ.any (fun r => r.flight == f.id && r.engine.isNone) then s
  else s.modTile t (fun y => { y with bankQ := y.bankQ ++ units.map (fun u => { flight := f.id, unit := u }) })

/-- An access reaches its target: at a tile it waits its turn at the bank, elsewhere it is performed (R163, R164). -/
def State.arriveAccess (s : State) (f : Flight) : State :=
  match f.kind with
  | .access _ (.tile t off) _ _ _ => s.viaBank f t [(s.tile t).winPhys off / 64]
  | .access _ _ _ _ _ => s.performFlight f
  | _ => s

/-- Take a flight that is ready and of the right sort; one that meets a refreshing bank waits; anything else leaves the
state as it is. -/
def withFlight (s : State) (id : Nat) (sort : Kind → Bool) (f : State → Flight → State) :
    Host.Outcome State Fault Refusal :=
  match s.flight id with
  | none => .next s
  | some x =>
    if sort x.kind && s.ready x then .next (f s x)
    else if sort x.kind && s.arrived x then .next (s.awaitRefresh x)
    else .next s

/-- LDG, AMO or CAS. -/
def Kind.isGlobal : Kind → Bool
  | .access op _ _ _ _ => op.reads && (match op with | .tagQ => false | _ => true)
  | _ => false

/-- A posted store whose target is not a tile. -/
def Kind.isPosted : Kind → Bool
  | .access (.store _) (.tile _ _) _ _ _ => false
  | .access (.store _) _ _ _ _ => true
  | _ => false

/-- A store or tag operation on its way to a tile. -/
def Kind.isRemote : Kind → Bool
  | .access (.store _) (.tile _ _) _ _ _ => true
  | .access (.ste _) _ _ _ _ => true
  | .access (.stf _) _ _ _ _ => true
  | .access .tagQ _ _ _ _ => true
  | .access .tagE _ _ _ _ => true
  | .access .tagF _ _ _ _ => true
  | _ => false

/-- A LONG result. -/
def Kind.isLong : Kind → Bool
  | .long _ => true
  | _ => false

/-- A request reaches its slice, bank or tile (R171). -/
def execGlobalAccessPerformed (f : Nat) (s : State) : Host.Outcome State Fault Refusal :=
  withFlight s f Kind.isGlobal State.arriveAccess

/-- A posted store is performed (R169). -/
def execPostedStorePerformed (f : Nat) (s : State) : Host.Outcome State Fault Refusal :=
  withFlight s f Kind.isPosted State.arriveAccess

/-- A remote store or tag operation acts on its target, also while the tile is frozen (R173). -/
def execRemoteStoreArrival (f : Nat) (s : State) : Host.Outcome State Fault Refusal :=
  withFlight s f Kind.isRemote State.arriveAccess

/-! ### Remote fills and reads -/

/-- The issuer may reach a register of the target tile: a system strand any, a user strand only where a placement of
its partition runs (R176). -/
def State.mayReach (s : State) (w : Who) (t : Nat) : Bool :=
  (s.strand w).system || ((s.tile t).place.isSome && (s.tile t).part == (s.tile w.tile).part)

/-- A register in a block that its strand does not hold is gated (R47). -/
def State.gated (s : State) (r : RegRef) : Bool :=
  match r.who with
  | none => false
  | some w => (s.strand w).lacks r.loc

/-- A register whose bank is drowsy (R48). -/
def State.sleeping (s : State) (r : RegRef) : Bool :=
  match r.who with
  | none => false
  | some w => (s.strand w).drowsy

/-- A drowsy bank starts to wake: within 64 cycles (R48). -/
def State.startWake (s : State) (r : RegRef) : State :=
  match r.who with
  | none => s
  | some w =>
    s.modStrand w (fun x => if x.waking.isSome then x else { x with waking := some (s.now w.tile + 64) })

/-- A parity error in a register (R49). -/
def State.regBad (s : State) : RegRef → Bool
  | .g w i => ((s.strand w).readG i).bad
  | .c t i => ((s.tile t).creg i).now.bad
  | .k w i => ((s.strand w).readK i).bad
  | .v w i => ((s.strand w).readV i).bad

/-- The value of a register, whatever its condition (R175). -/
def State.regValue (s : State) : RegRef → Word
  | .g w i => ((s.strand w).readG i).val
  | .c t i => ((s.tile t).creg i).now.val
  | .k w i => ((s.strand w).readK i).val.setWidth 64
  | .v _ _ => 0

/-- A number for a register among those of its tile. -/
def RegRef.errKey : RegRef → Nat
  | .g w i => 1024 * w.strand + i
  | .c _ i => 8192 + i
  | .k w i => 1024 * w.strand + 256 + i
  | .v w i => 1024 * w.strand + 512 + i

/-- The register is discarded on writes (R37). -/
def RegRef.discards : RegRef → Bool
  | .g _ i => i == 0
  | .k _ i => i == 0
  | _ => false

/-- A fill may be written now: RFILL to a register that is not PENDING, RFILL.E to an EMPTY one (R43). -/
def State.fillable (s : State) (e : Bool) (r : RegRef) : Bool :=
  r.discards || (if e then s.regFill r == .empty else s.regFill r != .pending)

/-- An access to a register of a strand keeps its banks awake for another 1,024 cycles (R48). -/
def State.touchReg (s : State) (r : RegRef) : State :=
  match r.who with
  | none => s
  | some w => s.modStrand w (fun x => { x with touched := s.now w.tile })

/-- A fill waits no more. -/
def State.unwait (s : State) (r : RegRef) (id : Nat) : State :=
  s.modTile r.tile (fun y => { y with fills := y.fills.filter (· != id) })

/-- A fill is written and its status OK goes back (R174, R175). -/
def State.applyFill (s : State) (f : Flight) (r : RegRef) (x : Word) : State :=
  (((s.unwait r f.id).touchReg r).fillReg r (.s x)).answer f [.s 0]

/-- A fill that came earlier waits for the same register and may be written now (R45). -/
def State.outruns (s : State) (ids : List Nat) (r : RegRef) : Bool :=
  ids.any (fun i =>
    match (s.flight i).map Flight.kind with
    | some (.rfill e q _) => q == r && s.fillable e r
    | _ => false)

/-- A fill reaches its register: DENIED, ABSENT, a drowsy bank that wakes first, at once, or it waits (R175, R176). -/
def State.arriveFill (s : State) (f : Flight) : State :=
  match f.kind with
  | .rfill e r x =>
    if !s.mayReach f.owner r.tile then s.answer f [.s 2]
    else if s.gated r then s.answer f [.s 1]
    else if s.sleeping r then s.startWake r
    else if (s.tile r.tile).fills.contains f.id then s
    else if s.fillable e r && !s.outruns (s.tile r.tile).fills r then s.applyFill f r x
    else (s.touchReg r).modTile r.tile (fun y => { y with fills := y.fills ++ [f.id] })
  | _ => s

/-- RFILL_ARRIVAL (R175). -/
def execRfillArrival (f : Nat) (s : State) : Host.Outcome State Fault Refusal :=
  withFlight s f (fun k => match k with | .rfill _ _ _ => true | _ => false) State.arriveFill

/-- A waiting fill writes once the register's condition allows it; one whose block has been released since finds it ABSENT (R39,
R47). -/
def State.retryFill (s : State) (id : Nat) : State :=
  match s.flight id with
  | none => s
  | some f =>
    match f.kind with
    | .rfill e r x =>
      if !(s.tile r.tile).fills.contains id then s
      else if s.gated r then (s.unwait r id).answer f [.s 1]
      else if s.fillable e r && !s.outruns ((s.tile r.tile).fills.takeWhile (· != id)) r then s.applyFill f r x
      else s
    | _ => s

/-- The waiting fills of a tile are tried in order of arrival (R45). -/
def State.serveFills (s : State) (t : Nat) : State := (s.tile t).fills.foldl (fun a f => a.retryFill f) s

/-- A LONG result arrives; a discarded one changes no register; the fills that wait for its registers come
next, before any that arrives later (R43, R45, R103). -/
def State.landLong (s : State) (f : Flight) : State :=
  let s := s.dropFlight f.id
  match f.kind with
  | .long vals =>
    if f.live then ((f.dests.map (·.tile)).dedup).foldl (fun (a : State) t => a.serveFills t) (s.fillRegs f.dests vals) else s
  | _ => s

/-- LONG_RESULT_ARRIVAL (R43). -/
def execLongResultArrival (f : Nat) (s : State) : Host.Outcome State Fault Refusal :=
  withFlight s f Kind.isLong State.landLong

/-- RFILL_E_FILL (R175). -/
def execRfillEFill (f : Nat) (s : State) : Host.Outcome State Fault Refusal := .next (s.retryFill f)

/-- A remote read reaches its register (R47 to R49, R175, R176). -/
def State.arriveGet (s : State) (f : Flight) : State :=
  match f.kind with
  | .rget st r =>
    let ans := fun (code v : Word) => s.answer f [.s (if st then code else v)]
    if !s.mayReach f.owner r.tile then ans 2 0
    else if s.gated r then ans 1 0
    else if s.sleeping r then s.startWake r
    else if s.regBad r then
      ((s.touchReg r).noteError (dieOf r.tile) 0 r.tile r.errKey f.owner.tile f.owner.strand 0 (s.tile r.tile).place).answer f [.s (if st then 3 else 0)]
    else (s.touchReg r).answer f [.s (if st then 0 else s.regValue r)]
  | _ => s

/-- RGET_ARRIVAL (R175). -/
def execRgetArrival (f : Nat) (s : State) : Host.Outcome State Fault Refusal :=
  withFlight s f (fun k => match k with | .rget _ _ => true | _ => false) State.arriveGet

/-- The value of a register of any file, whatever its condition. -/
def State.regVal (s : State) (r : RegRef) : Val :=
  match r with
  | .v w i => .v ((s.strand w).readV i).val
  | _ => .s (s.regValue r)

/-- A register of the banks that hold a register (R48). -/
def AnyReg.bank : AnyReg → RegRef
  | .reg r => r
  | .p w _ => .k w 0

/-- The tile of a register. -/
def AnyReg.tile (r : AnyReg) : Nat := r.bank.tile

/-- A number for a register among those of its tile. -/
def AnyReg.errKey : AnyReg → Nat
  | .reg r => r.errKey
  | .p w i => 1024 * w.strand + 768 + i

/-- A register is in parity error (R49). -/
def State.anyBad (s : State) : AnyReg → Bool
  | .reg r => s.regBad r
  | .p w i => ((s.strand w).readP i).bad

/-- The value of a register; a pointer's has its address in bits [19:0] and its stride above (R40, assumption 110). -/
def State.anyVal (s : State) : AnyReg → Val
  | .reg r => s.regVal r
  | .p w i => .s (BitVec.ofNat 64 (((s.strand w).readP i).addr.toNat + ((s.strand w).readP i).stride.toNat * 2 ^ 20))

/-- A debugger's read reaches its register: ABSENT, a drowsy bank that wakes first, ERROR without a trap, or the value (R47 to R49,
R394). -/
def State.arriveDebug (s : State) (f : Flight) (r : AnyReg) : State :=
  let ans := fun (a : State) (code : Nat) (v : Val) => { a.dropFlight f.id with outbox := a.outbox ++ [.register r code v] }
  if s.gated r.bank then ans s 1 (.s 0)
  else if s.sleeping r.bank then s.startWake r.bank
  else if s.anyBad r then
    ans ((s.touchReg r.bank).noteError (dieOf r.tile) 0 r.tile r.errKey r.tile 0 0 (s.tile r.tile).place) 3 (.s 0)
  else ans (s.touchReg r.bank) 0 (s.anyVal r)

/-- A host session's debugger may read the registers of a tile: the package has booted, the tile runs a placement of the session's
partition, or the session is partition 0's, and the session claims the tile or the tile is frozen (R6, R394, R397, R398, assumption
110). -/
def State.mayDebug (s : State) (session t : Nat) : Bool :=
  match FMap.find s.sessions session with
  | none => false
  | some k =>
    s.boot.booted && (k.part == 0 || ((s.tile t).place.isSome && (s.tile t).part == k.part)) &&
      ((s.tile t).claim == some session || (s.tile t).frozen)

/-- A register is in parity error until it is written; g0 and k0 hold nothing (R37, R49). -/
def State.spoilReg (s : State) : AnyReg → State
  | .reg (.g w i) => s.modStrand w (fun x => x.writeG i { x.readG i with bad := true })
  | .reg (.k w i) => s.modStrand w (fun x => x.writeK i { x.readK i with bad := true })
  | .reg (.v w i) => s.modStrand w (fun x => x.writeV i { x.readV i with bad := true })
  | .reg (.c t i) => s.modTile t (fun y => { y with c := FMap.put {} y.c i { y.creg i with now := { (y.creg i).now with bad := true } } })
  | .p w i => s.modStrand w (fun x => x.writeP i { x.readP i with bad := true })

/-- A soft error that its protection cannot correct: the word or the register is in error until it is written (R49, R408). A place that
the structure does not have is not struck. -/
def State.upset (s : State) : Struck → State
  | .register r => s.spoilReg r
  | .scratch t w => if w < 49152 then s.modTile t (fun y => { y with poison := FMap.put false y.poison w true }) else s
  | .slot t o w => if o < 16 ∧ w < 2304 then s.modTile t (fun y => { y with os := FMap.set y.os o { y.oslot o with poison := FMap.put false (y.oslot o).poison w true } }) else s
  | .accumulator t a w =>
    if a < 4 ∧ w < 4096 then s.modTile t (fun y => { y with ac := FMap.set y.ac a { y.accum a with poison := FMap.put false (y.accum a).poison w true } }) else s
  | .ticket k e =>
    match FMap.find s.sources k with
    | none => s
    | some x =>
      match FMap.find x.entries e with
      | none => s
      | some y => { s with sources := FMap.set s.sources k { x with entries := FMap.set x.entries e { y with bad := true } } }
  | .line t i => if i < 1024 then s.modTile t (fun y => { y with badLines := if y.badLines.contains i then y.badLines else y.badLines ++ [i] }) else s
  | .weights d w => if d < 4 ∧ w < 0x6000000 then s.modDie d (fun x => { x with wsPoison := FMap.put false x.wsPoison w true }) else s
  | .memory w => if w < 2 ^ 36 then { s with hbmPoison := FMap.put false s.hbmPoison w true } else s

/-- A corrected error is repaired in place and counted; the count saturates (R404, R407). -/
def State.correct (s : State) (d k : Nat) : State :=
  if d < 4 ∧ k < 9 then
    s.modDie d (fun x =>
      let n := FMap.get 0 x.corrected k
      { x with corrected := FMap.put 0 x.corrected k (if n = BitVec.allOnes 32 then n else n + 1) })
  else s

/-- REGISTERS_DROWSY: a strand that has been stopped for 1,024 cycles without an access (R48). -/
def execRegistersDrowsy (w : Who) (s : State) : Host.Outcome State Fault Refusal :=
  let x := s.strand w
  if !x.running && !x.drowsy && decide (x.touched + 1024 ≤ s.now w.tile) then
    .next (s.modStrand w (fun y => { y with drowsy := true, waking := none }))
  else .next s

/-- REGISTER_BANK_WAKE: the bank is awake, and the access or the spawned strand that waited goes on (R48). -/
def execRegisterBankWake (w : Who) (s : State) : Host.Outcome State Fault Refusal :=
  if (s.strand w).waking.isSome then
    .next (s.modStrand w (fun y => { y with drowsy := false, waking := none, touched := s.now w.tile }))
  else .next s

/-- The banks that the next 128 bytes of a path request lie in (R259). -/
def PathReq.nextBanks (r : PathReq) : List Nat :=
  ((r.runs r.moved (Nat.min r.total (r.moved + 128))).map (fun e => bankOf e.1)).dedup

/-- BANK_STARVATION_GRANT: a request refused for 16 consecutive cycles takes its bank in this cycle (R163). -/
def execBankStarvationGrant (tile bank : Nat) (s : State) : Host.Outcome State Fault Refusal :=
  if (s.tile tile).bankQ.any (fun r => r.bank == bank && decide (16 ≤ r.refused)) ||
      (s.tile tile).path.any (fun r => decide (16 ≤ r.refused) && r.nextBanks.contains bank) then
    .next (s.modTile tile (fun y => { y with bankTaken := if y.bankTaken.contains bank then y.bankTaken else y.bankTaken ++ [bank] }))
  else .next s

/-- TLB_WALK_END (R365). -/
def execTlbWalkEnd (die part page : Nat) (s : State) : Host.Outcome State Fault Refusal := .next (s.walkEnd die part page)

/-! ### Meanings -/
-- BEGIN
/-- R94: Parks until earlier accesses of the chosen kinds are performed at the scope. -/
def execFence (t : LTail) (s : State) : Host.Outcome State Fault Refusal := run1 (hFence t) s

/-- R168: Loads 1–8 bytes from a local address. -/
def execLd (t : LWTail) (s : State) : Host.Outcome State Fault Refusal := run1 (hLd t) s

/-- R168: Stores 1–8 bytes to a local address. -/
def execSt (t : LWTail) (s : State) : Host.Outcome State Fault Refusal := run1 (hSt t) s

/-- R165: Waits for a FULL tagged word, loads it and empties the tag unless .k. -/
def execLdf (t : LWTail) (s : State) : Host.Outcome State Fault Refusal := run1 (hLdf t) s

/-- R166: Waits for an EMPTY tagged word, writes it and sets FULL. -/
def execSte (t : LWTail) (s : State) : Host.Outcome State Fault Refusal := run1 (hStTag true t) s

/-- R166: Writes a tagged word and sets FULL at once. -/
def execStf (t : LWTail) (s : State) : Host.Outcome State Fault Refusal := run1 (hStTag false t) s

/-- R166: Remote conditional tagged store returning a status. -/
def execSteG (t : LWTail) (s : State) : Host.Outcome State Fault Refusal := run1 (hSteG t) s

/-- R166: Posted remote tagged store. -/
def execStfG (t : LWTail) (s : State) : Host.Outcome State Fault Refusal := run1 (hStfG t) s

/-- R167: Reads whether a tag is FULL. -/
def execTagQ (t : LWTail) (s : State) : Host.Outcome State Fault Refusal := run1 (hTagQ t) s

/-- R167: Sets a tag EMPTY. -/
def execTagE (t : LWTail) (s : State) : Host.Outcome State Fault Refusal := run1 (hTagSet false t) s

/-- R167: Sets a tag FULL. -/
def execTagF (t : LWTail) (s : State) : Host.Outcome State Fault Refusal := run1 (hTagSet true t) s

/-- R167: Translates a local address into its tile-window address. -/
def execTagWa (t : LWTail) (s : State) : Host.Outcome State Fault Refusal := run1 (hTagWa t) s

/-- R169: LONG load from device memory by virtual address. -/
def execLdg (t : LWTail) (s : State) : Host.Outcome State Fault Refusal := run1 (hLdg t) s

/-- R169: Posted store to device memory. -/
def execStg (t : LWTail) (s : State) : Host.Outcome State Fault Refusal := run1 (hStg t) s

/-- R171: Atomic read-modify-write returning the old value. -/
def execAmo (t : LTail) (s : State) : Host.Outcome State Fault Refusal := run1 (hAmo t) s

/-- R171: Atomic compare-and-swap returning the old value. -/
def execCas (t : LTail) (s : State) : Host.Outcome State Fault Refusal := run1 (hCas t) s

/-- R178: Waits for mirror stores, then swaps the active and shadow copies. -/
def execMflip (s : State) : Host.Outcome State Fault Refusal := run1 (hMflip) s

/-- R174: Sends a write of another strand's register and receives a status. -/
def execRfill (t : LTail) (s : State) : Host.Outcome State Fault Refusal := run1 (hRfill t) s

/-- R174: Reads another strand's register, returning value or status. -/
def execRget (t : LTail) (s : State) : Host.Outcome State Fault Refusal := run1 (hRget t) s
-- END

end Sys2Proof.Machine
end

