-- ==== Sys2Proof/Machine/Crews.lean ====
section
/-!
DEFINITION. Crews, the acquisition and release of resources, and gangs (R180 to R207).
-/
namespace Sys2Proof.Machine

/-! ### Crews (R181 to R183) -/

/-- The five counts of a claim-layout word (R182). -/
def claimCounts (x : Word) : Counts := Counts.ofFn (fun i => fieldNat x (8 * i) 8)

/-- The limit of a declaration: the pool, or 32 pages (R182). -/
def claimLimit (cls : Nat) : Nat := if cls = 2 then 32 else pools.at cls

/-- TRAP_INFO of CLAIM_EXCEEDED and CLAIM_INVALID (R190). -/
def claimInfo (cls requested held maximum reason : Nat) : Word :=
  BitVec.ofNat 64 (cls + Nat.min requested 255 * 16 + Nat.min held 255 * 2 ^ 12 + Nat.min maximum 255 * 2 ^ 20 + reason * 2 ^ 28)

/-- CLAIM_INVALID (R190). -/
def claimInvalid (cls requested held maximum reason : Nat) : Cause :=
  { code := .claimInvalid, info := claimInfo cls requested held maximum reason }

/-- The check of a claim word: the lowest class above its limit, then the reserved bits (R182, R190). -/
def claimFault (x : Word) : Option Cause :=
  match (List.range 5).find? (fun i => decide (claimLimit i < (claimCounts x).at i)) with
  | some i => some (claimInvalid i ((claimCounts x).at i) 0 (claimLimit i) (if i = 2 then 5 else 4))
  | none => if fieldNat x 40 24 ≠ 0 then some (claimInvalid 0 0 0 0 8) else none

/-- The strand belongs to a crew. -/
def Strand.crewed (x : Strand) : Bool := x.crewId != 0xF

/-- CREW: a claim word in a, a join mask in b, the crew id in sub [2:0] (R181). -/
def hCrew (t : LTail) : Half :=
  let id := fieldNat t.sub 0 3
  { srcs := [t.srcA, t.srcB], dests := [t.dst]
    traps := fun s w =>
      if (s.strand w).fused then some (gangMismatch 8) else claimFault (s.scalar w t.srcA.loc)
    effect := fun pre cur w =>
      if (pre.strand w).crewed then cur.putScalar w t.dst 2
      else if (FMap.find (pre.tile w.tile).crews id).isSome then cur.putScalar w t.dst 1
      else
        let c : Crew := { claim := claimCounts (pre.scalar w t.srcA.loc), joinMask := (pre.scalar w t.srcB.loc).setWidth 8 }
        let s := cur.modTile w.tile (fun y => { y with crews := FMap.set y.crews id c })
        (s.modStrand w (fun x => { x with crewId := BitVec.ofNat 4 id })).putScalar w t.dst 0 }

/-- The status of CJOIN: 1 NOCREW, 2 DENIED, 3 MEMBER, else 0 OK (R183). DESIGN CHOICE: in this order (assumption 124). -/
def State.joinStatus (s : State) (w : Who) (id : Nat) : Nat :=
  match FMap.find (s.tile w.tile).crews id with
  | none => 1
  | some c => if !bitAt c.joinMask w.strand then 2 else if (s.strand w).crewed then 3 else 0

/-- CJOIN joins (R183). -/
def hCjoin (t : LTail) : Half :=
  { mask := t.k.toNat, srcs := [t.srcA], dests := [t.dst]
    traps := fun s w => if (s.strand w).fused then some (gangMismatch 8) else none
    effect := fun pre cur w =>
      let id := fieldNat (pre.scalar w t.srcA.loc) 0 3
      let st := pre.joinStatus w id
      let s := if st = 0 then cur.modStrand w (fun x => { x with crewId := BitVec.ofNat 4 id }) else cur
      s.putScalar w t.dst (BitVec.ofNat 64 st) }

/-- The status of CJOIN.X: 1 NOCREW, 2 DENIED in a handler, else 0 (R183). -/
def Strand.leaveStatus (x : Strand) : Nat := if !x.crewed then 1 else if bitAt x.trapCause 7 then 2 else 0

/-- A register of an extension block that a LONG result is owed to (R183, R194): among the g blocks xg and the v
blocks xv, by position. -/
def Strand.owedIn (x : Strand) (xg xv : List Nat) : Option Loc :=
  match x.g.find? (fun e => decide (16 ≤ e.1) && e.2.st == .pending && xg.contains ((e.1 - 16) / 16)) with
  | some e => some (.g e.1)
  | none => (x.v.find? (fun e => decide (8 ≤ e.1) && e.2.st == .pending && xv.contains ((e.1 - 8) / 8))).map (fun e => .v e.1)

/-- CJOIN.X leaves: it waits with kind 12 while a LONG result is owed to its extension blocks, releases them, and a
crew without members retires (R183, R184). -/
def hCjoinX (t : LTail) : Half :=
  { mask := t.k.toNat, dests := [t.dst]
    traps := fun s w => if (s.strand w).fused then some (gangMismatch 8) else none
    waits := fun pre _ w =>
      if (pre.strand w).leaveStatus = 0 ∧ ((pre.strand w).owedIn [0, 1, 2] [0, 1, 2]).isSome then some { kind := 12 } else none
    effect := fun pre cur w =>
      let st := (pre.strand w).leaveStatus
      let s := if st = 0 then
          let s := (cur.freeBlocks w).modStrand w (fun x => { x with crewId := 0xF })
          (s.retireIfEmpty w.tile (pre.strand w).crewId.toNat).wakeWaiters w.tile
        else cur
      s.putScalar w t.dst (BitVec.ofNat 64 st) }

/-! ### Acquiring (R188, R189, R205) -/

/-- The traps of an acquisition, class by class: beyond the claim, then beyond three blocks of the strand (R188). -/
def State.acquireFault (s : State) (w : Who) (c : Crew) (req : Counts) : Option Cause :=
  let t := s.tile w.tile
  let al := t.alloc (s.strand w).crewId.toNat
  let own := fun i => if i = 0 then (s.strand w).xg.length else (s.strand w).xv.length
  (List.range 5).findSome? (fun i =>
    if c.claim.at i < al.at i + req.at i then
      some { code := .claimExceeded, info := claimInfo i (req.at i) (al.at i) (c.claim.at i) 1 }
    else if i < 2 ∧ 3 < own i + req.at i then
      some { code := .claimExceeded, info := claimInfo i (req.at i) (own i) 3 2 }
    else none)

/-- The strand waits in its tile's list, or has been granted while it waited. -/
def State.acquiringNow (s : State) (w : Who) : Bool :=
  (s.strand w).granted.isSome || (s.tile w.tile).waiters.any (fun x => x.strand == w.strand)

/-- A request for nothing. -/
def Counts.empty (c : Counts) : Bool := (List.range 5).all (fun i => c.at i == 0)

/-- The banker's answer to a strand's request on its own tile (R191, R193); nothing needs no check. -/
def State.bankAnswer (s : State) (w : Who) (req : Counts) : Nat :=
  if req.empty then 0 else (s.tile w.tile).checkFor w.strand (s.strand w).crewId.toNat req

/-- Commit a grant in the slot of its strand: waiters that stay waiting are bypassed (R193). -/
def State.commitGrant (s : State) (w : Who) (req : Counts) : State × Word :=
  if req.empty then (s, 0)
  else
    let ws := (s.tile w.tile).waiters
    let i := (ws.findIdx? (fun x => x.strand == w.strand)).getD ws.length
    let s := s.modTile w.tile (fun t => { t with waiters := bypassFirst i (ws.eraseIdx i) })
    s.grantAll w req

/-- ACQ and ACQM. first: the traps before the count checks; cls: the class that reason 3 names; req: each strand's own
request; the park of kind 6 has the class as its index, and ACQM, which names none, 0. In a gang a grant is made on every member or
on none (R188, R189, R205). DESIGN CHOICE: a masked-off member acquires nothing, and its request takes part in the check (assumption
127). -/
def acquireHalf (k : BitVec 3) (srcs : List Src) (d : Loc) (trying : Bool) (cls : Nat)
    (first : State → Who → Option Cause) (req : State → Who → Counts) : Half :=
  let gangOk := fun (s : State) (w : Who) => (s.members w).all (fun m => s.bankAnswer m (req s m) == 0)
  { mask := k.toNat, srcs := srcs, dests := [d]
    traps := fun s w =>
      match s.crewOf w with
      | none => firstCause [first s w, some (claimInvalid cls ((req s w).at cls) 0 0 3)]
      | some c => if s.acquiringNow w then none else firstCause [first s w, s.acquireFault w c (req s w)]
    waits := fun pre _ w =>
      if trying || (pre.strand w).granted.isSome || (req pre w).empty then none
      else if (!(pre.strand w).fused && (pre.tile w.tile).waiters.any (fun x => x.strand == w.strand)) || !gangOk pre w then
        some { kind := 6, index := cls, note := some (.acquire (req pre w)) }
      else none
    effect := fun pre cur w =>
      match (pre.strand w).granted with
      | some im => (cur.modStrand w (fun x => { x with granted := none })).putScalar w d im
      | none =>
        if gangOk pre w then
          let (s, im) := cur.commitGrant w (req pre w)
          s.putScalar w d im
        else
          let st := match pre.bankAnswer w (req pre w) with | 0 => 3 | n => n
          cur.putScalar w d (BitVec.ofNat 64 st <<< 58) }

/-- The number of units that an ACQ asks for. -/
def acqN (t : LWTail) (s : State) (w : Who) : Nat :=
  match t with
  | .l t => (s.scalar w t.srcA.loc).toNat
  | .w t => t.imm.toNat

/-- ACQ: sub [2:0] the class, sub [3] .t (R188). -/
def hAcq (t : LWTail) : Half :=
  let cls := match t with | .l t => fieldNat t.sub 0 3 | .w t => fieldNat t.sub 0 3
  acquireHalf (maskOf t) (match t with | .l t => [t.srcA] | .w _ => []) (dstOf t) (subBit 3 t) cls (fun _ _ => none)
    (fun s w => Counts.one cls (acqN t s w))

/-- ACQM: reserved bits give reason 8 (R189). -/
def hAcqm (t : LTail) : Half :=
  acquireHalf t.k [t.srcA] t.dst (t.bit 0) 0
    (fun s w => if fieldNat (s.scalar w t.srcA.loc) 40 24 ≠ 0 then some (claimInvalid 0 0 0 0 8) else none)
    (fun s w => claimCounts (s.scalar w t.srcA.loc))

/-! ### Releasing and reading holdings (R194, R195) -/

/-- The number of names of a class (R187). -/
def nameCount (cls : Nat) : Nat := match cls with | 0 => 3 | 1 => 3 | 2 => 32 | 3 => 16 | _ => 4

/-- The place of a class in the grant image (R187). -/
def imageBase (cls : Nat) : Nat := match cls with | 0 => 0 | 1 => 3 | 2 => 6 | 3 => 38 | _ => 54

/-- The unit behind a name that the strand or its crew holds (R186). -/
def State.unitOf (s : State) (w : Who) (cls j : Nat) : Option Nat :=
  match cls with
  | 0 => FMap.find (s.strand w).xg j
  | 1 => FMap.find (s.strand w).xv j
  | 2 => (s.crewOf w).bind (fun c => FMap.find c.window j)
  | 3 => (s.crewOf w).bind (fun c => FMap.find c.os j)
  | _ => (s.crewOf w).bind (fun c => FMap.find c.ac j)

/-- The names that a mask sets. -/
def maskNames (cls : Nat) (m : Nat) : List Nat := (List.range (nameCount cls)).filter (fun j => m.testBit j)

/-- CLAIM_INVALID of a release (R190). DESIGN CHOICE: the count requested is the number of set bits of its mask (assumption 119). -/
def State.releaseInvalid (s : State) (w : Who) (cls m reason : Nat) : Cause :=
  let held := ((s.tile w.tile).alloc (s.strand w).crewId.toNat).at cls
  let mx := match s.crewOf w with | none => 0 | some c => c.claim.at cls
  claimInvalid cls (countOnes m 64) held mx reason

/-- The checks of a release, over the masks of the five classes, in the order of R194. -/
def State.releaseFault (s : State) (w : Who) (m : Nat → Nat) : Option Cause :=
  let beyond := (List.range 5).find? (fun c => decide (2 ^ nameCount c ≤ m c))
  let lacking := (List.range 5).find? (fun c => (maskNames c (m c)).any (fun j => (s.unitOf w c j).isNone))
  let filling := (maskNames 3 (m 3)).find? (fun j => (s.unitOf w 3 j).any (fun u => s.slotFilling w.tile u))
  let active := (maskNames 4 (m 4)).find? (fun j => (s.unitOf w 4 j).any (fun u => s.ruleActive w.tile u))
  match beyond, lacking, filling, active with
  | some c, _, _, _ => some (s.releaseInvalid w c (m c) 7)
  | none, some c, _, _ => some (s.releaseInvalid w c (m c) 6)
  | none, none, some j, _ => some { code := .slotState, info := BitVec.ofNat 64 (6 + j * 16) }
  | none, none, none, some j => some { code := .slotState, info := BitVec.ofNat 64 (6 + j * 16 + 256) }
  | none, none, none, none => none

/-- Release the names of a class (R186, R194, R196). -/
def State.releaseClass (s : State) (w : Who) (cls m : Nat) : State :=
  let js := maskNames cls m
  let us := js.filterMap (fun j => s.unitOf w cls j)
  let s := match cls with
    | 0 => s.modStrand w (fun x => x.dropBlocks js [])
    | 1 => s.modStrand w (fun x => x.dropBlocks [] js)
    | 2 => s.modCrew w (fun c => { c with window := c.window.filter (fun e => !js.contains e.1) })
    | 3 => s.modCrew w (fun c => { c with os := c.os.filter (fun e => !js.contains e.1) })
    | _ => s.modCrew w (fun c => { c with ac := c.ac.filter (fun e => !js.contains e.1) })
  s.giveBack w.tile cls us

/-- REL and RELM: the masks of the five classes; the waiting condition is a LONG result owed to a released block, kind
10 (R194). -/
def releaseHalf (k : BitVec 3) (srcs : List Src) (m : State → Who → Nat → Nat) : Half :=
  { mask := k.toNat, srcs := srcs
    traps := fun s w => s.releaseFault w (m s w)
    waits := fun pre _ w =>
      ((pre.strand w).owedIn (maskNames 0 (m pre w 0)) (maskNames 1 (m pre w 1))).map
        (fun l => { kind := 10, file := l.file, index := l.index })
    effect := fun pre cur w =>
      ((List.range 5).foldl (fun a c => a.releaseClass w c (m pre w c)) cur).wakeWaiters w.tile }

/-- REL (R194). -/
def hRel (t : LWTail) : Half :=
  let cls := match t with | .l t => fieldNat t.sub 0 3 | .w t => fieldNat t.sub 0 3
  releaseHalf (maskOf t) (match t with | .l t => [t.srcA] | .w _ => []) (fun s w c => if c = cls then acqN t s w else 0)

/-- RELM: the names of a grant image; bits [63:58] are ignored (R194). -/
def hRelm (t : LTail) : Half :=
  releaseHalf t.k [t.srcA] (fun s w c => fieldNat (s.scalar w t.srcA.loc) (imageBase c) (nameCount c))

/-- The grant image of everything held (R187, R195). -/
def State.holdImage (s : State) (w : Who) : Word :=
  BitVec.ofNat 64 (((List.range 5).map (fun c =>
    ((List.range (nameCount c)).map (fun j => if (s.unitOf w c j).isSome then 2 ^ (imageBase c + j) else 0)).sum)).sum)

/-- The remaining need of the crew as a claim-layout word (R195). -/
def State.holdNeed (s : State) (w : Who) : Word :=
  match s.crewOf w with
  | none => 0
  | some c =>
    let al := (s.tile w.tile).alloc (s.strand w).crewId.toNat
    BitVec.ofNat 64 (((List.range 5).map (fun i => (c.claim.at i - al.at i) * 256 ^ i)).sum)

/-- HOLD: sub [0] .n (R195). -/
def hHold (t : LTail) : Half :=
  shortHalf 0 [] t.dst (fun s w _ => if t.bit 0 then s.holdNeed w else s.holdImage w)

/-- QUARANTINE_RETURN: the last access that used a unit has ended, and the unit returns as a release (R196). -/
def execQuarantineReturn (tile cls unit : Nat) (s : State) : Host.Outcome State Fault Refusal :=
  if (s.tile tile).quar.contains ⟨cls, unit⟩ && !s.unitBusy tile cls unit then
    .next ((s.modTile tile (fun t => { t.loseUnit cls unit with quar := t.quar.filter (· != ⟨cls, unit⟩) })).wakeWaiters tile)
  else .next s

/-! ### Gangs (R198 to R206) -/

/-- The rectangle of a descriptor stays on the leader's die (R198). -/
def onDie (desc : Word) : Bool :=
  let l := fieldNat desc 0 11
  validTile l && decide (colOf l + fieldNat desc 11 4 ≤ 15) && decide (rowOf l + fieldNat desc 15 4 ≤ 25)

/-- A tile of the rectangle that holds a different request of the same strand index; a request whose fusion has completed stands no
more (R198). -/
def State.fuseRival (s : State) (w : Who) (desc : Word) : Option Nat :=
  (rectangle desc).find? (fun t =>
    t != w.tile && (match (s.strand ⟨t, w.strand⟩).fuse with | some d => d != desc | none => false))

/-- The mismatches of GFUSE, in the order of R198. -/
def State.fuseFault (s : State) (w : Who) (desc : Word) : Option Cause :=
  let here := (s.tile w.tile).place
  if (s.strand w).matched then none
  else match (s.strand w).fuseClash with
  | some t => some (gangMismatch 7 t)
  | none =>
    if fieldNat desc 19 45 ≠ 0 then some (gangMismatch 1)
    else if !onDie desc then some (gangMismatch 2)
    else if (rectangle desc).any (fun t => (s.tile t).place != here) then some (gangMismatch 3)
    else if !(rectangle desc).contains w.tile then some (gangMismatch 4)
    else if (s.strand w).fused then some (gangMismatch 5)
    else if !(s.strand w).crewed then some (gangMismatch 6)
    else
      match s.fuseRival w desc with
      | some t => some { gangMismatch 7 t with poster := some ⟨t, w.strand⟩ }
      | none => none

/-- GFUSE: a 1 × 1 rectangle fuses at once; otherwise the strand waits with kind 14 until every tile of the rectangle
holds its request, when all are fused at once; then its own bundle goes on (R198). -/
def hGfuse (t : LTail) : Half :=
  { srcs := [t.srcA]
    traps := fun s w => s.fuseFault w (s.scalar w t.srcA.loc)
    waits := fun pre _ w =>
      let d := pre.scalar w t.srcA.loc
      if (pre.strand w).matched || (rectangle d).length == 1 then none else some { kind := 14, note := some (.fuse d) }
    effect := fun pre cur w =>
      cur.modStrand w (fun x =>
        { x with gangShape := shapeOf (pre.scalar w t.srcA.loc) w.tile, fuse := none, matched := false }) }

/-- GSPLIT: every member resumes behind the bundle from its own store, at its next slot (R206). -/
def hGsplit : Half :=
  { traps := fun s w => if (s.strand w).fused then none else some (gangMismatch 9)
    effect := fun pre cur w => cur.modStrand w (fun x => { x with gangShape := 0, startAt := pre.now w.tile + 1 }) }

/-- GBR: bit 0 of kN reduced over the gang by any or all (R201). -/
def hGbr (t : WTail) : Half :=
  let n := t.a.toNat
  jumpHalf 0 [{ loc := .k n }] [] (fun s w =>
    let bits := (s.members w).map (fun m => bitAt ((s.strand m).readK n).val 0)
    if (if t.bit 0 then bits.all id else bits.any id) then some (s.relative t.simm) else none)

/-- The combining operations of GRED (R202). -/
def gredOp (op : Nat) (x y : Word) : Word :=
  match op with
  | 0 => x + y
  | 1 => x &&& y
  | 2 => x ||| y
  | 3 => x ^^^ y
  | 4 => if x.slt y then y else x
  | 5 => if x.slt y then x else y
  | 6 => if x.ult y then y else x
  | _ => if x.ult y then x else y

/-- Combine a list of values from the left. -/
def reduceWith (f : Word → Word → Word) : List Word → Word
  | [] => 0
  | x :: r => r.foldl f x

/-- GRED: over the gang, or with sub [3] over the member's row; 16 to 48 cycles (R202). DEDUCED: a masked-off
member's value enters as it stands (assumption 17). -/
def hGred (t : LTail) : Half :=
  longHalf t.k [t.srcA] t.dst 16 48 (fun s w _ =>
    let ms := (s.members w).filter (fun m => !t.bit 3 || rowOf m.tile == rowOf w.tile)
    reduceWith (gredOp (fieldNat t.sub 0 3)) (ms.map (fun m => s.scalar m t.srcA.loc)))

/-- The neighbour whose value a member of a gang receives; none at the edge without wrapping (R203). -/
def State.neighbour (s : State) (w : Who) (dir : Nat) (wrap : Bool) : Option Who :=
  let x := s.strand w
  if !x.fused then (if wrap then some w else none)
  else
    let lead := s.leader w
    let wd := fieldNat x.gangShape 0 4 + 1
    let ht := fieldNat x.gangShape 4 4 + 1
    let c := fieldNat x.gangShape 8 4
    let r := fieldNat x.gangShape 12 4
    let at_ := fun c r => some (⟨lead.tile + 16 * r + c, w.strand⟩ : Who)
    match dir with
    | 0 => if c = 0 then (if wrap then at_ (wd - 1) r else none) else at_ (c - 1) r
    | 1 => if c + 1 = wd then (if wrap then at_ 0 r else none) else at_ (c + 1) r
    | 2 => if r = 0 then (if wrap then at_ c (ht - 1) else none) else at_ c (r - 1)
    | _ => if r + 1 = ht then (if wrap then at_ c 0 else none) else at_ c (r + 1)

/-- GXCH: sub [1:0] where the value comes from, sub [2] .wrap; 8 to 16 cycles (R203). DEDUCED: a masked-off member's
value is given as it stands (assumption 17). -/
def hGxch (t : LTail) : Half :=
  longHalf t.k [t.srcA] t.dst 8 16 (fun s w _ =>
    match s.neighbour w (fieldNat t.sub 0 2) (t.bit 2) with
    | none => 0
    | some m => s.scalar m t.srcA.loc)

/-! ### Meanings -/
-- BEGIN
/-- R181: Creates a crew with a claim word and join mask. -/
def execCrew (t : LTail) (s : State) : Host.Outcome State Fault Refusal := run1 (hCrew t) s

/-- R183: S form: joins a live crew. -/
def execCjoin (t : STail) (s : State) : Host.Outcome State Fault Refusal := run1 (hCjoin t.toL) s

/-- R183: L form of CJOIN. -/
def execCjoinL (t : LTail) (s : State) : Host.Outcome State Fault Refusal := run1 (hCjoin t) s

/-- R183: S form: leaves the crew, releasing the strand's blocks. -/
def execCjoinX (t : STail) (s : State) : Host.Outcome State Fault Refusal := run1 (hCjoinX t.toL) s

/-- R183: L form of CJOIN.X. -/
def execCjoinXL (t : LTail) (s : State) : Host.Outcome State Fault Refusal := run1 (hCjoinX t) s

/-- R188: Requests n units of one class under the banker's check, waiting or trying. -/
def execAcq (t : LWTail) (s : State) : Host.Outcome State Fault Refusal := run1 (hAcq t) s

/-- R189: Requests five class counts all or nothing. -/
def execAcqm (t : LTail) (s : State) : Host.Outcome State Fault Refusal := run1 (hAcqm t) s

/-- R194: Releases named units of one class. -/
def execRel (t : LWTail) (s : State) : Host.Outcome State Fault Refusal := run1 (hRel t) s

/-- R194: Releases the units of a grant image. -/
def execRelm (t : LTail) (s : State) : Host.Outcome State Fault Refusal := run1 (hRelm t) s

/-- R195: Reads holdings or remaining need. -/
def execHold (t : LTail) (s : State) : Host.Outcome State Fault Refusal := run1 (hHold t) s

/-- R198: Posts a fusion request for a gang rectangle and parks until all members match. -/
def execGfuse (t : LTail) (s : State) : Host.Outcome State Fault Refusal := run1 (hGfuse t) s

/-- R206: Dissolves the gang; each member resumes from its own store. -/
def execGsplit (s : State) : Host.Outcome State Fault Refusal := run1 (hGsplit) s

/-- R201: Branches on a k bit reduced by any or all over the gang. -/
def execGbr (t : WTail) (s : State) : Host.Outcome State Fault Refusal := run1 (hGbr t) s

/-- R202: LONG reduction of a value over the gang or gang row. -/
def execGred (t : LTail) (s : State) : Host.Outcome State Fault Refusal := run1 (hGred t) s

/-- R203: LONG exchange of a value with a neighbouring member. -/
def execGxch (t : LTail) (s : State) : Host.Outcome State Fault Refusal := run1 (hGxch t) s
-- END

end Sys2Proof.Machine
end

