-- ==== Sys2Proof/Machine/Matrix.lean ====
section
/-!
DEFINITION. The matrix array: operand slots and fills, rules, stages, firings and completions, feedback, the matrix path,
waiting, draining, clearing, MRED (R252 to R280, R399).
-/
namespace Sys2Proof.Machine

/-! ### Formats and pairs (R253, R261) -/

/-- What a pair of formats means: the format codes of A and B, the elements of a slab, its groups, the limit of M, the
feedback format. -/
structure PairInfo where
  fa : Nat
  fb : Nat
  slab : Nat
  groups : Nat
  limit : Nat
  back : Option Nat
  deriving DecidableEq, Repr

/-- The table of R261. -/
def pairInfo : Pair → PairInfo
  | .e4e4 => { fa := 0, fb := 0, slab := 128, groups := 4, limit := 128, back := none }
  | .e4e5 => { fa := 0, fb := 1, slab := 128, groups := 4, limit := 128, back := none }
  | .e5e4 => { fa := 1, fb := 0, slab := 128, groups := 4, limit := 128, back := none }
  | .e5e5 => { fa := 1, fb := 1, slab := 128, groups := 4, limit := 128, back := none }
  | .bfbf => { fa := 3, fb := 3, slab := 64, groups := 1, limit := 128, back := some 3 }
  | .hfhf => { fa := 4, fb := 4, slab := 64, groups := 1, limit := 128, back := some 4 }
  | .i8i8 => { fa := 5, fb := 5, slab := 128, groups := 1, limit := 128, back := some 5 }
  | .e4q4 => { fa := 0, fb := 6, slab := 128, groups := 4, limit := 128, back := none }
  | .f4f4 => { fa := 2, fb := 2, slab := 256, groups := 8, limit := 64, back := none }

/-- The slots that a rule names, each with the format allowed in that role (R257, R261). -/
def Rule.roles (r : Rule) : List (Nat × Nat) :=
  let p := pairInfo r.pair
  (r.a.map (·, p.fa)).toList ++ (r.b.map (·, p.fb)).toList ++
    (if r.ext.tagsOn then (r.ext.mask.map (·, 7)).toList else []) ++
    (match r.ext.fb with | some (some t, f) => [(t, f)] | _ => [])

/-- The format that some active rule other than acc's allows for a slot in a role where f is not allowed. -/
def Tile.disallowed (t : Tile) (acc : Option Nat) (slot f : Nat) : Option Nat :=
  ((t.ac.filter (fun e => e.2.rule.active && some e.1 != acc)).flatMap (fun e => e.2.rule.roles)).findSome?
    (fun e => if e.1 = slot ∧ e.2 ≠ f then some e.2 else none)

/-! ### Faults (R107, R279) -/

/-- MATRIX_CONFIG with its reason, index, which, and the formats found and expected. -/
def matrixConfig (reason index : Nat) (acc : Bool) (found expected : Nat) : Cause :=
  { code := .matrixConfig, info := BitVec.ofNat 64 (reason + index * 16 + natOfBool acc * 256 + found * 2 ^ 16 + expected * 2 ^ 20) }

/-- SLOT_STATE with its reason and index. -/
def slotState (reason index : Nat) (acc : Bool) : Cause :=
  { code := .slotState, info := BitVec.ofNat 64 (reason + index * 16 + natOfBool acc * 256) }

/-- ACCESS_DENIED for a name that is not held: resource 0 ring, 1 operand slot, 2 accumulator (R107). -/
def nameDenied (resource index : Nat) : Cause :=
  { code := .accessDenied, info := BitVec.ofNat 64 (index + resource * 16 + 15 * 2 ^ 60) }

/-- The physical slot behind oj. -/
def State.osOf (s : State) (w : Who) (j : Nat) : Option Nat := s.unitOf w 3 j

/-- The physical accumulator behind aj. -/
def State.acOf (s : State) (w : Who) (j : Nat) : Option Nat := s.unitOf w 4 j

/-- The fault of a slot name (R186). -/
def State.osName (s : State) (w : Who) (j : Nat) : Option Cause := if (s.osOf w j).isSome then none else some (nameDenied 1 j)

/-- The fault of an accumulator name (R186). -/
def State.acName (s : State) (w : Who) (j : Nat) : Option Cause := if (s.acOf w j).isSome then none else some (nameDenied 2 j)

/-- The slot that oj names. -/
def State.oslot (s : State) (w : Who) (j : Nat) : OSlot := (s.tile w.tile).oslot ((s.osOf w j).getD 0)

/-- The accumulator that aj names. -/
def State.accum (s : State) (w : Who) (j : Nat) : Accum := (s.tile w.tile).accum ((s.acOf w j).getD 0)

/-- Change the accumulator that aj names. -/
def State.modAccum (s : State) (w : Who) (j : Nat) (f : Accum → Accum) : State :=
  match s.acOf w j with
  | some p => s.modTile w.tile (fun t => t.modAc p f)
  | none => s

/-- Change the slot that oj names. -/
def State.modOslot (s : State) (w : Who) (j : Nat) (f : OSlot → OSlot) : State :=
  match s.osOf w j with
  | some p => s.modTile w.tile (fun t => t.modOs p f)
  | none => s

/-! ### Fills (R257, R258) -/

/-- A fill descriptor: first unit or word and how many, their size, the format of an MFILL, the flags, whether a
reserved bit is set or the format code is reserved, and whether the range leaves the area. -/
structure FillDesc where
  first : Nat
  count : Nat
  size : Nat
  format : Option Nat
  last : Bool
  start : Bool
  reserved : Bool
  beyond : Bool
  deriving DecidableEq, Repr

/-- The descriptor of MFILL, or with side of MSCL (R257). -/
def fillDesc (side : Bool) (d : Word) : FillDesc :=
  if side then
    let n := fieldNat d 8 8 + 1
    { first := fieldNat d 0 8, count := n, size := 8, format := none, last := bitAt d 16, start := bitAt d 17
      reserved := fieldNat d 18 46 != 0, beyond := decide (256 < fieldNat d 0 8 + n) }
  else
    let n := fieldNat d 8 7 + 1
    { first := fieldNat d 0 7, count := n, size := 128, format := some (fieldNat d 16 4), last := bitAt d 20, start := bitAt d 21
      reserved := bitAt d 7 || bitAt d 15 || fieldNat d 22 42 != 0 || decide (7 < fieldNat d 16 4)
      beyond := decide (128 < fieldNat d 0 7 + n) }

/-- The bytes of a fill. -/
def FillDesc.bytes (d : FillDesc) : Nat := d.count * d.size

/-- The lowest of 8-byte words from an address that a strand may not access (R158). -/
def State.wordsDenied (s : State) (w : Who) (x n : Nat) : Option Nat :=
  ((List.range n).map (fun i => (x + 8 * i) % 2 ^ 20)).find? (fun y => (s.localPhys w y).isNone)

/-- The physical pages behind n bytes from a local address, fixed at issue (R257). -/
def State.pagesOf (s : State) (w : Who) (xs : List Nat) : FMap Nat :=
  xs.foldl (fun m x => FMap.set m (x % 2 ^ 20 / 4096) (s.phys w x / 4096)) []

/-- One address of every page that n bytes from x touch. -/
def pageStarts (x n : Nat) : List Nat := (List.range (n / 4096 + 2)).map (fun i => Nat.min (x + 4096 * i) (x + n - 1))

/-- The checks of fill_issue (R257). -/
def State.fillState (s : State) (w : Who) (j : Nat) (d : FillDesc) : Option Cause :=
  let x := s.oslot w j
  if d.start && x.state == .full && x.sticky then some (slotState 1 j false)
  else if !d.start && x.state == .full then some (slotState 1 j false)
  else if d.start && x.state != .empty then none
  else
    match d.format with
    | none => none
    | some f =>
      match x.format with
      | some g => if g ≠ f then some (matrixConfig 10 j false f g) else none
      | none => none

/-- The format that a fill brings is checked against the roles in which active rules name the slot (R257). -/
def State.fillRoles (s : State) (w : Who) (j : Nat) (d : FillDesc) : Option Cause :=
  let x := s.oslot w j
  if d.start && x.state != .empty then none
  else
    match d.format with
    | none => none
    | some f => ((s.tile w.tile).disallowed none ((s.osOf w j).getD 16) f).map (fun want => matrixConfig 4 j false f want)

/-- The checks of a fill at issue, in the order of R257. -/
def State.fillFault (s : State) (w : Who) (j x : Nat) (d : FillDesc) : Option Cause :=
  if d.reserved then some (matrixConfig 3 j false 0 0)
  else if d.beyond then some (matrixConfig 5 j false 0 0)
  else if x % 8 ≠ 0 then some { code := .misaligned, info := addrInfo x 0 }
  else
    match s.wordsDenied w x (d.bytes / 8) with
    | some y => some { code := .accessDenied, info := addrInfo y 0 }
    | none => firstCause [s.fillState w j d, s.fillRoles w j d]

/-- Queue a request on a tile's matrix path (R259). -/
def State.enqueue (s : State) (t : Nat) (r : PathReq) : State :=
  { s with nextId := s.nextId + 1 }.modTile t (fun y => { y with path := y.path ++ [{ r with id := s.nextId }] })

/-- A fill issues: the slot takes its format and is FILLING, and the request is queued (R257). -/
def issueFill (side : Bool) (j : Nat) (x : Nat) (d : FillDesc) (pre cur : State) (w : Who) : State :=
  match pre.osOf w j with
  | none => cur
  | some p =>
    let s := cur.modTile w.tile (fun t => t.modOs p (fun o =>
      { o with state := .filling, format := (match d.format with | some f => some f | none => o.format) }))
    s.enqueue w.tile
      { id := 0, who := w, crew := (pre.strand w).crewId.toNat, name := j, issued := pre.now w.tile, base := x, total := d.bytes
        pages := pre.pagesOf w (pageStarts x d.bytes), kind := .fill p (d.first * d.size) side d.last }

/-- The words that a fill reads (R260). -/
def State.fillTouch (s : State) (w : Who) (x : Nat) (d : FillDesc) : List Acc :=
  (List.range (d.bytes / 8)).map (fun i => { pa := s.phys w (x + 8 * i), n := 8, load := true })

/-- MFILL, and with side MSCL (R257). -/
def hFill (side : Bool) (t : LTail) : Half :=
  let j := fieldNat t.d 0 4
  let addr := fun (s : State) (w : Who) => (s.scalar w t.srcA.loc).toNat % 2 ^ 20
  let desc := fun (s : State) (w : Who) => fillDesc side (s.scalar w t.srcB.loc)
  { mask := t.k.toNat, srcs := [t.srcA, t.srcB], memory := true
    names := fun s w => s.osName w j
    traps := fun s w => s.fillFault w j (addr s w) (desc s w)
    touch := fun s w => s.fillTouch w (addr s w) (desc s w)
    waits := fun pre _ w =>
      if (desc pre w).start && (pre.oslot w j).state != .empty then some { kind := 8, index := 16 + j } else none
    effect := fun pre cur w => issueFill side j (addr pre w) (desc pre w) pre cur w }

/-! ### Rules and stages (R262 to R270) -/

/-- The configuration word of MRULE (R262). -/
structure RuleCfg where
  m : Nat
  n : Nat
  kf : Nat
  keep : Bool
  stickyA : Bool
  stickyB : Bool
  reserved : Bool
  deriving DecidableEq, Repr

/-- Decode the configuration word (R262). -/
def ruleCfg (c : Word) : RuleCfg :=
  { m := fieldNat c 0 8, n := fieldNat c 8 7, kf := fieldNat c 16 16, keep := bitAt c 32, stickyA := bitAt c 33, stickyB := bitAt c 34
    reserved := bitAt c 15 || fieldNat c 35 29 != 0 }

/-- The rule that an MRULE makes: the staged names become physical slots (R263). -/
def State.ruleOf (s : State) (w : Who) (p : Pair) (j a b : Nat) (c : RuleCfg) (gs : Word) : Rule :=
  let e := (s.accum w j).stage
  { active := c.kf != 0, pair := p, a := s.osOf w a, b := s.osOf w b, m := c.m, n := c.n, kf := c.kf, gscale := gs.setWidth 32
    zero := !c.keep
    ext := { e with mask := e.mask.bind (fun x => s.osOf w x), fb := e.fb.map (fun x => (x.1.bind (fun y => s.osOf w y), x.2)) } }

/-- The slots that an MRULE names by crew name, each with the format allowed in its role (R261, R263). -/
def ruleNames (p : Pair) (a b : Nat) (e : Ext) : List (Nat × Nat) :=
  [(a, (pairInfo p).fa), (b, (pairInfo p).fb)] ++ (if e.tagsOn then (e.mask.map (·, 7)).toList else []) ++
    (match e.fb with | some (some t, f) => [(t, f)] | _ => [])

/-- A named slot whose format is not allowed in a role in which this rule or another active rule names it (R263). -/
def State.roleFault (s : State) (w : Who) (acc : Option Nat) (names : List (Nat × Nat)) : Option Cause :=
  names.findSome? (fun e =>
    match (s.oslot w e.1).format with
    | none => none
    | some f =>
      match names.find? (fun x => s.osOf w x.1 == s.osOf w e.1 && x.2 != f) with
      | some x => some (matrixConfig 4 e.1 false f x.2)
      | none => ((s.tile w.tile).disallowed acc ((s.osOf w e.1).getD 16) f).map (fun want => matrixConfig 4 e.1 false f want))

/-- The checks of MRULE, in the order of R263. -/
def State.ruleFault (s : State) (w : Who) (p : Pair) (j a b : Nat) (c : RuleCfg) : Option Cause :=
  let i := pairInfo p
  let e := (s.accum w j).stage
  if c.reserved then some (matrixConfig 3 j true 0 0)
  else if i.limit < c.m then some (matrixConfig 1 j true 0 0)
  else if 64 < c.n then some (matrixConfig 2 j true 0 0)
  else if a = b ∧ i.fa ≠ i.fb then some (matrixConfig 8 a false 0 0)
  else
    let staged := match e.fb with
      | some (_, f) => if i.back = some f then none else some (matrixConfig 4 j true f (i.back.getD 0))
      | none => none
    firstCause [staged, s.roleFault w (s.acOf w j) (ruleNames p a b e),
      if (s.accum w j).rule.active then some (slotState 2 j true) else none]

/-- The accumulator after an MRULE (R263, R267). -/
def Accum.adopt (x : Accum) (r : Rule) : Accum :=
  { x with
    rule := r, stage := {}, int := r.pair == .i8i8, data := if r.zero then [] else x.data
    poison := if r.zero then [] else x.poison
    completions := if r.kf = 0 then (x.completions + 1) % 65536 else x.completions
    state := if r.kf = 0 then .full else if r.zero || x.state == .clear then .clear else .opened }

/-- MRULE (R262, R263). -/
def hMrule (p : Pair) (t : LTail) : Half :=
  let j := fieldNat t.d 0 2
  let a := fieldNat t.sub 0 4
  let b := fieldNat t.sub 4 4
  let cfg := fun (s : State) (w : Who) => ruleCfg (s.scalar w t.srcA.loc)
  { mask := t.k.toNat, srcs := [t.srcA, t.srcB]
    names := fun s w => firstCause ([s.acName w j] ++ (ruleNames p a b (s.accum w j).stage).map (fun e => s.osName w e.1))
    traps := fun s w => s.ruleFault w p j a b (cfg s w)
    waits := fun pre _ w => if (pre.accum w j).busy then some { kind := 8, index := j } else none
    effect := fun pre cur w =>
      let c := cfg pre w
      let s := cur.modAccum w j (fun x => x.adopt (pre.ruleOf w p j a b c (pre.scalar w t.srcB.loc)))
      let s := s.modOslot w a (fun o => { o with sticky := c.stickyA || (a == b && c.stickyB) })
      if a = b then s else s.modOslot w b (fun o => { o with sticky := c.stickyB }) }

/-- An instruction that changes the stage of aJ, SHORT (R268, R269). -/
def stageHalf (t : LTail) (srcs : List Src) (traps : State → Who → Option Cause) (f : State → Who → Accum → Accum) : Half :=
  let j := fieldNat t.d 0 2
  { mask := t.k.toNat, srcs := srcs, names := fun s w => s.acName w j, traps := traps
    effect := fun pre cur w => cur.modAccum w j (f pre w) }

/-- The tag of a sub-block (R268). -/
def tagOf (tags : Word) (r c : Nat) : Nat := fieldNat tags (8 * r + 2 * c) 2

/-- A tag code occurs among the 32 sub-blocks. -/
def hasTag (tags : Word) (code : Nat) : Bool := (List.range 32).any (fun i => fieldNat tags (2 * i) 2 == code)

/-- MTAG (R268). -/
def hMtag (t : LTail) : Half :=
  stageHalf t [t.srcA]
    (fun s w => if hasTag (s.scalar w t.srcA.loc) 3 then some (matrixConfig 9 (fieldNat t.d 0 2) true 0 0) else none)
    (fun s w x => { x with stage := { x.stage with tags := s.scalar w t.srcA.loc } })

/-- MRULX.TAGS (R269). -/
def hMrulxTags (t : LTail) : Half :=
  stageHalf t [] (fun _ _ => none) (fun _ _ x => { x with stage := { x.stage with tagsOn := true, mask := some (fieldNat t.sub 3 4) } })

/-- MRULX.FILL (R269). -/
def hMrulxFill (t : LTail) : Half :=
  stageHalf t [t.srcA] (fun _ _ => none)
    (fun s w x => { x with stage := { x.stage with fill := (s.scalar w t.srcA.loc).setWidth 32 } })

/-- MRULX.FB: sub [8:7] names BF16, FP16 or INT8, whose format codes are 3, 4 and 5 (R253, R269). -/
def hMrulxFb (t : LTail) : Half :=
  stageHalf t [] (fun _ _ => none)
    (fun _ _ x => { x with stage := { x.stage with fb := some (some (fieldNat t.sub 3 4), 3 + fieldNat t.sub 7 2) } })

/-- MRULX.NOFB: the stage and the active rule; during the wait for the target it ends the rule with acc FULL (R269,
R271). -/
def Accum.noFeedback (x : Accum) (writing : Bool) : Accum :=
  let r := x.rule
  { x with
    stage := { x.stage with fb := none }
    rule := if r.active then
        { r with ext := { r.ext with fb := none }, waiting := r.waiting && writing, active := !(r.waiting && !writing) }
      else r }

/-- A feedback write of an accumulator is under way (R271). -/
def Tile.writing (t : Tile) (acc : Nat) : Bool := t.job.any (fun j => j.feedback && j.acc == acc)

/-- MRULX.NOFB (R269). -/
def hMrulxNofb (t : LTail) : Half :=
  stageHalf t [] (fun _ _ => none)
    (fun s w x => x.noFeedback ((s.tile w.tile).writing ((s.acOf w (fieldNat t.d 0 2)).getD 4)))

/-! ### Waiting, draining, clearing, reading (R272 to R275) -/

/-- A firing of an accumulator's rule is in progress (R273). -/
def Tile.firing (t : Tile) (acc : Nat) : Bool := t.job.any (fun j => !j.feedback && j.acc == acc)

/-- A slot is read by a firing in progress (R252). -/
def Tile.inUse (t : Tile) (slot : Nat) : Bool := t.job.any (fun j => !j.feedback && j.slots.contains slot)

/-- MWAIT (R272). -/
def hMwait (d : BitVec 6) : Half :=
  let j := fieldNat d 0 2
  { names := fun s w => s.acName w j
    traps := fun s w =>
      let x := s.accum w j
      if (s.strand w).mwait.isNone && x.state != .full && !x.busy && !x.rule.active then some (slotState 4 j true) else none
    waits := fun pre _ w =>
      let x := pre.accum w j
      let base := (pre.strand w).mwait.getD x.completions
      if x.state == .full || x.completions != base then none else some { kind := 8, index := j }
    counts := fun s w => some (s.accum w j).completions }

/-- MWAIT.CLR (R272). -/
def hMwaitClr (d : BitVec 6) : Half :=
  let j := fieldNat d 0 2
  { names := fun s w => s.acName w j
    waits := fun pre _ w =>
      let x := pre.accum w j
      if x.state == .clear && !x.busy then none else some { kind := 8, index := j } }

/-- An accumulator that a firing or a path request holds: kind 8 with its index (R273, R274). -/
def State.accWait (s : State) (w : Who) (j : Nat) : Option Wait :=
  if (s.tile w.tile).firing ((s.acOf w j).getD 4) || (s.accum w j).busy then some { kind := 8, index := j } else none

/-- The pitch of a drain: 0 means N × size (R273). -/
def pitchOf (b : Word) (n fmt : Nat) : Nat := if fieldNat b 0 20 = 0 then n * drainSize fmt else fieldNat b 0 20

/-- The local addresses of the elements of a drain (R273). -/
def drainAddrs (base fmt m n pitch : Nat) : List Nat := (List.range (m * n)).map (drainAddr base fmt n pitch)

/-- The elements that a drain writes (R260). -/
def State.drainTouch (s : State) (w : Who) (j fmt base : Nat) (b : Word) : List Acc :=
  let r := (s.accum w j).rule
  (drainAddrs base fmt r.m r.n (pitchOf b r.n fmt)).map (fun x => { pa := s.phys w x, n := drainSize fmt, store := true })

/-- The checks of MDRAIN (R273). -/
def State.drainFault (s : State) (w : Who) (j fmt base : Nat) (b : Word) : Option Cause :=
  let x := s.accum w j
  let r := x.rule
  let size := drainSize fmt
  let pitch := pitchOf b r.n fmt
  if decide (4 ≤ fmt) != x.int then some (matrixConfig 6 j true 0 0)
  else if r.m = 0 ∨ r.n = 0 then none
  else if base % size ≠ 0 then some { code := .misaligned, info := addrInfo base 1 }
  else if 2 ≤ r.m ∧ pitch % size ≠ 0 then some { code := .misaligned, info := addrInfo ((base + pitch) % 2 ^ 20) 1 }
  else
    ((drainAddrs base fmt r.m r.n pitch).filter (fun y => (s.localPhys w y).isNone)).min?.map
      (fun y => { code := .accessDenied, info := addrInfo y 1 })

/-- MDRAIN: the rule ends, the accumulator is busy, and the request is queued (R273). -/
def hMdrain (t : LTail) : Half :=
  let j := fieldNat t.d 0 2
  let fmt := fieldNat t.sub 0 3
  let base := fun (s : State) (w : Who) => (s.scalar w t.srcA.loc).toNat % 2 ^ 20
  { mask := t.k.toNat, srcs := [t.srcA, t.srcB], memory := true
    names := fun s w => s.acName w j
    traps := fun s w => s.drainFault w j fmt (base s w) (s.scalar w t.srcB.loc)
    touch := fun s w => s.drainTouch w j fmt (base s w) (s.scalar w t.srcB.loc)
    waits := fun pre _ w => pre.accWait w j
    effect := fun pre cur w =>
      match pre.acOf w j with
      | none => cur
      | some p =>
        let r := (pre.accum w j).rule
        let pitch := pitchOf (pre.scalar w t.srcB.loc) r.n fmt
        let s := cur.modAccum w j (fun x => { x with busy := true, rule := { x.rule with active := false, waiting := false } })
        s.enqueue w.tile
          { id := 0, who := w, crew := (pre.strand w).crewId.toNat, name := j, issued := pre.now w.tile, base := base pre w
            total := r.m * r.n * drainSize fmt, pages := pre.pagesOf w (drainAddrs (base pre w) fmt r.m r.n pitch)
            kind := .drain p fmt r.m r.n pitch } }

/-- MCLR aJ (R274). -/
def hMclrAcc (d : BitVec 6) : Half :=
  let j := fieldNat d 0 2
  { names := fun s w => s.acName w j
    waits := fun pre _ w => pre.accWait w j
    effect := fun _ cur w => cur.modAccum w j (fun x =>
      { x with data := [], poison := [], state := .clear, stage := {}, rule := { x.rule with active := false, waiting := false, m := 0, n := 0 } }) }

/-- MCLR oS (R274). -/
def hMclrSlot (d : BitVec 6) : Half :=
  let j := fieldNat d 0 4
  { names := fun s w => s.osName w j
    traps := fun s w => if (s.oslot w j).state == .filling then some (slotState 3 j false) else none
    waits := fun pre _ w =>
      if (pre.tile w.tile).inUse ((pre.osOf w j).getD 16) then some { kind := 8, index := 16 + j } else none
    effect := fun _ cur w => cur.modOslot w j (fun o => { o with state := .empty, sticky := false, format := none, lastDone := false }) }

/-- The code of a slot's state in MSTAT (R275). -/
def SlotState.code : SlotState → Nat
  | .empty => 0
  | .filling => 1
  | .full => 2

/-- The code of an accumulator's state in MSTAT (R275). -/
def AccState.code : AccState → Nat
  | .clear => 0
  | .opened => 1
  | .full => 2

/-- The engine commands on a slot of a tile (R289). -/
def State.slotCommands (s : State) (t slot : Nat) : Nat :=
  (s.engines.filter (fun e => e.2.run.any (fun r => r.cmd.who.tile == t && r.slot == some slot))).length

/-- The requests outstanding on a slot: fills on the path, and engine commands (R258, R289). -/
def State.outstanding (s : State) (t slot : Nat) : Nat :=
  ((s.tile t).path.filter (fun r => match r.kind with | .fill x _ _ _ => x == slot | _ => false)).length + s.slotCommands t slot

/-- MSTAT.ACC (R275). -/
def Accum.status (x : Accum) : Word :=
  let r := x.rule
  BitVec.ofNat 64 (x.state.code + natOfBool r.active * 4 + natOfBool x.busy * 8 + natOfBool x.int * 16 +
    natOfBool (r.active && r.ext.fb.isSome) * 32 + natOfBool (r.active && r.waiting) * 64 + r.count * 2 ^ 16 + r.kf * 2 ^ 32 +
    x.completions * 2 ^ 48)

/-- MSTAT.OS (R275). -/
def State.slotStatus (s : State) (tile slot : Nat) : Word :=
  let t := s.tile tile
  let x := t.oslot slot
  BitVec.ofNat 64 (x.state.code + natOfBool x.sticky * 4 + natOfBool (t.inUse slot) * 8 + x.format.getD 15 * 16 +
    Nat.min (s.outstanding tile slot) 255 * 256)

/-- MSTAT.ARR (R275). -/
def Tile.arrayStatus (t : Tile) : Word :=
  BitVec.ofNat 64 (t.lastFired + natOfBool (t.job.any (fun j => !j.feedback)) * 4 + t.firings % 2 ^ 32 * 2 ^ 32)

/-- MSTAT: the a field is an index (R275). -/
def hMstat (t : LTail) : Half :=
  let i := t.a.toNat
  let f := fieldNat t.sub 0 2
  { shortHalf t.k [] t.dst (fun s w _ =>
      match f with
      | 0 => (s.accum w i).status
      | 1 => s.slotStatus w.tile ((s.osOf w i).getD 16)
      | _ => (s.tile w.tile).arrayStatus) with
    names := fun s w =>
      match f with
      | 0 => s.acName w i
      | 1 => s.osName w i
      | _ => none }

/-! ### MRED (R278) -/

/-- The chain of an MRED: the whole gang, or with row the member's own gang row. -/
def State.chain (s : State) (w : Who) (row : Bool) : List Who :=
  (s.members w).filter (fun m => !row || rowOf m.tile == rowOf w.tile)

/-- A table of 8,192 elements from a function; zeros are not listed. -/
def tabulate (f : Nat → BitVec 32) : FMap (BitVec 32) :=
  (List.range 8192).filterMap (fun k => if f k = 0 then none else some (k, f k))

/-- The sum of an incoming part and a member's accumulator (R130, R278). -/
def chainAdd (tile : Nat) (acc : FMap (BitVec 32)) (x : Accum) : FMap (BitVec 32) :=
  let nan : BitVec 32 := BitVec.ofNat 32 (0x7FC00000 + tile % 2048 * 2048 + x.rule.num)
  tabulate (fun k =>
    let a := FMap.get 0 acc k
    let b := FMap.get 0 x.data k
    if x.int then a + b else madd nan a b)

/-- The sum at the end of a chain. -/
def State.chainSum (s : State) (j : Nat) : List Who → FMap (BitVec 32)
  | [] => []
  | m :: r => r.foldl (fun acc x => chainAdd x.tile acc (s.accum x j)) (s.accum m j).data

/-- MRED on one member: its accumulator is busy and OPEN; it sends its part within 512 + 64p cycles, and the last one
completes the sum within 512 + 64h cycles (R278). -/
def redMember (pre cur : State) (w : Who) (j : Nat) (chain : List Who) : State :=
  let p := (chain.takeWhile (fun m => m != w)).length
  match pre.acOf w j with
  | none => cur
  | some a =>
    let s := cur.modAccum w j (fun x => { x with busy := true, state := .opened })
    if p + 1 < chain.length then s.send w 1 (some (512 + 64 * p + 1)) (.mredPart w.tile a)
    else s.send w 1 (some (512 + 64 * p)) (.mredSum w.tile a (pre.chainSum j chain))

/-- MRED; an unfused strand's leaves its FULL accumulator unchanged (R278). -/
def hMred (t : LTail) : Half :=
  let j := fieldNat t.d 0 2
  let settled := fun (s : State) (w : Who) => (s.accum w j).state == .full && !(s.accum w j).busy
  { names := fun s w => s.acName w j
    traps := fun s w =>
      let x := s.accum w j
      if x.state != .full && !x.busy && !x.rule.active then some (slotState 4 j true)
      else if !(s.members w).all (settled s) || !(s.strand w).fused then none
      else if x.int != (s.accum (s.leader w) j).int then some (matrixConfig 7 j true 0 0)
      else if x.rule.active && x.rule.ext.fb.isSome then some (slotState 5 j true)
      else none
    waits := fun pre _ w => if settled pre w then none else some { kind := 8, index := j }
    effect := fun pre cur w =>
      if (pre.strand w).fused then redMember pre cur w j (pre.chain w (bitAt t.sub 0)) else cur }

/-- A word of an accumulator slot has an uncorrectable error (R408). -/
def Accum.bad (x : Accum) : Bool := x.poison.any (·.2)

/-- The accumulator that a flight of an MRED reads, where it holds an uncorrectable word (R408). -/
def State.redBad (s : State) (f : Flight) : List Nat :=
  let look := fun (t a : Nat) => if ((s.tile t).accum a).bad then [t] else []
  match f.kind with
  | .mredPart t a => look t a
  | .mredSum t a _ => look t a
  | _ => []

/-- UNCORRECTABLE in the matrix stores of a tile terminates the placement that owns them (R408). -/
def State.matrixFatal (s : State) (tile structure_ : Nat) : State := s.placementFatal ⟨tile, 0⟩ (eccCause structure_ 0 tile 0) 0

/-- UNCORRECTABLE of an MRED: structure 3 (R280, R407, R408). -/
def State.redFatal (s : State) (l : List Nat) : State := l.foldl (fun (a : State) t => a.matrixFatal t 3) s

/-- MRED_PART_SENT: a member before the last has sent its part; its accumulator is CLEAR and not busy (R278). -/
def execMredPartSent (f : Nat) (s : State) : Host.Outcome State Fault Refusal :=
  withFlight s f (fun k => match k with | .mredPart _ _ => true | _ => false) (fun s x =>
    match x.kind with
    | .mredPart t a =>
      if !(s.redBad x).isEmpty then (s.dropFlight f).redFatal (s.redBad x)
      else (s.dropFlight f).modTile t (fun y => y.modAc a (fun z => { z with data := [], poison := [], state := .clear, busy := false }))
    | _ => s)

/-- MRED_COMPLETE: the last member's sum is complete (R278). -/
def execMredComplete (f : Nat) (s : State) : Host.Outcome State Fault Refusal :=
  withFlight s f (fun k => match k with | .mredSum _ _ _ => true | _ => false) (fun s x =>
    match x.kind with
    | .mredSum t a d =>
      if (s.redBad x).isEmpty then
        (s.dropFlight f).modTile t (fun y => y.modAc a (fun z => { z with data := d, poison := [], state := .full, busy := false }))
      else (s.dropFlight f).redFatal (s.redBad x)
    | _ => s)

/-! ### Operands of a firing (R254, R255) -/

/-- A byte of a slot's data. -/
def OSlot.byte (x : OSlot) (i : Nat) : Nat := (FMap.get 0 x.data i).toNat

/-- A byte of a slot's side area. -/
def OSlot.sideByte (x : OSlot) (i : Nat) : Nat := (FMap.get 0 x.side i).toNat

/-- The Q4 levels in units of 1/64 (R115). -/
def q4Level (code : Nat) : Int :=
  ([-64, -45, -34, -25, -18, -12, -6, 0, 5, 11, 17, 24, 32, 42, 53, 64] : List Int).getD code 0

/-- The 4-bit code of element k of a unit, the even element low (R109, R254). -/
def OSlot.nibble (x : OSlot) (u k : Nat) : Nat := x.byte (128 * u + k / 2) / 16 ^ (k % 2) % 16

/-- Element k of unit u under a format code (R108, R109, R116, R254). -/
def OSlot.elem (x : OSlot) (fmt u k : Nat) : Num :=
  match fmt with
  | 0 => e4m3.decode (x.byte (128 * u + k))
  | 1 => e5m2.decode (x.byte (128 * u + k))
  | 2 => e2m1.decode (x.nibble u k)
  | 3 => bf16.decode (x.byte (128 * u + 2 * k) + 256 * x.byte (128 * u + 2 * k + 1))
  | 4 => fp16.decode (x.byte (128 * u + 2 * k) + 256 * x.byte (128 * u + 2 * k + 1))
  | _ =>
    let l := q4Level (x.nibble u k)
    .fin (decide (l < 0)) (l.natAbs * (x.sideByte (8 * u + k / 64) + 1)) (-14)

/-- An S20 of the side area: three bytes, bits [23:20] ignored (R112). -/
def OSlot.s20 (x : OSlot) (i : Nat) : Nat := (x.sideByte i + 256 * x.sideByte (i + 1) + 65536 * x.sideByte (i + 2)) % 2 ^ 20

/-- The block scale of group g of unit u as FP32; a NaN scale is the NaN that arises (R112, R127, R255). -/
def OSlot.scale (x : OSlot) (fmt u g : Nat) (arising : Lane) : Lane :=
  let of (s : Nat) : Lane := if s / 4096 = 255 then arising else s20Val s
  match fmt with
  | 0 => of (x.s20 (12 * u + 3 * g))
  | 1 => of (x.s20 (12 * u + 3 * g))
  | 2 => of (x.s20 (24 * u + 3 * g))
  | 6 => of (x.s20 (8 * u + 2))
  | _ => 0x3F800000

/-- The groups of a slab for row i and column c: the exact products and the two scales (R125, R126). -/
def slabGroups (p : Pair) (a b : OSlot) (i c : Nat) (arising : Lane) : List (List PVal × Lane × Lane) :=
  let f := pairInfo p
  let n := f.slab / f.groups
  (List.range f.groups).map (fun g =>
    ((List.range n).map (fun k => productOf (a.elem f.fa i (n * g + k)) (b.elem f.fb c (n * g + k))),
      a.scale f.fa i g arising, b.scale f.fb c g arising))

/-- A signed byte. -/
def signedByte (x : Nat) : Int := if x < 128 then x else (x : Int) - 256

/-- The integer dot product of an I8I8 slab (R128). -/
def intDot (a b : OSlot) (i c : Nat) : Int :=
  ((List.range 128).map (fun k => signedByte (a.byte (128 * i + k)) * signedByte (b.byte (128 * c + k)))).sum

/-- One element of a firing (R126, R128, R129, R265). -/
def fireElem (tile : Nat) (r : Rule) (a b : OSlot) (i c : Nat) (old : Lane) : Lane :=
  if r.pair = .i8i8 then BitVec.ofInt 32 (old.toInt + intDot a b i c)
  else
    let nan := BitVec.ofNat 32 (0x7FC00000 + tile % 2048 * 2048 + r.num)
    slabUpdate nan old r.gscale (slabGroups r.pair a b i c nan)

/-- Bit (i, c) of a mask operand (R270). -/
def OSlot.maskBit (x : OSlot) (i c : Nat) : Bool := (x.byte (8 * i + c / 8)).testBit (c % 8)

/-- An element that a firing computes: its sub-block is VISIBLE, or MIXED with its mask bit set (R265, R270). -/
def Ext.visible (e : Ext) (mask : OSlot) (i c : Nat) : Bool :=
  if !e.tagsOn then true
  else
    match tagOf e.tags (i / 16) (c / 16) with
    | 0 => true
    | 2 => mask.maskBit i c
    | _ => false

/-- The cycles of a firing (R266). -/
def Rule.cycles (r : Rule) : Nat :=
  let n := ((List.range ((r.m + 15) / 16)).flatMap (fun i => (List.range ((r.n + 15) / 16)).filter (fun c =>
    !r.ext.tagsOn || tagOf r.ext.tags i c != 1))).length
  if n = 0 then 1 else 16 * n

/-- The rule's tags hold a MIXED code, so that it reads its mask slot (R264). -/
def Rule.masked (r : Rule) : Bool := r.ext.tagsOn && hasTag r.ext.tags 2

/-- The slots that a firing of a rule reads, where all of them are held (R264). -/
def Rule.operands (r : Rule) : Option (List Nat) :=
  match r.a, r.b, r.ext.mask with
  | some a, some b, some m => some (if r.masked then [a, b, m] else [a, b])
  | some a, some b, none => if r.masked then none else some [a, b]
  | _, _, _ => none

/-- A rule is ready, but for what the tile says (R264). -/
def Tile.readyRule (t : Tile) (j : Nat) : Bool :=
  let x := t.accum j
  let r := x.rule
  r.active && !r.waiting && decide (r.count < r.kf) && x.state != .full && !x.busy &&
    (match r.operands with
     | some l => l.all (fun s => (t.oslot s).state == .full)
     | none => false)

/-- A feedback write whose target has become EMPTY (R264, R271). -/
def Tile.feedbackReady (t : Tile) (j : Nat) : Option Nat :=
  let r := (t.accum j).rule
  match r.ext.fb with
  | some (some s, _) => if r.active && r.waiting && (t.oslot s).state == .empty then some s else none
  | _ => none

/-- The choice of the next work: a feedback write, lowest index first, or, where the array may fire, the ready rule that comes next
after the last one fired (R264). A target that is being written counts as FILLING. -/
def Tile.choose (t : Tile) : Tile :=
  match (List.range 4).findSome? (fun j => (t.feedbackReady j).map (fun s => (j, s))) with
  | some (j, s) =>
    { t with job := some { feedback := true, acc := j, slots := [s], left := 64 } }.modOs s (fun o => { o with state := .filling })
  | none =>
    if t.frozen || !t.arrayOn then t
    else
    match ((List.range 4).map (fun x => (t.lastFired + 1 + x) % 4)).find? t.readyRule with
    | none => t
    | some j =>
      let r := (t.accum j).rule
      { t with job := some { feedback := false, acc := j, slots := r.operands.getD [], left := r.cycles }
               lastFired := j, firings := (t.firings + 1) % 2 ^ 32 }

/-- A cycle in which the throttle lets the array work (R399). -/
def State.workCycle (s : State) (t : Nat) : Bool :=
  decide ((s.tcyc t + colOf t) % 8 < 8 - (s.die (dieOf t)).pwrStep.toNat)

/-- FIRING_START: an idle array makes its choice, a held cycle not counting as idle; a tile that is frozen and an array that is not
enabled start no firing, but do start a feedback write (R264, R280, R356, R399, R401). -/
def execFiringStart (tile : Nat) (s : State) : Host.Outcome State Fault Refusal :=
  let t := s.tile tile
  if t.job.isNone && (s.workCycle tile || t.backEnded = some (s.now tile)) then .next (s.setTile tile t.choose) else .next s

/-- An element of a rule's region, by its place in the accumulator. -/
def Rule.covers (r : Rule) (k : Nat) : Bool := decide (k / 64 < r.m) && decide (k % 64 < r.n)

/-- An element that the completion of a rule gives the fill value (R271). -/
def Rule.fills (r : Rule) (mask : OSlot) (k : Nat) : Bool := r.covers k && !r.ext.visible mask (k / 64) (k % 64)

/-- An element that a firing computes (R265). -/
def Rule.computes (r : Rule) (mask : OSlot) (k : Nat) : Bool := r.covers k && r.ext.visible mask (k / 64) (k % 64)

/-- The completion of a rule: hidden elements take the fill value; without feedback the rule ends, with feedback it waits
for its target (R271). -/
def Accum.complete (x : Accum) (mask : OSlot) : Accum :=
  let r := x.rule
  { x with
    data := tabulate (fun k =>
      if r.fills mask k then r.ext.fill else FMap.get 0 x.data k)
    poison := x.poison.filter (fun e => !(r.fills mask (2 * e.1) && r.fills mask (2 * e.1 + 1)))
    state := .full, completions := (x.completions + 1) % 65536
    rule := if r.ext.fb.isSome then { r with waiting := true } else { r with active := false } }

/-- The accumulator after a firing (R265). -/
def Accum.fire (x : Accum) (tile : Nat) (a b mask : OSlot) : Accum :=
  let r := x.rule
  let y : Accum :=
    { x with
      data := tabulate (fun k =>
        if r.computes mask k then fireElem tile r a b (k / 64) (k % 64) (FMap.get 0 x.data k)
        else FMap.get 0 x.data k)
      state := .opened, rule := { r with count := r.count + 1, num := (r.num + 1) % 2048 } }
  if r.count + 1 = r.kf then y.complete mask else y

/-- A slot that is not sticky becomes EMPTY at the end of a firing (R252, R265). -/
def OSlot.consume (x : OSlot) : OSlot := if x.sticky then x else { x with state := .empty, format := none }

/-- The bytes of unit u that a firing reads in a format with slabs of a length: its elements, and its scales behind the 16,384 bytes
of data. Bytes that R254 and R255 ignore are not read. -/
def unitSpans (fmt slab u : Nat) : List (Nat × Nat) :=
  let size := match fmt with
    | 2 => slab / 2
    | 6 => slab / 2
    | 3 => 2 * slab
    | 4 => 2 * slab
    | _ => slab
  let side := match fmt with
    | 0 => [(16384 + 12 * u, 12)]
    | 1 => [(16384 + 12 * u, 12)]
    | 2 => [(16384 + 24 * u, 24)]
    | 6 => [(16384 + 8 * u, 5)]
    | _ => []
  (128 * u, size) :: side

/-- One of the 8-byte words behind some bytes of a slot is uncorrectable; words of the side area count from 2,048 (R407, R408). -/
def OSlot.bytesBad (x : OSlot) (e : Nat × Nat) : Bool :=
  (List.range (e.2 / 8 + 2)).any (fun i => decide (e.1 / 8 + i ≤ (e.1 + e.2 - 1) / 8) && FMap.get false x.poison (e.1 / 8 + i))

/-- Unit u of an operand holds an uncorrectable word that a firing reads. -/
def OSlot.unitBad (x : OSlot) (fmt slab u : Nat) : Bool := (unitSpans fmt slab u).any x.bytesBad

/-- A firing meets an uncorrectable word of its accumulator: it reads the elements that it computes, and a fill value that covers half
a word counts as a read of it (R265, R271, R408). -/
def Accum.fireBad (x : Accum) (mask : OSlot) : Bool :=
  let r := x.rule
  x.poison.any (fun e => e.2 &&
    (r.computes mask (2 * e.1) || r.computes mask (2 * e.1 + 1) ||
      (decide (r.count + 1 = r.kf) && r.fills mask (2 * e.1) != r.fills mask (2 * e.1 + 1))))

/-- A feedback write meets an uncorrectable word: it reads all columns of the rows below the slab length (R271, R408). -/
def Accum.backBad (x : Accum) : Bool := x.poison.any (fun e => e.2 && decide (e.1 / 32 < (pairInfo x.rule.pair).slab))

/-- A firing meets an uncorrectable word of its operands: in a unit of A or of B with an element that it computes, or in a row of the
mask in which a sub-block is MIXED (R265, R270, R408). -/
def Rule.operandBad (r : Rule) (a b mask : OSlot) : Bool :=
  let p := pairInfo r.pair
  let sees := fun i c => r.ext.visible mask i c
  let mixed := fun i => r.ext.tagsOn && (List.range r.n).any (fun c => tagOf r.ext.tags (i / 16) (c / 16) == 2)
  (List.range r.m).any (fun i => (a.unitBad p.fa p.slab i && (List.range r.n).any (sees i)) || (FMap.get false mask.poison i && mixed i)) ||
    (List.range r.n).any (fun c => b.unitBad p.fb p.slab c && (List.range r.m).any (fun i => sees i c))

/-- A firing meets an uncorrectable word: of an operand, structure 2, or of its accumulator, structure 3 (R407, R408). -/
def Tile.firePoison (t : Tile) (j : Job) : Option Nat :=
  let x := t.accum j.acc
  let mask := t.oslot (j.slots.getD 2 16)
  if x.rule.operandBad (t.oslot (j.slots.getD 0 16)) (t.oslot (j.slots.getD 1 16)) mask then some 2
  else if x.fireBad mask then some 3
  else none

/-- FIRING_END (R265). -/
def execFiringEnd (tile : Nat) (s : State) : Host.Outcome State Fault Refusal :=
  let t := s.tile tile
  match t.job with
  | some j =>
    if j.feedback || j.left != 0 then .next s
    else
      match t.firePoison j with
      | some c => .next ((s.modTile tile (fun y => { y with job := none })).matrixFatal tile c)
      | none =>
        let a := j.slots.getD 0 16
        let b := j.slots.getD 1 16
        let y := ({ t with job := none }.modAc j.acc (fun x => x.fire tile (t.oslot a) (t.oslot b) (t.oslot (j.slots.getD 2 16))))
        let y := y.modOs a OSlot.consume
        .next (s.setTile tile (if a = b then y else y.modOs b OSlot.consume))
  | none => .next s

/-- An INT32 element as INT8, saturating (R122). -/
def satByte (x : Lane) : Nat :=
  let v := x.toInt
  (BitVec.ofInt 8 (if v < -128 then -128 else if 127 < v then 127 else v)).toNat

/-- The conversion of feedback: BF16, FP16 or INT8 (R271). -/
def feedbackCode (fmt : Nat) (int : Bool) (x : Lane) : Nat :=
  match fmt with
  | 3 => (narrow 1 0 0 x).toNat
  | 4 => (narrow 0 0 0 x).toNat
  | _ => if int then satByte x else (narrow 7 0 0 x).toNat

/-- The data of a slot after a feedback write: element k of unit c comes from row k, column c (R271). -/
def feedbackData (fmt : Nat) (x : Accum) (old : FMap Byte) : FMap Byte :=
  let size := if fmt = 5 then 1 else 2
  let slab := 128 / size
  (List.range 64).foldl (fun m c =>
    (List.range slab).foldl (fun m k =>
      let v := feedbackCode fmt x.int (FMap.get 0 x.data (64 * k + c))
      let m := FMap.put 0 m (128 * c + size * k) (BitVec.ofNat 8 v)
      if size = 2 then FMap.put 0 m (128 * c + 2 * k + 1) (BitVec.ofNat 8 (v / 256)) else m) m) old

/-- FEEDBACK_WRITE_END: the target is FULL and the rule is armed again; a rule that was ended meanwhile leaves its target
EMPTY (R271; DESIGN CHOICE, assumption 130). -/
def execFeedbackWriteEnd (tile : Nat) (s : State) : Host.Outcome State Fault Refusal :=
  let t := s.tile tile
  match t.job with
  | some j =>
    if !j.feedback || j.left != 0 then .next s
    else
      let x := t.accum j.acc
      let slot := j.slots.getD 0 16
      let t := { t with job := none, backEnded := some (s.now tile) }
      if x.rule.active && x.rule.waiting then
        let fmt := (pairInfo x.rule.pair).back.getD 3
        let t := t.modOs slot (fun o =>
          { o with data := feedbackData fmt x o.data, poison := o.poison.dropRange 0 1024, format := some fmt, state := .full })
        if x.backBad then .next ((s.modTile tile (fun y => { y with job := none })).matrixFatal tile 3)
        else .next (s.setTile tile (t.modAc j.acc (fun y =>
          { y with data := if y.rule.zero then [] else y.data, poison := if y.rule.zero then [] else y.poison, state := if y.rule.zero then .clear else .opened
                   rule := { y.rule with count := 0, waiting := false } })))
      else .next (s.setTile tile (t.modOs slot (fun o => { o with state := .empty, format := none })))
  | none => .next s

/-! ### The matrix path (R259) -/

/-- Runs of bytes joined where one follows the other. -/
def mergeRuns : List (Nat × Nat) → List (Nat × Nat)
  | [] => []
  | (a, n) :: r =>
    match mergeRuns r with
    | (b, m) :: r' => if a + n = b then (a, n + m) :: r' else (a, n) :: (b, m) :: r'
    | [] => [(a, n)]

/-- Bytes go into a slot's data or side area from a byte on; whole words lose their poison (R257, R408). -/
def OSlot.put (x : OSlot) (side : Bool) (off : Nat) (l : List Byte) : OSlot :=
  let write := fun (m : FMap Byte) => (List.range l.length).foldl (fun m i => FMap.put 0 m (off + i) (l.getD i 0)) m
  let w0 := (off + 7) / 8
  let clean := x.poison.dropRange ((if side then 2048 else 0) + w0) ((if side then 2048 else 0) + Nat.max w0 ((off + l.length) / 8))
  if side then { x with side := write x.side, poison := clean } else { x with data := write x.data, poison := clean }

/-- The conversion of a drain (R273). -/
def drainCode (fmt : Nat) (x : Lane) : Nat :=
  match fmt with
  | 0 => x.toNat
  | 1 =>
    match dec32 x with
    | .fin n m e => bf16.saturating.ofNum false 0 0 (.fin n m e)
    | _ => (narrow 1 0 0 x).toNat
  | 2 => (narrow 3 0 0 x).toNat
  | 3 => (narrow 5 0 0 x).toNat
  | 4 => x.toNat
  | _ => satByte x

/-- The bytes that a drain writes between two byte counts, with their physical addresses, in row-major order (R273). -/
def PathReq.drained (r : PathReq) (x : Accum) (lo hi : Nat) : List (Nat × Byte) :=
  match r.kind with
  | .drain _ f _ n p =>
    let size := drainSize f
    (List.range ((hi - lo) / size)).flatMap (fun i =>
      let e := lo / size + i
      let v := drainCode f (FMap.get 0 x.data (e / n * 64 + e % n))
      let pa := r.phys (drainAddr r.base f n p e)
      (List.range size).map (fun b => (pa + b, byteOf v b)))
  | _ => []

/-- The local addresses of the elements that a drain writes between two byte counts (R273). -/
def PathReq.drainPlaces (r : PathReq) (lo hi : Nat) : List Nat :=
  match r.kind with
  | .drain _ f _ n p => (List.range ((hi - lo) / drainSize f)).map (fun i => drainAddr r.base f n p (lo / drainSize f + i))
  | _ => []

/-- An element of the accumulator that a drain reads between two byte counts lies in an uncorrectable word (R280, R408). -/
def PathReq.accBad (r : PathReq) (x : Accum) (lo hi : Nat) : Bool :=
  match r.kind with
  | .drain _ f _ n _ =>
    (List.range ((hi - lo) / drainSize f)).any (fun i =>
      let e := lo / drainSize f + i
      FMap.get false x.poison ((e / n * 64 + e % n) / 2))
  | _ => false

/-- The bytes of a list cover the whole 8-byte word of an address. -/
def coversWord (l : List (Nat × Byte)) (pa : Nat) : Bool :=
  (List.range 8).all (fun i => l.any (fun e => e.1 == pa / 8 * 8 + i))

/-- Bytes go into scratchpad in order; words covered whole lose their poison (R408). -/
def Tile.putBytes (t : Tile) (l : List (Nat × Byte)) : Tile :=
  let t' := l.foldl (fun (a : Tile) e => a.setByte e.1 e.2) t
  l.foldl (fun (a : Tile) e => if coversWord l e.1 then a.cleanse e.1 else a) t'

/-- The path has its banks in this cycle: no bundle holds them (R163, R259). -/
def State.banksFree (s : State) (t : Nat) (bs : List Nat) : Bool :=
  bs.all (fun b => decide ((s.tile t).bankHeld.getD b 0 ≤ s.now t))

/-- The path takes its banks for this cycle. -/
def State.takeBanks (s : State) (t : Nat) (bs : List Nat) : State :=
  s.modTile t (fun y => { y with bankHeld := (List.range 3).map (fun b =>
    if bs.contains b then Nat.max (y.bankHeld.getD b 0) (s.now t + 1) else y.bankHeld.getD b 0) })

/-- Change the request at the head of the path. -/
def Tile.setHead (t : Tile) (r : PathReq) : Tile := { t with path := r :: t.path.drop 1 }

/-- A request moves its next 128 bytes; an uncorrectable word ends the placement, which learns the word's local address (R107, R259,
R408). -/
def State.moveChunk (s : State) (t : Nat) (r : PathReq) : State :=
  let lo := r.moved
  let hi := Nat.min r.total (lo + 128)
  let runs := mergeRuns (r.runs lo hi)
  let y := s.tile t
  let r' := { r with moved := hi, refused := 0 }
  match r.kind with
  | .fill slot off side _ =>
    match ((List.range ((hi - lo) / 8)).map (fun i => r.base + lo + 8 * i)).find? (fun x => y.poisoned (r.phys x) 8) with
    | some x => s.placementFatal r.who (eccCause 1 (x % 2 ^ 20) t (r.phys x / 8)) 0
    | none =>
      let l := runs.flatMap (fun e => (List.range e.2).map (fun i => y.look (e.1 + i)))
      let s := s.setTile t ((y.setHead r').modOs slot (fun o => o.put side (off + lo) l))
      runs.foldl (fun (a : State) e => a.burstStrike t 0xFF r.who.strand e.1 e.2 false 0) s
  | .drain acc _ _ _ _ =>
    let l := r.drained (y.accum acc) lo hi
    if r.accBad (y.accum acc) lo hi then s.matrixFatal t 3
    else
    match (r.drainPlaces lo hi).find? (fun x => y.poisoned (r.phys x) 1 && !coversWord l (r.phys x)) with
    | some x => s.placementFatal r.who (eccCause 1 x t (r.phys x / 8)) 0
    | none =>
      let s := s.setTile t ((y.setHead r').putBytes l)
      runs.foldl (fun (a : State) e => a.burstStrike t 0xFF r.who.strand e.1 e.2 true 0) s
  | .write _ slot off side data =>
    s.setTile t ((y.setHead r').modOs slot (fun o => o.put side (off + lo) ((data.drop lo).take (hi - lo))))

/-- One cycle of the matrix path: the request at its head moves 128 bytes if it has its banks, and is refused otherwise
(R163, R259). -/
def State.pathCycle (s : State) (t : Nat) : State :=
  match (s.tile t).path with
  | [] => s
  | r :: _ =>
    if !r.started || decide (r.total ≤ r.moved) then s
    else if s.banksFree t r.nextBanks then (s.takeBanks t r.nextBanks).moveChunk t r
    else s.modTile t (fun y => y.setHead { r with refused := r.refused + 1 })

/-- One cycle of the array: the work in hand goes on; feedback writes are not throttled (R266, R271, R399). -/
def State.arrayCycle (s : State) (t : Nat) : State :=
  match (s.tile t).job with
  | none => s
  | some j =>
    if j.feedback || s.workCycle t then s.modTile t (fun y => { y with job := some { j with left := j.left - 1 } }) else s

/-- PATH_REQUEST_START: the path, when it is free, starts the next request (R259). -/
def execPathRequestStart (tile : Nat) (s : State) : Host.Outcome State Fault Refusal :=
  match (s.tile tile).path with
  | [] => .next s
  | r :: _ =>
    if !r.started && decide (r.issued ≤ s.now tile) then .next (s.modTile tile (fun y => y.setHead { r with started := true })) else .next s

/-- A request on a slot has completed; last: it carried .last. The slot becomes FULL, or after a failed engine command
EMPTY, when nothing is outstanding on it (R258, R289). -/
def State.settleSlot (s : State) (tile slot : Nat) (last : Bool) : State :=
  let x := (s.tile tile).oslot slot
  let x := { x with lastDone := x.lastDone || last }
  let x :=
    if s.outstanding tile slot = 0 && x.state == .filling then
      if x.spoiled then { x with state := .empty, format := none, lastDone := false, spoiled := false }
      else if x.lastDone then { x with state := .full, lastDone := false }
      else x
    else x
  s.modTile tile (fun t => t.modOs slot (fun _ => x))

/-- PATH_REQUEST_COMPLETE: the fill at the head of the path has moved all its bytes (R258). -/
def execPathRequestComplete (tile : Nat) (s : State) : Host.Outcome State Fault Refusal :=
  match (s.tile tile).path with
  | [] => .next s
  | r :: rest =>
    if r.moved < r.total then .next s
    else
      match r.kind with
      | .fill slot _ _ last => .next ((s.modTile tile (fun y => { y with path := rest })).settleSlot tile slot last)
      | .write e _ _ _ data => .next ((s.modTile tile (fun y => { y with path := rest })).engineWrote e data.length)
      | .drain _ _ _ _ _ => .next s

/-- A drain all of whose bytes are written; one that writes nothing is done in the cycle after its issue (R273). -/
def PathReq.drainedAt (r : PathReq) (now : Nat) : Option Nat :=
  match r.kind with
  | .drain acc _ _ _ _ => if r.total ≤ r.moved ∧ r.issued < now then some acc else none
  | _ => none

/-- A drain of an accumulator is done: it is zero, CLEAR and not busy (R273). -/
def Tile.endDrain (t : Tile) (p : Nat) : Tile := t.modAc p (fun x => { x with data := [], poison := [], state := .clear, busy := false })

/-- DRAIN_COMPLETE: every drain that is written is done (R273, R276). -/
def execDrainComplete (tile : Nat) (s : State) : Host.Outcome State Fault Refusal :=
  let t := s.tile tile
  match t.path.filterMap (fun r => r.drainedAt (s.now tile)) with
  | [] => .next s
  | l => .next (s.setTile tile (l.foldl Tile.endDrain { t with path := t.path.filter (fun r => (r.drainedAt (s.now tile)).isNone) }))

-- BEGIN
/-- R257: Queues a copy of scratchpad units into an operand slot. -/
def execMfill (t : LTail) (s : State) : Host.Outcome State Fault Refusal := run1 (hFill false t) s

/-- R257: Queues a copy of scale words into a slot's side area. -/
def execMscl (t : LTail) (s : State) : Host.Outcome State Fault Refusal := run1 (hFill true t) s

/-- R263: Configures a rule on an accumulator for a format pair. -/
def execMrule (p : Pair) (t : LTail) (s : State) : Host.Outcome State Fault Refusal := run1 (hMrule p t) s

/-- R268: Writes 64 bits of sub-block tags into the stage. -/
def execMtag (t : LTail) (s : State) : Host.Outcome State Fault Refusal := run1 (hMtag t) s

/-- R269: Stages mask-tag mode with a mask slot. -/
def execMrulxTags (t : LTail) (s : State) : Host.Outcome State Fault Refusal := run1 (hMrulxTags t) s

/-- R269: Stages a fill value. -/
def execMrulxFill (t : LTail) (s : State) : Host.Outcome State Fault Refusal := run1 (hMrulxFill t) s

/-- R269: Stages feedback into a slot in a format. -/
def execMrulxFb (t : LTail) (s : State) : Host.Outcome State Fault Refusal := run1 (hMrulxFb t) s

/-- R269: Turns feedback off in the stage and the active rule. -/
def execMrulxNofb (t : LTail) (s : State) : Host.Outcome State Fault Refusal := run1 (hMrulxNofb t) s

/-- R273: Deactivates the rule and queues the accumulator region to scratchpad. -/
def execMdrain (t : LTail) (s : State) : Host.Outcome State Fault Refusal := run1 (hMdrain t) s

/-- R278: Sums an accumulator along a gang chain. -/
def execMred (t : LTail) (s : State) : Host.Outcome State Fault Refusal := run1 (hMred t) s

/-- R275: S form: reads accumulator, slot or array state. -/
def execMstat (t : STail) (s : State) : Host.Outcome State Fault Refusal := run1 (hMstat t.toL) s

/-- R275: L form of MSTAT. -/
def execMstatL (t : LTail) (s : State) : Host.Outcome State Fault Refusal := run1 (hMstat t) s

/-- R272: Waits for the accumulator to be FULL or its completion count to change. -/
def execMwait (d : BitVec 6) (s : State) : Host.Outcome State Fault Refusal := run1 (hMwait d) s

/-- R272: Waits for the accumulator to be CLEAR and not busy. -/
def execMwaitClr (d : BitVec 6) (s : State) : Host.Outcome State Fault Refusal := run1 (hMwaitClr d) s

/-- R274: Clears an accumulator and deactivates its rule. -/
def execMclrAcc (d : BitVec 6) (s : State) : Host.Outcome State Fault Refusal := run1 (hMclrAcc d) s

/-- R274: Empties an operand slot and drops its sticky flag. -/
def execMclrSlot (d : BitVec 6) (s : State) : Host.Outcome State Fault Refusal := run1 (hMclrSlot d) s
-- END
end Sys2Proof.Machine
end

