-- ==== Sys2Proof/Machine/Keccak.lean ====
section
/-!
DEFINITION. The Keccak functions that the device computes: SHAKE256 for the check field of tickets (R234), and cSHAKE256
and KMAC256 for the frames of sessions (R374, R375), as the standards FIPS 202 and SP 800-185 define them.
-/
namespace Sys2Proof.Machine

/-- The rotation of lane x + 5y in step rho. -/
def keccakRot : List Nat :=
  [0, 1, 62, 28, 27, 36, 44, 6, 55, 20, 3, 10, 43, 25, 39, 41, 45, 15, 21, 8, 18, 2, 61, 56, 14]

/-- The round constants of step iota. -/
def keccakRC : List Word :=
  [0x0000000000000001, 0x0000000000008082, 0x800000000000808A, 0x8000000080008000, 0x000000000000808B,
   0x0000000080000001, 0x8000000080008081, 0x8000000000008009, 0x000000000000008A, 0x0000000000000088,
   0x0000000080008009, 0x000000008000000A] ++
  [0x000000008000808B, 0x800000000000008B, 0x8000000000008089, 0x8000000000008003, 0x8000000000008002,
   0x8000000000000080, 0x000000000000800A, 0x800000008000000A, 0x8000000080008081, 0x8000000000008080,
   0x0000000080000001, 0x8000000080008008]

/-- Lane x + 5y of a Keccak state. -/
def laneOf (a : List Word) (x y : Nat) : Word := a.getD (x % 5 + 5 * (y % 5)) 0

/-- One round of Keccak-f[1600]. -/
def keccakRound (a : List Word) (rc : Word) : List Word :=
  let c := (List.range 5).map (fun x => laneOf a x 0 ^^^ laneOf a x 1 ^^^ laneOf a x 2 ^^^ laneOf a x 3 ^^^ laneOf a x 4)
  let d := (List.range 5).map (fun x => c.getD ((x + 4) % 5) 0 ^^^ (c.getD ((x + 1) % 5) 0).rotateLeft 1)
  let t := (List.range 25).map (fun i => ((a.getD i 0) ^^^ d.getD (i % 5) 0).rotateLeft (keccakRot.getD i 0))
  let b := (List.range 25).map (fun i => laneOf t (i % 5 + 3 * (i / 5)) (i % 5))
  (List.range 25).map (fun i =>
    let x := i % 5
    let y := i / 5
    let v := laneOf b x y ^^^ (~~~(laneOf b (x + 1) y) &&& laneOf b (x + 2) y)
    if i = 0 then v ^^^ rc else v)

/-- Keccak-f[1600]. -/
def keccakF (a : List Word) : List Word := keccakRC.foldl keccakRound a

/-- The rate of the 256-bit functions in bytes. -/
def keccakRate : Nat := 136

/-- Eight bytes, little-endian, from place i of a list. -/
def leWord (l : List Byte) (i : Nat) : Word :=
  (List.range 8).foldl (fun a j => a ||| ((l.getD (i + j) 0).setWidth 64 <<< (8 * j))) 0

/-- Absorb blocks of 136 bytes; n counts the blocks. -/
def keccakAbsorb : Nat → List Byte → List Word → List Word
  | 0, _, a => a
  | n + 1, l, a =>
    keccakAbsorb n (l.drop keccakRate)
      (keccakF ((List.range 25).map (fun i => if i < 17 then a.getD i 0 ^^^ leWord l (8 * i) else a.getD i 0)))

/-- The bytes of a state's rate part. -/
def keccakOut (a : List Word) : List Byte :=
  (List.range keccakRate).map (fun i => (a.getD (i / 8) 0).extractLsb' (8 * (i % 8)) 8)

/-- Squeeze n blocks. -/
def keccakSqueeze : Nat → List Word → List Byte
  | 0, _ => []
  | n + 1, a => keccakOut a ++ keccakSqueeze n (keccakF a)

/-- The sponge with a domain byte: n bytes of output. -/
def keccakSponge (domain : Byte) (l : List Byte) (n : Nat) : List Byte :=
  let m := l ++ [domain]
  let k := (m.length + keccakRate - 1) / keccakRate
  let p := m ++ List.replicate (k * keccakRate - m.length) 0
  let p := p.set (p.length - 1) (p.getD (p.length - 1) 0 ||| 0x80)
  (keccakSqueeze ((n + keccakRate - 1) / keccakRate) (keccakAbsorb k p (List.replicate 25 0))).take n

/-- SHAKE256. -/
def shake256 (l : List Byte) (n : Nat) : List Byte := keccakSponge 0x1F l n

/-- A number as n bytes, little-endian. -/
def leBytes (x n : Nat) : List Byte := (List.range n).map (fun i => BitVec.ofNat 8 (x / 256 ^ i))

/-- Bytes, little-endian, as a number. -/
def ofLe : List Byte → Nat
  | [] => 0
  | b :: r => b.toNat + 256 * ofLe r

/-- A number below 2^16 as the encodings of SP 800-185 write it: without leading zero bytes, one byte at least. -/
def keccakNum (x : Nat) : List Byte := if x < 256 then [BitVec.ofNat 8 x] else [BitVec.ofNat 8 (x / 256), BitVec.ofNat 8 x]

/-- left_encode. -/
def leftEncode (x : Nat) : List Byte := BitVec.ofNat 8 (keccakNum x).length :: keccakNum x

/-- right_encode. -/
def rightEncode (x : Nat) : List Byte := keccakNum x ++ [BitVec.ofNat 8 (keccakNum x).length]

/-- encode_string. -/
def encodeString (l : List Byte) : List Byte := leftEncode (8 * l.length) ++ l

/-- bytepad to the rate. -/
def bytePad (l : List Byte) : List Byte :=
  let m := leftEncode keccakRate ++ l
  m ++ List.replicate ((keccakRate - m.length % keccakRate) % keccakRate) 0

/-- cSHAKE256 with a function name and a customization string. -/
def cshake256 (name custom l : List Byte) (n : Nat) : List Byte :=
  keccakSponge 0x04 (bytePad (encodeString name ++ encodeString custom) ++ l) n

/-- KMAC256 of a message under a key with a customization string: n bytes of tag. -/
def kmac256 (key custom l : List Byte) (n : Nat) : List Byte :=
  cshake256 [0x4B, 0x4D, 0x41, 0x43] custom (bytePad (encodeString key) ++ l ++ rightEncode (8 * n)) n

end Sys2Proof.Machine
end

