-- ==== Sys2Proof/Machine/Pages.lean ====
section
/-!
DEFINITION. Device memory as the system programs see it: frames, page tables and registered ranges (R361, R362, R366),
the bytes that a service reads and writes for a partition, and the budgets of the region tree (R341).
-/
namespace Sys2Proof.Machine

/-! ### Frames and tables -/

/-- The number of 2 MiB frames of HBM (R1). -/
def frameCount : Nat := 262144

/-- The lowest number that a list does not hold, below n. -/
def firstAbsent (l : List Nat) (n : Nat) : Option Nat := (List.range n).find? (fun i => !l.contains i)

/-- Take a frame that is not in use; which one is open (assumption 3). -/
def State.takeFrame (s : State) : Option (Nat × State) :=
  if s.frames.length ≥ frameCount then none
  else
    let (c, s) := s.choose frameCount
    match (if s.frames.contains c then firstAbsent s.frames (s.frames.length + 1) else some c) with
    | none => none
    | some f => some (f, { s with frames := s.frames ++ [f] })

/-- Give frames back; the blocks that stood there have no bytes any more. -/
def State.freeFrames (s : State) (l : List Nat) : State :=
  { s with
    frames := s.frames.filter (fun f => !l.contains f)
    nodes := s.nodes.map (fun e => (e.1, { e.2 with home := e.2.home.filter (fun h => !l.contains (h / 2 ^ 21)) }))
    descHome := if s.descHome.any l.contains then [] else s.descHome }

/-- Where partition 0's pinned memory holds the tables: the last 8 GiB of its translated space. DESIGN CHOICE: the addresses
are open (R361, assumption 108). -/
def tableBase : Nat := 2 ^ 56 - 2 ^ 33

/-- The pages of the tables' range that are in use, from its start: every page of every range that reaches into it. -/
def State.tablePages (s : State) : List Nat :=
  (s.registered.filter (fun r => r.part == 0 && decide (tableBase < r.base + r.len))).flatMap (fun r =>
    let lo := Nat.max r.base tableBase
    (List.range ((r.base + r.len - lo + 2 ^ 21 - 1) / 2 ^ 21)).map (fun i => (lo - tableBase) / 2 ^ 21 + i))

/-- The level-3 table of the tables' range, which boot has made. -/
def State.tablesLeaf (s : State) : Nat :=
  let e := fun (t i : Nat) => nextTable (s.tableEntry t i)
  e (e (e (s.rcb 0 15).toNat 0) 2047) 4095

/-- A frame is a pinned page of partition 0's memory, in the tables' range, writable; its leaf is page k of the range (R361). -/
def State.pinTable (s : State) (leaf f k : Nat) : State :=
  { s.hbmWrite (leaf + 8 * k) (5 + f * 2 ^ 21) 8 with
    registered := s.registered ++ [{ part := 0, base := tableBase + k * 2 ^ 21, len := 2 ^ 21, lazy := false, write := true }] }

/-- The first n bytes of a frame are zero. -/
def State.clearFrame (s : State) (f n : Nat) : State :=
  { s with hbm := s.hbm.dropRange (f * 2 ^ 21) (f * 2 ^ 21 + n)
           hbmPoison := s.hbmPoison.dropRange (f * 2 ^ 18) (f * 2 ^ 18 + n / 8) }

/-- A new table, with no valid entry, in a frame of its own, which is pinned memory of partition 0 (R361). -/
def State.newTable (s : State) : Option (Nat × State) :=
  s.takeFrame.bind (fun (f, s) =>
    let l := s.tablePages
    match firstAbsent l (l.length + 1) with
    | none => none
    | some k => if k < 4096 then some (f * 2 ^ 21, (s.clearFrame f 32768).pinTable s.tablesLeaf f k) else none)

/-- Boot makes the translation root table with partition 0's tables for the tables' range, in one frame: the root, and one table
of each level (R361). -/
def State.firstTables (s : State) : Option State :=
  s.takeFrame.map (fun (f, s) =>
    let t := f * 2 ^ 21
    let s := (s.clearFrame f 131072).modRcb 0 15 (fun _ => BitVec.ofNat 64 t)
    let s := ((s.hbmWrite t (t + 32768 + 1) 8).hbmWrite (t + 32768 + 8 * 2047) (t + 65536 + 1) 8).hbmWrite (t + 65536 + 8 * 4095) (t + 98304 + 1) 8
    s.pinTable (t + 98304) f 0)

/-- The table behind a pointer entry at a physical address, made if there is none (R361, R362). -/
def State.tableAt (s : State) (entry : Nat) : Option (Nat × State) :=
  let e := s.tableEntry entry 0
  if bitAt e 0 then some (nextTable e, s)
  else s.newTable.map (fun (t, s) => (t, s.hbmWrite entry (t + 1) 8))

/-- The address of the level-3 entry of a translated address, its tables made where they are missing (R361). -/
def State.leafAt (s : State) (part va : Nat) : Option (Nat × State) :=
  (s.tableAt ((s.rcb 0 15).toNat + 8 * part)).bind (fun (t1, s) =>
    (s.tableAt (t1 + 8 * (va / 2 ^ 45 % 2048))).bind (fun (t2, s) =>
      (s.tableAt (t2 + 8 * (va / 2 ^ 33 % 4096))).map (fun (t3, s) => (t3 + 8 * (va / 2 ^ 21 % 4096), s))))

/-- Write the level-3 entry of a page. -/
def State.putLeaf (s : State) (part va : Nat) (e : Nat) : Option State :=
  (s.leafAt part va).map (fun (a, s) => s.hbmWrite a e 8)

/-- Map a page to a new frame, with or without the write flag (R362, R366). -/
def State.mapPage (s : State) (part va : Nat) (write : Bool) : Option State :=
  s.takeFrame.bind (fun (f, s) => s.putLeaf part va (1 + natOfBool write * 4 + f * 2 ^ 21))

/-- The pages of a range. -/
def pageList (base len : Nat) : List Nat := (List.range (len / 2 ^ 21)).map (fun i => base + i * 2 ^ 21)

/-- Map every page of a range, or none of it. -/
def State.mapRange (s : State) (part : Nat) (write : Bool) : List Nat → Option State
  | [] => some s
  | p :: r => (s.mapPage part p write).bind (fun s => s.mapRange part write r)

/-- Make every page of a range lazy (R366). -/
def State.lazyRange (s : State) (part : Nat) : List Nat → Option State
  | [] => some s
  | p :: r => (s.putLeaf part p 8).bind (fun s => s.lazyRange part r)

/-- The frame that a page is mapped to, if it is. -/
def State.frameOf (s : State) (part va : Nat) : Option Nat :=
  match s.walk part va with
  | .page x => if bitAt x.entry 4 then none else some (x.phys (va / 2 ^ 21 * 2 ^ 21) / 2 ^ 21)
  | _ => none

/-- Clear the entries of a range. -/
def State.unmapRange (s : State) (part : Nat) : List Nat → State
  | [] => s
  | p :: r => ((s.putLeaf part p 0).getD s).unmapRange part r

/-- A range overlaps memory registered in the partition (R377). -/
def State.overlaps (s : State) (part base len : Nat) : Bool :=
  s.registered.any (fun r => r.part == part && decide (base < r.base + r.len) && decide (r.base < base + len))

/-- A free range of whole pages in a partition's translated space, its base a multiple of 2^n; which one is open
(assumption 3). -/
def State.freeRange (s : State) (part len n : Nat) : Option (Nat × State) :=
  let a := 2 ^ (Nat.max n 21)
  let (c, s) := s.choose (2 ^ 56 / a)
  let b := c * a
  if b + len ≤ 2 ^ 56 ∧ !s.overlaps part b len ∧ b ≠ 0 then some (b, s)
  else
    let top := ((s.registered.filter (fun r => r.part == part)).map (fun r => r.base + r.len)).foldl Nat.max 0
    let b := (top / a + 1) * a
    if b + len ≤ 2 ^ 56 then some (b, s) else none

/-- Round up to whole pages. -/
def wholePages (n : Nat) : Nat := (n + 2 ^ 21 - 1) / 2 ^ 21 * 2 ^ 21

/-- Register and map a new pinned range for a partition: its base (R366, R372). -/
def State.newRange (s : State) (part bytes n : Nat) : Option (Nat × State) :=
  let len := wholePages bytes
  (s.freeRange part len n).bind (fun (b, s) =>
    (s.mapRange part true (pageList b len)).map (fun s =>
      (b, { s with registered := s.registered ++ [{ part := part, base := b, len := len, lazy := false, write := true }] })))

/-- The dies whose translation units are reached. -/
def State.units (s : State) : List Nat := (List.range 4).filter (fun d => (s.die d).xlateQueue.isSome)

/-- An INVALIDATE of a page, its reply to the pager of a die (R368). -/
def State.invalidateItem (s : State) (part page d : Nat) : Item :=
  { header := itemHeader 3 0 false 0
    words := [BitVec.ofNat 64 (3 + part * 16), BitVec.ofNat 64 page, BitVec.ofNat 64 (((s.die d).replyQueue).getD 0)] }

/-- Pages of a partition are unmapped, and INVALIDATE goes to all dies; call n waits for the replies, which a pager of a die
takes, and frees the frames (R370). -/
def State.retirePages (s : State) (part d : Nat) (ps : List Nat) (call : CallKind → Call) : State :=
  let fs := ps.filterMap (fun p => s.frameOf part p)
  let s := s.unmapRange part ps
  let ds := s.units
  let s := ds.foldl (fun a e => a.modDie e (fun x => { x with outgoing := x.outgoing ++ ps.map (fun p => s.invalidateItem part p d) })) s
  { s with calls := FMap.set s.calls s.nextId (call (.unregister (ps.flatMap (fun p => ds.map (fun e => (p, e)))) fs))
           nextId := s.nextId + 1 }

/-- A range leaves the registered memory; its frames are free again once INVALIDATE has been answered for all of it. No
request of the host waits for that (R370). -/
def State.dropRange (s : State) (part base len : Nat) : State :=
  let s := s.retirePages part 0 (pageList base len) (fun k => { session := 0, seq := 0, frame := { bytes := [] }, kind := k })
  { s with registered := s.registered.filter (fun r => !(r.part == part && r.base == base)) }

/-! ### The bytes of a partition -/

/-- What a service meets at a translated address: a physical address of this package, a lazy page, or nothing it may
reach. -/
inductive Reach where
  | at (pa : Nat)
  | lazy (page : Nat)
  | none
  deriving DecidableEq, Repr

/-- A translated address as a service reaches it (R363). -/
def State.reach (s : State) (part va : Nat) : Reach :=
  if va ≥ 2 ^ 56 then .none
  else
    match s.walk part va with
    | .page x => if bitAt x.entry 4 then .none else .at (x.phys va)
    | .lazy _ => .lazy (va / 2 ^ 21)
    | .unregistered _ => .none

/-- Bytes that a service reads, or the lazy page that stands in its way, or nothing. -/
inductive Got where
  | ok (l : List Byte)
  | lazy (page : Nat)
  | none
  deriving DecidableEq, Repr

/-- n bytes of a partition's memory from a translated address (R363). -/
def State.devRead (s : State) (part va : Nat) : Nat → Got
  | 0 => .ok []
  | n + 1 =>
    match s.devRead part va n with
    | .ok l =>
      match s.reach part (va + n) with
      | .at pa => .ok (l ++ [s.hbmByte pa])
      | .lazy p => .lazy p
      | .none => .none
    | r => r

/-- The blocks that bytes of a partition's memory lie in take them, word by word (R208, R339). -/
def State.devBlocks (s : State) (part va : Nat) (l : List Byte) : State :=
  (List.range l.length).foldl (fun (a : State) i =>
    if i = 0 ∨ (va + i) % 8 = 0 then
      match a.reach part (va + i) with
      | .at pa => let n := Nat.min (8 - (va + i) % 8) (l.length - i); a.writeBlocks pa (leNat (fun k => l.getD (i + k) 0) n) n
      | _ => a
    else a) s

/-- Write bytes of a partition's memory whose pages are mapped; whole words lose their poison (R408). -/
def State.devWrite (s : State) (part va : Nat) (l : List Byte) : State :=
  ((List.range l.length).foldl (fun (a : State) i =>
    match a.reach part (va + i) with
    | .at pa =>
      let a := { a with hbm := FMap.put 0 a.hbm pa (l.getD i 0) }
      if pa % 8 = 7 ∧ 7 ≤ i then { a with hbmPoison := FMap.put false a.hbmPoison (pa / 8) false } else a
    | _ => a) s).devBlocks part va l

/-- The first lazy page of a range, if there is one. -/
def State.lazyIn (s : State) (part va n : Nat) : Option Nat :=
  (List.range n).findSome? (fun i => match s.reach part (va + i) with | .lazy p => some p | _ => Option.none)

/-- Every byte of a range is mapped or lazy in this package. -/
def State.isRegistered (s : State) (part va n : Nat) : Bool :=
  (List.range n).all (fun i => s.reach part (va + i) != .none)

/-! ### Budgets (R341) -/

/-- The budget of HBM, in word 5, with its usage in word 9. -/
def State.withinHbm (s : State) (a v : Nat) : Bool :=
  (s.lineage 7 a).all (fun x =>
    !s.setsField 7 x || decide ((s.rcb x 9).toNat + v ≤ (s.rcb x 5).toNat))

/-- Charge bytes to a node and its ancestors. -/
def State.chargeHbm (s : State) (a v : Nat) : State :=
  (s.lineage 7 a).foldl (fun b x => b.modRcb x 9 (fun w => bumpField w 0 64 v)) s

/-- Release bytes from a node and its ancestors. -/
def State.dischargeHbm (s : State) (a v : Nat) : State :=
  (s.lineage 7 a).foldl (fun b x => b.modRcb x 9 (fun w => BitVec.ofNat 64 (w.toNat - v))) s

end Sys2Proof.Machine
end

