-- ==== Sys2Proof/Machine/Cuts.lean ====
section
/-!
DEFINITION. Beacons and cuts as every part of the machine shares them: the port sets of a tile, cut-ready, the freeze,
the start of a cut, the thaw (R351, R354 to R359).
-/
namespace Sys2Proof.Machine

/-! ### The ports of a tile (R354) -/

/-- A port that takes part in cuts: its queue is of the tile's partition, no system queue and no loop-back. -/
def State.cutPort (s : State) (t : Nat) (p : Port) : Bool :=
  let d := s.queue p.queue
  d.part == (s.tile t).part && !d.system && !d.loopBack

/-- The input set of a tile. -/
def State.inputSet (s : State) (t : Nat) : List (Nat × Port) :=
  (s.tile t).ports.filter (fun e => e.2.consumer && s.cutPort t e.2)

/-- The output set of a tile. -/
def State.outputSet (s : State) (t : Nat) : List (Nat × Port) :=
  (s.tile t).ports.filter (fun e => !e.2.consumer && s.cutPort t e.2)

/-- A beacon of a kind, a sequence and a region (R351). -/
def beaconItem (c : TileCut) : Item :=
  { header := itemHeader 2 0 false 0 ||| 0x100
    words := [BitVec.ofNat 64 (c.kind % 16 + c.seq % 2 ^ 32 * 65536), BitVec.ofNat 64 (c.rgn % 2 ^ 57)] }

/-- What a beacon says (R351). -/
def Item.cut (x : Item) : TileCut :=
  { kind := fieldNat (x.word 0) 0 4, seq := fieldNat (x.word 0) 16 32, rgn := fieldNat (x.word 1) 0 57 }

/-- The beacon at the head of a port, if there is one. -/
def Port.headBeacon (p : Port) : Option TileCut :=
  match p.items with
  | [] => none
  | x :: _ => if x.item.beacon then some x.item.cut else none

/-- The beacon of a tile that is cut-ready: every port of its input set, of which there is one at least, has at its head a
beacon of one sequence (R354). -/
def State.cutReady (s : State) (t : Nat) : Option TileCut :=
  match (s.inputSet t).map (fun e => e.2.headBeacon) with
  | some c :: r => if r.all (fun x => x.map (·.seq) == some c.seq) then some c else none
  | _ => none

/-- The lowest port of the input set that lacks the beacon of the tile's cut, port 0 where there is no input port (R355). -/
def State.lackingPort (s : State) (t : Nat) : Nat :=
  let seqs := (s.inputSet t).filterMap (fun e => e.2.headBeacon.map (·.seq))
  match (s.inputSet t).find? (fun e => e.2.headBeacon.map (·.seq) != seqs.head? || e.2.headBeacon.isNone) with
  | some e => e.1
  | none => 0

/-- REPLACE and CHECKPOINT are cooperative, PREEMPT and STOP forced (R351). -/
def TileCut.cooperative (c : TileCut) : Bool := c.kind == 1 || c.kind == 4

/-! ### The freeze (R354 to R357) -/

/-- A loop-back port begins to record channel state, unless the beacon has reached it before (R357). -/
def Port.record (p : Port) (loopBack : Bool) (seq : Nat) : Port :=
  if p.consumer && loopBack && p.arrivedSeq != some seq then { p with recording := some seq, channel := [] } else p

/-- A placement is FROZEN once every tile of it has been frozen by one cut (R346, R355). -/
def State.noteFrozen (s : State) (t : Nat) : State :=
  match (s.tile t).place with
  | none => s
  | some a =>
    match FMap.find s.nodes a with
    | none => s
    | some n =>
      let seq := (s.tile t).cut.map (·.seq)
      if s.placeState a = 2 && n.tiles.all (fun u => (s.tile u).cut.map (·.seq) == seq) then s.setPlaceState a 3 else s

/-- A cut freezes a tile; on the output ports of a list the beacon is still to be pushed (R354, R355). -/
def State.freezeTile (s : State) (t : Nat) (c : TileCut) (due : List Nat) : State :=
  let s := s.modTile t (fun y =>
    { y with
      frozen := true, cut := some c, cutDue := none, beaconDue := y.beaconDue ++ due.map (fun p => (p, c))
      ports := y.ports.map (fun e =>
        let d := s.queue e.2.queue
        (e.1, e.2.record (d.loopBack && d.part == y.part && !d.system) c.seq)) })
  s.noteFrozen t

/-! ### The start of a cut (R352, R354, R384, R385) -/

/-- The tiles of the placements in a region that run, in RUN or FROZEN. -/
def State.liveTiles (s : State) (rgn : Nat) : List Nat :=
  (s.placementsIn rgn).flatMap (fun a =>
    if s.placeState a = 2 || s.placeState a = 3 then
      match FMap.find s.nodes a with
      | some n => n.tiles
      | none => []
    else [])

/-- The supervisor that acts on a region: that of the die of its first tile (R371, assumption 7). -/
def State.supervisor (s : State) (rgn : Nat) : Nat := 512 * dieOf ((s.liveTiles rgn).headD 0)

/-- The source queues of a region: its beacon scope is a list of queue ids in its partition's memory (R340). -/
def State.sourceQueues (s : State) (rgn : Nat) : List Nat :=
  let w := s.rcb (s.setter 4 7 rgn) 3
  let n := fieldNat w 57 7
  match s.devRead (fieldNat (s.rcb rgn 0) 5 6) (fieldNat w 0 57) (2 * n) with
  | .ok l => (List.range n).map (fun i => (l.getD (2 * i) 0).toNat + 256 * (l.getD (2 * i + 1) 0).toNat)
  | _ => []

/-- Change a node. -/
def State.modNode (s : State) (a : Nat) (f : Node → Node) : State :=
  match FMap.find s.nodes a with
  | none => s
  | some n => { s with nodes := FMap.set s.nodes a (f n) }

/-- A node's cut in progress. -/
def State.cutOf (s : State) (rgn : Nat) : Option Cut := (FMap.find s.nodes rgn).bind (·.cut)

/-- The supervisor starts a cut: BCNs at the source queues, and the tiles with an empty input set are due to freeze
(R354, R385). -/
def State.startCut (s : State) (rgn kind seq : Nat) (entries : List ReplaceEntry) (energy : Bool) : State :=
  let c : Cut :=
    { kind := kind, seq := seq, pending := (s.sourceQueues rgn).dedup, entries := entries, energy := energy
      past := (s.placementsIn rgn).filter (fun a => s.placeState a == 5 || s.placeState a == 6) }
  let s := s.modNode rgn (fun n => { n with cut := some c })
  (s.liveTiles rgn).foldl (fun (a : State) t =>
    if (a.inputSet t).isEmpty then a.modTile t (fun y => { y with cutDue := some ⟨kind, seq, rgn⟩ }) else a) s

/-- The supervisor issues the BCNs of a cut that find room at their source queues (R217, R352). A source queue that is
not OPEN takes none. -/
def State.injectCut (s : State) (rgn : Nat) : State :=
  match s.cutOf rgn with
  | none => s
  | some c =>
    let w : Who := ⟨s.supervisor rgn, 0⟩
    c.pending.foldl (fun (a : State) q =>
      let drop := fun (b : State) => b.modNode rgn (fun n => { n with cut := n.cut.map (fun x => { x with pending := x.pending.filter (· != q) }) })
      if (a.queue q).state != 1 then drop a
      else if a.admits w q 1 then drop (a.post w q [beaconItem ⟨c.kind, c.seq, rgn⟩])
      else a) s

/-- The lowest node above a placement, itself included, with a cut in progress. -/
def State.cutAbove (s : State) (a : Nat) : Option Nat := (s.lineage 7 a).find? (fun x => (s.cutOf x).isSome)

/-! ### The thaw (R359) -/

/-- The beacon at the head of a closed port is removed, and the port opens. -/
def Port.thaw (p : Port) : Port :=
  if p.closed then
    { p with closed := false, breakSeq := none
             items := (match p.items with | x :: r => if x.item.beacon then r else p.items | [] => []) }
  else p

/-- A tile that a cut froze goes on, unless the debugger holds it; parks count afresh, and the array waits for its wave (R359, R401). -/
def Tile.thaw (t : Tile) (now : Nat) : Tile :=
  { t with
    ports := t.ports.map (fun e => (e.1, e.2.thaw))
    strands := t.strands.map (fun e => (e.1, { e.2 with park := e.2.park.map (fun p => { p with cycles := 0 }) }))
    frozen := t.debugStop.isSome, cut := none, cutDue := none, rampFrom := now, arrayOn := false }

/-- The FROZEN placements in a region run again (R359). -/
def State.thawRegion (s : State) (rgn : Nat) : State :=
  let s := (s.placementsIn rgn).foldl (fun (b : State) a =>
    if b.placeState a = 3 then
      match FMap.find b.nodes a with
      | none => b
      | some n => (n.tiles.foldl (fun (c : State) t => c.modTile t (fun y => y.thaw (c.now t))) b).setPlaceState a 2
    else b) s
  s.modNode rgn (fun n => { n with cut := none })

/-- A cut has been acted upon: it is counted, its sequence and a lantern record are kept (R385, R405). -/
def State.recordCut (s : State) (rgn : Nat) (c : Cut) : State :=
  let s := (s.modRcb rgn 13 (fun x => bumpField x 0 32 1)).modRcb rgn 14 (fun x => putField x 0 32 c.seq)
  let sup := s.supervisor rgn
  s.record (dieOf sup) 4 c.kind sup 0 (BitVec.ofNat 64 c.seq) (BitVec.ofNat 64 rgn)

/-- A strand of a tile holds a redeem in issue; a freeze waits for its answer (R244, R356). -/
def Tile.holds (y : Tile) : Bool := y.strands.any (fun e => e.2.running && e.2.hold.isSome)

/-- Every placement of a region that had not ended before its cut is FROZEN, and there is one; one that ends meanwhile is not, so that
the cut does not complete (R382, R385). -/
def State.allFrozen (s : State) (rgn : Nat) : Bool :=
  let past := match s.cutOf rgn with | none => [] | some c => c.past
  let l := (s.placementsIn rgn).filter (fun a => !past.contains a)
  !l.isEmpty && l.all (fun a => s.placeState a == 3) && (s.liveTiles rgn).all (fun t => !(s.tile t).holds)

end Sys2Proof.Machine
end

