-- ==== Sys2Proof/Machine/Queues.lean ====
section
/-!
DEFINITION. The queue instructions, the arrival of items and cancels, and failed endpoints (R210 to R230).
-/
namespace Sys2Proof.Machine

/-! ### Binding (R214) -/

/-- QBIND: d is the q register, imm [4:0] the port, imm [15:8] the tag (R214). -/
def hQbind (t : WTail) : Half :=
  let p := fieldNat t.imm 0 5
  { mask := t.k.toNat
    privileged := fun s w =>
      match s.port w.tile p with
      | none => false
      | some x => (s.queue x.queue).system && !(s.strand w).system
    traps := fun s w =>
      if (s.port w.tile p).isNone then some { code := .queueFault, info := queueInfo 8 t.d.toNat p 0 0 } else none
    effect := fun _ cur w =>
      cur.modStrand w (fun x =>
        { x with q := FMap.set x.q t.d.toNat { port := p, tag := BitVec.ofNat 8 (fieldNat t.imm 8 8) } }) }

/-- QUNB (R214). -/
def hQunb (d : BitVec 6) : Half :=
  { effect := fun _ cur w => cur.modStrand w (fun x => { x with q := FMap.erase x.q d.toNat }) }

/-! ### QPUSH (R216) -/

/-- The operand j registers after another, in the same file. -/
def Loc.plus (l : Loc) (j : Nat) : Loc :=
  match l with
  | .g i => .g (i + j)
  | .c i => .c (i + j)
  | x => x

/-- The data registers of a QPUSH. -/
def pushSrcs (t : LTail) : List Src :=
  (List.range (fieldNat t.sub 0 3 + 1)).map (fun j => { loc := (sLoc t.fb t.b).plus j, trap := t.tb, isB := true })

/-- The item that QPUSH makes: eod, fence and tag from a, the length from sub, no beacon (R216). -/
def pushItem (t : LTail) (h : Word) (ws : List Word) : Item :=
  { header := itemHeader (fieldNat t.sub 0 3 + 1) (fieldNat h 10 3) (bitAt h 9) (BitVec.ofNat 8 (fieldNat h 0 8)), words := ws }

/-- QPUSH: q register d, header source a, data from b (R216, R217). -/
def hQpush (t : LTail) : Half :=
  let q := t.d.toNat
  { mask := t.k.toNat, srcs := t.srcA :: pushSrcs t, dests := [.q q], memory := true
    privileged := fun s w => s.pushPrivileged w q
    traps := fun s w => s.pushFault w q
    waits := fun _ cur w => cur.dstWait w (.q q) 1
    effect := fun pre cur w =>
      cur.push w q [pushItem t (pre.scalar w t.srcA.loc) ((pushSrcs t).map (fun r => pre.scalar w r.loc))] }

/-! ### QPOP, QTRY, QPEEK (R219 to R223) -/

/-- A pop record (R212). -/
def popRecord (status q : Nat) (header : BitVec 16) (ordinal : Nat) : Word :=
  BitVec.ofNat 64 (header.toNat + status * 2 ^ 16 + q * 2 ^ 18 + ordinal % 2 ^ 40 * 2 ^ 24)

/-- The pop record of a stored item. -/
def Stored.record (x : Stored) (status q : Nat) : Word := popRecord status q x.item.header x.ordinal

/-- A LONG result of several words: destination i receives value i between lo and hi cycles from now; what falls to
g0 is discarded (R37, R43). -/
def State.sendVals (s : State) (w : Who) (lo hi : Nat) (ds : List Loc) (vals : List Val) : State :=
  let ps := (ds.zip vals).filterMap (fun e => (e.1.ref w).map (fun r => (r, e.2)))
  s.sendLong w lo (some hi) (.long (ps.map (·.2))) (ps.map (·.1))

/-- What a pop or a look at a port delivers: a record, if one is asked for, and n words (R220, R222). -/
def delivered (rec : Bool) (record : Word) (words : List Word) (n : Nat) : List Val :=
  (if rec then [.s record] else []) ++ (List.range n).map (fun j => .s (words.getD j 0))

/-- The destinations of QPOP, QTRY, QPEEK and QSEL. -/
def popDests (t : LTail) (rec : Bool) : List Loc :=
  (List.range (fieldNat t.sub 0 3 + 1 + natOfBool rec)).map (fun j => t.dst.plus j)

/-- The port index behind a q register, for TRAP_INFO of a wait (R106). -/
def State.portOf (s : State) (w : Who) (q : Nat) : Nat := ((s.qbind w q).map (·.port)).getD 0

/-- The wait of a pop that delivers a record: a forced beacon also waits (R223). -/
def State.recordWait (s : State) (w : Who) (q : Nat) : Option Wait :=
  match s.qport w q with
  | none => none
  | some (b, p) =>
    match p.meet w.strand with
    | .wait k => some { kind := k, index := b.port }
    | .beacon x => if x.item.cooperative then none else some { kind := 3, index := b.port }
    | .item _ => none

/-- Pop with a record through a q register: an item is taken, a beacon stays (R222, R223). -/
def State.popRecorded (s : State) (w : Who) (q n : Nat) (ds : List Loc) : State :=
  match s.qport w q with
  | none => s
  | some (b, p) =>
    match p.meet w.strand with
    | .item x => ((s.popHead w b.port).unqueue w).sendVals w 4 6 ds (delivered true (x.record 0 q) x.item.words n)
    | .beacon x => (s.unqueue w).sendVals w 4 6 ds (delivered true (x.record 1 q) x.item.words n)
    | .wait _ => s

/-- QPOP: without .h the words alone, with .h a record first (R222). -/
def hQpop (t : LTail) : Half :=
  let q := t.a.toNat
  let h := t.bit 3
  let n := fieldNat t.sub 0 3 + 1
  { mask := t.k.toNat, srcs := [{ loc := .q q, trap := t.ta }], dests := popDests t h, memory := true
    traps := fun s w => if h then s.popFault w q else firstCause [s.popFault w q, s.beaconFault w q]
    waits := fun _ cur w =>
      if h then cur.recordWait w q else (cur.popWait w q none 1).map (fun k => { kind := k, index := cur.portOf w q })
    effect := fun _ cur w =>
      if h then cur.popRecorded w q n (popDests t h)
      else
        let (x, s) := cur.pop1 w q
        s.sendVals w 4 6 (popDests t h) (delivered false 0 x.words n) }

/-- QTRY: it never waits; an empty port or an earlier waiter gives EMPTY, a fence or 64 outstanding items FENCED
(R219, R222, R223). -/
def hQtry (t : LTail) : Half :=
  let q := t.a.toNat
  let n := fieldNat t.sub 0 3 + 1
  { mask := t.k.toNat, srcs := [{ loc := .q q, trap := t.ta }], dests := popDests t true, memory := true
    traps := fun s w => s.popFault w q
    effect := fun _ cur w =>
      match cur.qport w q with
      | none => cur
      | some (_, p) =>
        match p.meet w.strand, p.items with
        | .wait _, [] => cur.sendVals w 4 6 (popDests t true) (delivered true (popRecord 2 q 0 0) [] n)
        | .wait _, x :: _ =>
          let rec_ := if p.heldBefore w.strand then popRecord 2 q 0 0 else x.record 3 q
          cur.sendVals w 4 6 (popDests t true) (delivered true rec_ [] n)
        | _, _ => cur.popRecorded w q n (popDests t true) }

/-- QPEEK: it never waits and removes nothing; 64 outstanding items do not hinder it (R222, R223). -/
def hQpeek (t : LTail) : Half :=
  let q := t.a.toNat
  let n := fieldNat t.sub 0 3 + 1
  { mask := t.k.toNat, srcs := [{ loc := .q q, trap := t.ta }], dests := popDests t true
    traps := fun s w => s.popFault w q
    effect := fun _ cur w =>
      match cur.qport w q with
      | none => cur
      | some (_, p) =>
        let (record, words) : Word × List Word :=
          match p.items with
          | [] => (popRecord 2 q 0 0, [])
          | x :: _ =>
            if x.item.beacon then (x.record 1 q, x.item.words)
            else if p.heldBefore w.strand then (popRecord 2 q 0 0, [])
            else if p.fenced x none then (x.record 3 q, [])
            else (x.record 0 q, x.item.words)
        cur.sendVals w 4 6 (popDests t true) (delivered true record words n) }

/-! ### QSEL (R224) -/

/-- The q registers that a mask selects, in ascending order. -/
def selected (m : Word) : List Nat := (List.range 16).filter (fun j => bitAt m j)

/-- A selected register is a candidate: its port has a poppable head or a beacon. -/
def State.candidate (s : State) (w : Who) (q : Nat) : Bool :=
  match s.qport w q with
  | none => false
  | some (_, p) => match p.meet w.strand with | .wait _ => false | _ => true

/-- The priority of the queue behind a q register. -/
def State.qprio (s : State) (w : Who) (q : Nat) : Nat :=
  match s.qport w q with
  | none => 0
  | some (_, p) => (s.queue p.queue).prio

/-- The q indexes in the order in which QSEL looks at equals: after the last choice, wrapping round. -/
def roundFrom (last : Nat) : List Nat := (List.range 16).map (fun i => (last + 1 + i) % 16)

/-- The register that QSEL takes: the highest priority, then the first after the last choice (R224). -/
def State.qchoice (s : State) (w : Who) (m : Word) : Option Nat :=
  let cs := (roundFrom (s.strand w).lastSel).filter (fun q => (selected m).contains q && s.candidate w q)
  cs.find? (fun q => cs.all (fun r => decide (s.qprio w r ≤ s.qprio w q)))

/-- The faults of QSEL: an empty mask, the lowest selected register that is unbound or no CONSUMER, then the lowest
whose endpoint is BROKEN (R224, R228, R229). -/
def State.qselFault (s : State) (w : Who) (m : Word) : Option Cause :=
  if (selected m).isEmpty then some { code := .queueFault, info := queueInfo 1 0 0 0 0 }
  else
    match (selected m).findSome? (fun q =>
      match s.qport w q with
      | none => some (s.qfault w 1 q)
      | some (_, p) => if p.consumer then none else some (s.qfault w 2 q)) with
    | some c => some c
    | none => (selected m).findSome? (fun q => s.popFault w q)

/-- QSEL: sub [3] .t (R224). DESIGN CHOICE: the EMPTY record of .t has q field 0 (R212, assumption 126). -/
def hQsel (t : LTail) : Half :=
  let n := fieldNat t.sub 0 3 + 1
  { mask := t.k.toNat, srcs := [t.srcA], dests := popDests t true, memory := true
    traps := fun s w => s.qselFault w (s.scalar w t.srcA.loc)
    waits := fun pre cur w =>
      let m := pre.scalar w t.srcA.loc
      match cur.qchoice w m with
      | none =>
        if t.bit 3 then none
        else
          let ps := (selected m).map (fun q => cur.portOf w q)
          some { kind := 3, index := ps.headD 0, note := some (.select ps) }
      | some q => cur.recordWait w q
    effect := fun pre cur w =>
      match cur.qchoice w (pre.scalar w t.srcA.loc) with
      | none => cur.sendVals w 4 6 (popDests t true) (delivered true (popRecord 2 0 0 0) [] n)
      | some q => (cur.popRecorded w q n (popDests t true)).modStrand w (fun x => { x with lastSel := q }) }

/-! ### QDONE, QCANCEL, QSTAT (R225 to R227) -/

/-- The outstanding item that QDONE marks: named by a pop record, or the strand's earliest (R225). -/
def Port.doneItem (p : Port) (strand : Nat) (own : Bool) (record : Word) : Option Outst :=
  if own then p.outst.find? (fun o => o.strand == strand)
  else p.outst.find? (fun o => o.ordinal % 2 ^ 40 == fieldNat record 24 40)

/-- QDONE and QDONE.O (R225). -/
def hQdone (own : Bool) (t : LTail) : Half :=
  let q := t.a.toNat
  let item := fun (s : State) (w : Who) =>
    match s.qport w q with
    | none => none
    | some (_, p) => p.doneItem w.strand own (s.scalar w t.srcB.loc)
  { mask := t.k.toNat, srcs := if own then [] else [t.srcB]
    traps := fun s w =>
      match s.qport w q with
      | none => some (s.qfault w 1 q)
      | some (_, p) =>
        if !p.consumer then some (s.qfault w 2 q)
        else if (item s w).isNone then some (s.qfault w 6 q)
        else none
    effect := fun pre cur w =>
      match item pre w with
      | none => cur
      | some o => cur.modPort w.tile (pre.portOf w q) (fun p => { p with outst := p.outst.filter (· != o) }) }

/-- QCANCEL: posted, in either role (R226). -/
def hQcancel (t : LWTail) : Half :=
  let (q, srcs, tag) : Nat × List Src × (State → Who → BitVec 8) :=
    match t with
    | .l t => (t.d.toNat, [t.srcA], fun s w => (s.scalar w t.srcA.loc).setWidth 8)
    | .w t => (t.d.toNat, [], fun _ _ => t.imm.setWidth 8)
  { mask := (maskOf t).toNat, srcs := srcs
    traps := fun s w => if (s.qport w q).isNone then some (s.qfault w 1 q) else none
    effect := fun pre cur w =>
      match pre.qport w q with
      | none => cur
      | some (_, p) =>
        (List.range (pre.queue p.queue).eps.length).foldl
          (fun (a : State) e => a.send w 1 none (.cancel p.queue e (tag pre w))) cur }

/-- The least room over a queue's endpoints. -/
def State.leastRoom (s : State) (qid : Nat) : Nat :=
  match (List.range (s.queue qid).eps.length).map (fun e => s.room qid e) with
  | [] => 0
  | x :: r => r.foldl Nat.min x

/-- What QSTAT reads (R227). -/
def State.qstat (s : State) (p : Port) (f : Nat) : Word :=
  let d := s.queue p.queue
  let c := fun (n : Nat) => if p.consumer then n else 0
  BitVec.ofNat 64 (
    match f with
    | 0 => c p.held
    | 1 => if p.consumer then 0 else s.leastRoom p.queue
    | 2 => c p.ordinal
    | 3 => c p.outst.length
    | 4 => d.state + d.broken.toNat * 2 ^ 16 + natOfBool (!p.consumer) * 2 ^ 32 + natOfBool p.closed * 2 ^ 33
    | 5 => c p.cancelled.toNat
    | _ => p.queue + d.type * 2 ^ 16 + d.prio * 2 ^ 18)

/-- QSTAT (R227). -/
def hQstat (t : LTail) : Half :=
  let q := t.a.toNat
  { shortHalf t.k [] t.dst (fun s w _ =>
      match s.qport w q with
      | none => 0
      | some (_, p) => s.qstat p (fieldNat t.sub 0 3)) with
    traps := fun s w => if (s.qport w q).isNone then some (s.qfault w 1 q) else none }

/-! ### Failed endpoints (R229, R230) -/

/-- The endpoint's port holds the endpoint's buffer. -/
def State.epPort (s : State) (q e : Nat) : Option (Nat × Nat × Port) :=
  match (s.queue q).eps[e]? with
  | none => none
  | some (t, pn) =>
    match s.port t pn with
    | none => none
    | some p => if p.consumer && p.queue == q then some (t, pn, p) else none

/-- The endpoint belongs to a pre-empted placement and waits for it (R359). -/
def State.waitsForResume (s : State) (q e : Nat) : Bool :=
  match (s.queue q).eps[e]? with
  | none => false
  | some (t, pn) => (s.suspended q t pn).isSome

/-- The reduction group whose contributors push to a queue, by its number (R416). -/
def State.groupOf (s : State) (q : Nat) : Option (Nat × Group) :=
  s.groups.find? (fun e => e.2.queue == q)

/-- Words that reach an all-reduce unit join what has come from their contributor (R416). -/
def State.contribute (s : State) (k : Nat) (g : Group) (f : Flight) (items : List Item) : State :=
  match g.members.findIdx? (fun w => w == some f.owner) with
  | none => s
  | some i =>
    let lanes := items.flatMap (fun x => x.words.flatMap (fun w => [w.extractLsb' 0 32, w.extractLsb' 32 32]))
    { s with groups := FMap.set s.groups k { g with arrived := FMap.set g.arrived i (FMap.get [] g.arrived i ++ lanes) } }

/-- Change a queue's descriptor. -/
def State.modQueue (s : State) (q : Nat) (f : Queue → Queue) : State :=
  match FMap.find s.queues q with
  | none => s
  | some d => { s with queues := FMap.set s.queues q (f d) }

/-- An MC_PARTIAL event: the descriptor's partial mask and count, and the report to the producer's crew, or to the report
queue of an engine's command (R229, R230). -/
def State.mcPartial (s : State) (owner : Who) (q push failed : Nat) (first : Option Nat) : State :=
  let s := s.modQueue q (fun d =>
    { d with partialMask := BitVec.ofNat 16 failed, faults := if d.faults = BitVec.allOnes 32 then d.faults else d.faults + 1 })
  let words := fun (origin : Nat) =>
    [BitVec.ofNat 64 (q + failed * 2 ^ 16 + origin * 2 ^ 32), match first with | some o => BitVec.ofNat 64 o | none => BitVec.allOnes 64]
  match FMap.find s.via push with
  | some v => s.reportTo v.tile (match v.queue with | some r => some r | none => v.crew.bind (s.reportQueue v.tile)) 2 (words 0xFFFF)
  | none => s.report owner.tile (s.strand owner).crewId.toNat 2 (words (owner.tile % 2048 + owner.strand % 8 * 2048))

/-- A copy has settled: its siblings learn of it, and the last copy of a push that failed somewhere makes the
MC_PARTIAL event. -/
def State.settle (s : State) (f : Flight) (failed : Nat) (first : Option Nat) : State :=
  match f.kind with
  | .item q _ push _ _ _ =>
    let s := s.dropFlight f.id
    let sibling := fun (x : Flight) => match x.kind with | .item q' _ push' _ _ _ => q' == q && push' == push | _ => false
    if s.flights.any sibling then
      { s with flights := s.flights.map (fun x =>
          match x.kind with
          | .item q' e push' items _ _ => if sibling x then { x with kind := .item q' e push' items failed first } else x
          | _ => x) }
    else
      let s := if failed ≠ 0 then s.mcPartial f.owner q push failed first else s
      { s with via := FMap.erase s.via push }
  | _ => s

/-- An endpoint of a tile that a cut is to freeze has become BROKEN: the supervisor terminates the placement (R358, R418). -/
def State.breakCut (s : State) (t : Nat) : State :=
  match (s.tile t).place with
  | none => s
  | some a => if (s.cutAbove a).isSome && (s.tile t).cut.isNone then s.terminate a 0xFC else s

/-- Endpoint e of a queue fails: it is BROKEN, its stored items are discarded, the queue is FAULTED, and the copies
on their way to it fail (R229). -/
def State.failEndpoint (s : State) (q e : Nat) : State :=
  let s := s.modQueue q (fun d => { d with state := 2, broken := d.broken ||| BitVec.ofNat 16 (2 ^ e) })
  let s := match s.epPort q e with
    | none => s
    | some (t, pn, _) => (s.modPort t pn (fun p => { p with items := [] })).breakCut t
  s.flights.foldl (fun (a : State) f =>
    match a.flight f.id with
    | some x =>
      match x.kind with
      | .item q' e' _ _ failed first => if q' == q && e' == e then a.settle x (failed ||| 2 ^ e) first else a
      | _ => a
    | none => a) s

/-- The cells of a CONSUMER port in pages 0 to 7: the first byte behind those of its lower ports. DESIGN CHOICE: R209 gives the sizes of
cells and port state, not which cells a port has; here they go to the CONSUMER ports in ascending order (assumption 111). -/
def State.cellBase (s : State) (t pn : Nat) : Nat :=
  72 * (((s.tile t).ports.filter (fun e => e.2.consumer && decide (e.1 < pn))).map (fun e => (s.queue e.2.queue).cap)).sum

/-- The words of an endpoint's buffer and of its port state (R209). -/
def State.bufferWords (s : State) (t pn cap : Nat) : List Nat :=
  (List.range (9 * cap)).map (fun i => s.cellBase t pn / 8 + i) ++ [4032 + 2 * pn, 4033 + 2 * pn]

/-- The first word of an endpoint's buffer with an uncorrectable error (R209, R229). -/
def State.badBuffer (s : State) (t pn : Nat) (p : Port) : Option Nat :=
  if (s.tile t).poison.isEmpty then none
  else (s.bufferWords t pn (s.queue p.queue).cap).find? (fun x => FMap.get false (s.tile t).poison x)

/-- The buffer of an endpoint is lost: its tile has ended its placement or has been reset, so that no port holds it, or an
uncorrectable error has struck it (R209, R229). -/
def State.epLost (s : State) (q e : Nat) : Bool :=
  match s.epPort q e with
  | none => !s.waitsForResume q e && (s.unitQueue q).isNone && (s.groupOf q).isNone
  | some (t, pn, p) => (s.badBuffer t pn p).isSome

/-- An uncorrectable error in an endpoint's buffer is counted and recorded (R407). -/
def State.noteBuffer (s : State) (q e : Nat) : State :=
  match s.epPort q e with
  | none => s
  | some (t, pn, p) =>
    match s.badBuffer t pn p with
    | none => s
    | some x => s.noteError (dieOf t) 5 t x t 0 (BitVec.ofNat 64 (8 * x)) (s.tile t).place

/-- An uncorrectable error has struck the buffer of an endpoint that is not BROKEN yet (R229, R408). -/
def State.epStruck (s : State) (q e : Nat) : Bool :=
  match s.epPort q e with
  | none => false
  | some (t, pn, p) => (s.badBuffer t pn p).isSome && !bitAt (s.queue q).broken e

/-- ENDPOINT_FAILURE: a copy is on its way to an endpoint whose buffer is lost, or an error strikes a buffer (R229, R408). -/
def execEndpointFailure (queue endpoint : Nat) (s : State) : Host.Outcome State Fault Refusal :=
  if (s.queue queue).type != 2 &&
      ((decide (0 < s.toward queue endpoint) && s.epLost queue endpoint) || s.epStruck queue endpoint) then
    .next ((s.noteBuffer queue endpoint).failEndpoint queue endpoint)
  else .next s

/-! ### Arrivals (R211, R218, R226) -/

/-- Store items at a port: each takes the ordinal, and the count goes on (R211). -/
def storeItems : List Item → Port → Port
  | [], p => p
  | x :: r, p =>
    storeItems r { p with items := p.items ++ [{ ordinal := p.ordinal, item := x }], ordinal := (p.ordinal + 1) % 2 ^ 48 }

/-- A port records channel state while it stores (R357). -/
def Port.channelise (before : Nat) (p : Port) : Port :=
  if p.recording.isSome then { p with channel := p.channel ++ p.items.drop before } else p

/-- An ordinal breakpoint meets its ordinal: unless a cut of the region is in progress, a STOP beacon is set ahead of the
item in port state, the port closes, and the supervisor starts the cut; a BREAK record is written (R393). -/
def State.breakpoint (s : State) (t pn b seq strand : Nat) (header : BitVec 16) : State :=
  match s.port t pn, (s.tile t).place with
  | some p, some a =>
    let rgn := (s.rcb a 1).toNat
    let busy := (s.cutAbove a).isSome
    let s := s.modPort t pn (fun p => { p with breakAt := none })
    let s := s.traceRec t (traceHead 5 pn strand p.queue header) (BitVec.ofNat 64 b) (if busy then 0 else BitVec.ofNat 64 seq)
    if busy then s
    else
      let s := s.modPort t pn (fun p =>
        { p with closed := true, breakSeq := some seq
                 items := p.items ++ [{ ordinal := b, item := beaconItem ⟨3, seq, rgn⟩, inPort := true }] })
      s.startCut rgn 3 seq [] false
  | _, _ => s

/-- The item that comes to a port next takes its ordinal: an armed breakpoint may meet it (R393). -/
def State.meetBreak (s : State) (t pn strand : Nat) (header : BitVec 16) : State :=
  match s.port t pn with
  | none => s
  | some p =>
    match p.breakAt with
    | some (b, seq) => if b = p.ordinal then s.breakpoint t pn b seq strand header else s
    | none => s

/-- Items arrive at a port one by one (R211, R393). -/
def State.storeAt (s : State) (t pn strand : Nat) : List Item → State
  | [] => s
  | x :: r =>
    let s := s.meetBreak t pn strand x.header
    (s.modPort t pn (fun p => { (storeItems [x] p).channelise p.items.length with moved := true })).storeAt t pn strand r

/-- A copy is no beacon; a command is two items. -/
def Kind.isItem : Kind → Bool
  | .command _ _ => true
  | .item _ _ _ items _ _ => items.all (fun x => !x.beacon)
  | _ => false

/-- The acting strand of a push in trace records; for an engine its command's issuing strand (R390). -/
def State.actor (s : State) (f : Flight) (push : Nat) : Nat :=
  match FMap.find s.via push with
  | some v => v.strand
  | none => f.owner.strand

/-- The copy is stored at its endpoint, with what its release orders (R211, R218, R314). -/
def State.storeCopy (s : State) (f : Flight) : State :=
  match f.kind with
  | .item q e push items failed first =>
    let s := s.showDie f.owner (s.queue q).scope f.id
    match s.epPort q e with
    | none =>
      match s.unitQueue q with
      | some d => (s.modDie d (fun x => { x with commands := x.commands ++ items })).settle f failed first
      | none =>
        if s.waitsForResume q e then s
        else
          match s.groupOf q with
          | some (k, i) => (s.contribute k i f items).settle f failed first
          | none => s.failEndpoint q e
    | some (t, pn, p) =>
      if bitAt (s.queue q).broken e then s.settle f (failed ||| 2 ^ e) first
      else
        (s.storeAt t pn (s.actor f push) items).settle f failed (match first with | none => some p.ordinal | x => x)
  | .command q c =>
    match (s.queue q).eps with
    | [] => s
    | (e, _) :: _ => ((s.dropFlight f.id).showDie f.owner (s.queue q).scope f.id).modEngine e (fun x =>
        { x with buf := x.buf ++ [c], since := if x.buf.isEmpty && x.run.isNone then (s.die (e / 64)).clock else x.since })
  | _ => s

/-- ITEM_STORED: a pushed copy arrives at a port, in its producer's order and after what its release orders (R218,
R314). The endpoint of a CMD queue is an engine; its copies arrive there by the same event. -/
def execItemStored (f : Nat) (s : State) : Host.Outcome State Fault Refusal := withFlight s f Kind.isItem State.storeCopy

/-- What a cancel of a tag leaves of items that are stored outside a tile's port (R226). -/
def keptItems (tag : BitVec 8) (l : List Item) : List Item := l.filter (fun x => x.beacon || x.header.setWidth 8 != tag)

/-- A cancel acts at an endpoint that is no tile's port: the translation unit, or a copy engine, whose commands carry tag 0; a command
that it performs has been popped (R226, R281, R283, R368). -/
def State.cancelUnit (s : State) (q : Nat) (tag : BitVec 8) : State :=
  match s.unitQueue q with
  | some d => s.modDie d (fun x => { x with commands := keptItems tag x.commands })
  | none =>
    match (s.queue q).type, (s.queue q).eps with
    | 2, (e, _) :: _ => if tag = 0 then s.modEngine e (fun x => { x with buf := [] }) else s
    | _, _ => s

/-- A cancel acts at its endpoint: it removes the stored items with the tag, but no beacon; at an endpoint whose placement is pre-empted
it waits, like the items behind it (R226, R359). -/
def State.applyCancel (s : State) (f : Flight) : State :=
  match f.kind with
  | .cancel q e tag =>
    match s.epPort q e with
    | none => if s.waitsForResume q e then s else (s.dropFlight f.id).cancelUnit q tag
    | some (t, pn, _) =>
      let s := (s.dropFlight f.id).modPort t pn (fun p =>
        let keep := p.items.filter (fun x => x.item.beacon || x.item.header.setWidth 8 != tag)
        { p with items := keep, cancelled := p.cancelled + BitVec.ofNat 32 (p.items.length - keep.length) })
      s.tracePort t 4 pn f.owner.strand q 0 (tag.setWidth 64) 0
  | _ => s

/-- CANCEL_ARRIVAL (R226). -/
def execCancelArrival (f : Nat) (s : State) : Host.Outcome State Fault Refusal :=
  withFlight s f (fun k => match k with | .cancel _ _ _ => true | _ => false) State.applyCancel

/-! ### Meanings -/
-- BEGIN
/-- R214: Binds a q register to a port. -/
def execQbind (t : WTail) (s : State) : Host.Outcome State Fault Refusal := run1 (hQbind t) s

/-- R214: Unbinds a q register. -/
def execQunb (d : BitVec 6) (s : State) : Host.Outcome State Fault Refusal := run1 (hQunb d) s

/-- R216: S form: pushes an item with a chosen header and length 1–4. -/
def execQpush (t : STail) (s : State) : Host.Outcome State Fault Refusal := run1 (hQpush t.toL) s

/-- R216: L form of QPUSH, lengths 1–8. -/
def execQpushL (t : LTail) (s : State) : Host.Outcome State Fault Refusal := run1 (hQpush t) s

/-- R222: S form: waits for and pops an item into registers. -/
def execQpop (t : STail) (s : State) : Host.Outcome State Fault Refusal := run1 (hQpop t.toL) s

/-- R222: L form of QPOP, including .h with a pop record. -/
def execQpopL (t : LTail) (s : State) : Host.Outcome State Fault Refusal := run1 (hQpop t) s

/-- R222: S form: pops without waiting, returning a record. -/
def execQtry (t : STail) (s : State) : Host.Outcome State Fault Refusal := run1 (hQtry t.toL) s

/-- R222: L form of QTRY. -/
def execQtryL (t : LTail) (s : State) : Host.Outcome State Fault Refusal := run1 (hQtry t) s

/-- R222: S form: reads the head item without removing it. -/
def execQpeek (t : STail) (s : State) : Host.Outcome State Fault Refusal := run1 (hQpeek t.toL) s

/-- R222: L form of QPEEK. -/
def execQpeekL (t : LTail) (s : State) : Host.Outcome State Fault Refusal := run1 (hQpeek t) s

/-- R224: Pops from the highest-priority ready port among several. -/
def execQsel (t : LTail) (s : State) : Host.Outcome State Fault Refusal := run1 (hQsel t) s

/-- R226: Sends a cancel that removes unpopped items with a tag at every endpoint. -/
def execQcancel (t : LWTail) (s : State) : Host.Outcome State Fault Refusal := run1 (hQcancel t) s

/-- R227: Reads port state. -/
def execQstat (t : LTail) (s : State) : Host.Outcome State Fault Refusal := run1 (hQstat t) s

/-- R225: S form: marks the item named by a pop record done. -/
def execQdone (t : STail) (s : State) : Host.Outcome State Fault Refusal := run1 (hQdone false t.toL) s

/-- R225: L form of QDONE. -/
def execQdoneL (t : LTail) (s : State) : Host.Outcome State Fault Refusal := run1 (hQdone false t) s

/-- R225: S form: marks the strand's earliest outstanding item of the port done. -/
def execQdoneO (t : STail) (s : State) : Host.Outcome State Fault Refusal := run1 (hQdone true t.toL) s

/-- R225: L form of QDONE.O. -/
def execQdoneOL (t : LTail) (s : State) : Host.Outcome State Fault Refusal := run1 (hQdone true t) s
-- END

end Sys2Proof.Machine
end

