-- ==== Sys2Proof/Machine/Tickets.lean ====
section
/-!
DEFINITION. Tickets: their sources and entries, LDT, RDM, RDMS, TKQ and TKD, retirement notices and the reclamation of
orphans (R232 to R251).
-/
namespace Sys2Proof.Machine

/-! ### Sources (R232 to R235) -/

/-- Entries in the table of a source kind: 0 slice, 1 bank, 2 tile (R233). -/
def tableSize : Nat → Nat
  | 0 => 4096
  | 1 => 1024
  | _ => 64

/-- The high-water mark of a source kind (R248). -/
def highWater : Nat → Nat
  | 0 => 3584
  | 1 => 896
  | _ => 56

/-- The key of a source in State.sources: its kind and its id (R233). -/
def sourceKey (kind id : Nat) : Nat := kind * 4096 + id

/-- The source that serves a target (R233, R240, R299, R364); a peer's frame has none. -/
def Target.source : Target → Nat
  | .hbm pa => sourceKey 0 (pa / 2 ^ 36 * 16 + pa / 128 % 16)
  | .ws d off => sourceKey 1 (d * 32 + off / 128 % 32)
  | .tile t _ => sourceKey 2 t
  | .peer _ _ _ => sourceKey 3 0

/-- The die whose counter a source uses. -/
def sourceDie (key : Nat) : Nat := if key / 4096 = 2 then key % 4096 / 512 else key % 4096 / 32

/-- Fabric cycles of a die (R3). -/
def State.fabric (s : State) (d : Nat) : Nat := (s.die d).clock / 2

/-- A source; one that has never been used has every entry FREE at generation 1 (R235). -/
def State.source (s : State) (key : Nat) : Source := FMap.get {} s.sources key

/-- Change a source. -/
def State.modSource (s : State) (key : Nat) (f : Source → Source) : State :=
  { s with sources := FMap.set s.sources key (f (s.source key)) }

/-- An entry. -/
def State.entry (s : State) (key e : Nat) : Entry := FMap.get {} (s.source key).entries e

/-- Change an entry. -/
def State.modEntry (s : State) (key e : Nat) (f : Entry → Entry) : State :=
  s.modSource key (fun x => { x with entries := FMap.put {} x.entries e (f (FMap.get {} x.entries e)) })

/-- The check field of a ticket's bits [63:16] at a source (R234). -/
def State.ticketCheck (s : State) (key : Nat) (bits : Nat) : Nat :=
  ofLe (shake256 (leBytes (Config.secret s.boots key).toNat 32 ++ leBytes bits 6) 2)

/-- Bits [63:16] of a ticket (R232). -/
def ticketBits (key entry : Nat) (gen : BitVec 16) (part : Nat) : Nat :=
  key / 4096 * 2 ^ 46 + key % 4096 * 2 ^ 34 + entry * 2 ^ 22 + gen.toNat * 2 ^ 6 + part

/-- A ticket (R232, R234). -/
def State.ticketOf (s : State) (key entry : Nat) (gen : BitVec 16) (part : Nat) : Word :=
  let b := ticketBits key entry gen part
  BitVec.ofNat 64 (b * 65536 + s.ticketCheck key b)

/-- The source that a ticket names. -/
def ticketSource (t : Word) : Nat := sourceKey (fieldNat t 62 2) (fieldNat t 50 12)

/-- The entry that a ticket names. -/
def ticketEntry (t : Word) : Nat := fieldNat t 38 12

/-- The generation in a ticket. -/
def ticketGen (t : Word) : BitVec 16 := BitVec.ofNat 16 (fieldNat t 22 16)

/-- The next generation of an entry (R235). -/
def nextGen (g : BitVec 16) : BitVec 16 := if g = 0xFFFF then 1 else g + 1

/-- A ticket that the issuing tile itself finds forged: an invalid kind, source or entry, or generation 0 (R235, R241).
-/
def forgedHere (t : Word) : Bool :=
  let k := fieldNat t 62 2
  let id := fieldNat t 50 12
  t != 0 && (k == 3 || (if k = 2 then !validTile id else decide (128 ≤ id)) || decide (tableSize k ≤ ticketEntry t) ||
    ticketGen t == 0)

/-! ### Budgets (R239, R341) -/

/-- Usage plus v stays within the budget of every node from a upwards that sets one; the budget stands at bits [lo+n-1:lo]
of word 4, the usage at the same bits of word 8, and bit f of the override field says that a node sets it (R341). -/
def State.withinBudget (s : State) (a lo n f v : Nat) : Bool :=
  (s.lineage 7 a).all (fun x =>
    !s.setsField f x || decide (fieldNat (s.rcb x 8) lo n + v ≤ fieldNat (s.rcb x 4) lo n))

/-- Charge usage to a node and its ancestors (R341). -/
def State.charge (s : State) (a lo n v : Nat) : State :=
  (s.lineage 7 a).foldl (fun b x => b.modRcb x 8 (fun w => bumpField w lo n v)) s

/-- Release usage from a node and its ancestors. -/
def State.discharge (s : State) (a lo n v : Nat) : State :=
  (s.lineage 7 a).foldl (fun b x => b.modRcb x 8 (fun w => putField w lo n (fieldNat w lo n - v))) s

/-- One more ticket entry fits the budgets of a placement's node and its ancestors (R239). -/
def State.ticketFits (s : State) : Option Nat → Bool
  | none => true
  | some a => s.withinBudget a 37 20 9 1

/-! ### LDT at its source (R237, R239, R240) -/

/-- The FREE entries of a source. -/
def State.freeEntries (s : State) (key : Nat) : List Nat :=
  (List.range (tableSize (key / 4096))).filter (fun i => (s.entry key i).st == .free)

/-- The source can give a request an entry. -/
def State.hasRoom (s : State) (key : Nat) (f : Flight) : Bool :=
  match f.kind with
  | .ldt _ _ _ _ _ _ _ node => !(s.freeEntries key).isEmpty && s.ticketFits node
  | _ => false

/-- The size in bytes of a size code (R240). -/
def ticketBytes (code : Nat) : Nat := 8 * 2 ^ code

/-- A request gets an entry, and its ticket sets out; which FREE entry it gets is open (R237, R240). The fetch keeps the request's
place in its strand's program order (R251, R318). -/
def State.allocate (s : State) (key : Nat) (f : Flight) : State :=
  match f.kind with
  | .ldt _ tgt va code _ owner part node =>
    let free := s.freeEntries key
    let (j, s) := s.choose free.length
    let e := free.getD j 0
    let g := (s.entry key e).gen
    let s := s.modEntry key e (fun x =>
      { x with st := .fetching, size := code, addr := va, owner := owner, part := part, node := node, data := [], redeem := none, seen := none })
    let s := match node with | none => s | some a => s.charge a 37 20 1
    let s := s.modSource key (fun x => { x with waiting := x.waiting.filter (· != f.id) })
    let s := s.answer f [.s (s.ticketOf key e g part)]
    s.send f.owner 1 none (.fetch key e g tgt (ticketBytes code) (List.replicate (2 ^ code) none) f.id)
  | _ => s

/-- Serve the waiting requests of a source, the oldest that can be served first (R239). The fuel is their number. -/
def State.serveSource (s : State) (key : Nat) : Nat → State
  | 0 => s
  | n + 1 =>
    match ((s.source key).waiting.filterMap s.flight).find? (fun f => s.hasRoom key f) with
    | none => s
    | some f => (s.allocate key f).serveSource key n

/-- Serve the waiting requests of every source: an entry has become FREE, or the usage of a budget has fallen; which
source is first is open (R239). -/
def State.serveSources (s : State) : State :=
  match (s.sources.filter (fun e => !e.2.waiting.isEmpty)).map (·.1) with
  | [] => s
  | ks =>
    let (i, s) := s.choose ks.length
    (ks.drop i ++ ks.take i).foldl (fun a k => a.serveSource k (a.source k).waiting.length) s

/-- A waiting request fits its budgets now: system software has raised one in memory (R239, R339). -/
def State.serveRoom (s : State) : State :=
  if s.sources.any (fun e => e.2.waiting.any (fun i => (s.flight i).any (s.hasRoom e.1))) then s.serveSources else s

/-- An entry becomes FREE with its generation advanced (R237). -/
def State.freeEntry (s : State) (key e : Nat) : State :=
  let x := s.entry key e
  let s := s.modEntry key e (fun x => { gen := nextGen x.gen })
  (match x.node with | none => s | some a => s.discharge a 37 20 1).serveSources

/-- An LDT request reaches its source: an entry, the null ticket, or a wait (R239, R240). -/
def State.arriveLdt (s : State) (f : Flight) : State :=
  match f.kind with
  | .ldt key _ _ _ trying _ _ _ =>
    if (s.source key).waiting.contains f.id then s
    else if s.hasRoom key f then s.allocate key f
    else if trying then s.answer f [.s 0]
    else s.modSource key (fun x => { x with waiting := x.waiting ++ [f.id] })
  | _ => s

/-- LDT_REQUEST_ARRIVAL (R240). -/
def execLdtRequestArrival (f : Nat) (s : State) : Host.Outcome State Fault Refusal :=
  withFlight s f (fun k => match k with | .ldt _ _ _ _ _ _ _ _ => true | _ => false) State.arriveLdt

/-! ### Delivery (R243, R244) -/

/-- The bytes that a delivery of a width writes: the entry's, and zero above them (R243). -/
def deliveryBytes (data : List Byte) (width : Nat) : List Byte := (List.range width).map (fun i => data.getD i 0)

/-- The delivery of an entry starts: its data sets out to the redeem (R237). -/
def State.startDelivery (s : State) (key e : Nat) : State :=
  match (s.entry key e).redeem with
  | none => s
  | some r =>
    match s.flight r with
    | none => s
    | some f =>
      match f.kind with
      | .redeem t w p h _ _ => s.setKind r (.redeem t w p h (some (deliveryBytes (s.entry key e).data w)) 0)
      | _ => s

/-- Bytes as the value of a register: 128 bytes for a v register (R243). -/
def bytesVal (r : RegRef) (l : List Byte) : Val :=
  match r with
  | .v _ _ => .v (BitVec.ofNat 1024 (ofLe l))
  | _ => .s (BitVec.ofNat 64 (ofLe l))

/-- A delivery to a page is discarded: the page is quarantined (R245). -/
def State.discardsAt (s : State) (t pa : Nat) : Bool := (s.tile t).quar.contains ⟨2, pa / 4096⟩

/-- Write bytes of a delivery into scratchpad; a quarantined page discards them (R243, R245). -/
def State.writeDelivery (s : State) (t pa : Nat) (l : List Byte) : State :=
  if s.discardsAt t pa then s
  else s.modTile t (fun y =>
    let y := (List.range l.length).foldl (fun (a : Tile) i => a.setByte (pa + i) (l.getD i 0)) y
    (List.range (l.length / 8)).foldl (fun (a : Tile) i => a.cleanse (pa + 8 * i)) y)

/-- The burst of the bytes from pa on that a unit belongs to: bursts end at multiples of 128 (R396). -/
def burstOf (pa n unit : Nat) : Nat × Nat := burst pa n (unit / 2 - pa / 128)

/-- The other unit of a flight's burst has yet to be served (R163, R396). -/
def State.burstOpen (s : State) (t id unit : Nat) : Bool :=
  (s.tile t).bankQ.any (fun r => r.flight == id && r.engine.isNone && r.unit / 2 == unit / 2)

/-- The bytes of n bytes from pa that lie in a unit: how many stand before them, and how many they are. -/
def partIn (pa n unit : Nat) : Nat × Nat :=
  let lo := Nat.max pa (64 * unit)
  (lo - pa, Nat.min (pa + n) (64 * unit + 64) - lo)

/-- A delivery completes: its register fills, and the entry becomes FREE, unless it has been freed since; a redeem that was not served
has no entry (R237, R243, R244). -/
def State.finishRedeem (s : State) (f : Flight) : State :=
  match f.kind with
  | .redeem t _ p _ (some l) st =>
    let s := s.dropFlight f.id
    let s := if !f.live then s
      else
        match p with
        | none => s.fillRegs f.dests (f.dests.map (fun r => bytesVal r l))
        | some _ => s.fillRegs f.dests [.s (BitVec.ofNat 64 st)]
    let x := s.entry (ticketSource t) (ticketEntry t)
    if st = 0 ∧ x.st = .redeeming ∧ x.gen = ticketGen t ∧ x.redeem = some f.id then s.freeEntry (ticketSource t) (ticketEntry t) else s
  | _ => s

/-- A flight has no request at a bank of a tile any more. -/
def State.servedAll (s : State) (t id : Nat) : Bool := !(s.tile t).bankQ.any (fun r => r.flight == id && r.engine.isNone)

/-- A bank serves a delivery for one unit; a strike is recorded once the unit's burst is written, and with the last unit the delivery
completes (R163, R243, R396). -/
def State.deliverUnit (s : State) (f : Flight) (t unit : Nat) : State :=
  match f.kind with
  | .redeem _ _ (some (_, pa)) _ (some l) _ =>
    let (i, n) := partIn pa l.length unit
    let s := s.writeDelivery t (pa + i) ((l.drop i).take n)
    let (lo, k) := burstOf pa l.length unit
    let s := if s.burstOpen t f.id unit || s.discardsAt t pa then s else s.burstStrike t 0xFF f.owner.strand lo k true 0
    if s.servedAll t f.id then s.finishRedeem f else s
  | _ => s

/-- DELIVERY_COMPLETE: not before the held bundle has committed; a delivery to scratchpad is a remote write (R243,
R244). -/
def execDeliveryComplete (f : Nat) (s : State) : Host.Outcome State Fault Refusal :=
  withFlight s f (fun k => match k with | .redeem _ _ _ false (some _) _ => true | _ => false) (fun s f =>
    match f.kind with
    | .redeem _ n (some (t, pa)) _ _ _ => s.viaBank f t (unitsAt pa n)
    | _ => s.finishRedeem f)

/-! ### The fetch (R237, R240, R251) -/

/-- The target some bytes further on. -/
def Target.plus (t : Target) (k : Nat) : Target :=
  match t with
  | .hbm pa => .hbm (pa + k)
  | .tile t off => .tile t (off + k)
  | .ws d off => .ws d (off + k)
  | .peer p pa va => .peer p (pa + k) (va + k)

/-- One of the 8-byte words of a fetch is bound: it is read from memory (R251). -/
def State.bindWord (s : State) (id i : Nat) : State :=
  match s.flight id with
  | none => s
  | some f =>
    match f.kind with
    | .fetch key e g tgt n ws q =>
      if s.ready f && decide (ws[i]? = some none) then
        (s.afterRead tgt).setKind id (.fetch key e g tgt n (ws.set i (some (s.readTarget (tgt.plus (8 * i)) 8))) q)
      else s
    | _ => s

/-- The words of a fetch as far as they are bound. -/
def State.fetchWords (s : State) (id : Nat) : List (Option Nat) :=
  match (s.flight id).map Flight.kind with
  | some (.fetch _ _ _ _ _ ws _) => ws
  | _ => []

/-- Every word of a fetch that is not bound is bound now. -/
def State.bindAll (s : State) (id : Nat) : State :=
  (List.range (s.fetchWords id).length).foldl (fun (a : State) i => a.bindWord id i) s

/-- The bytes that a fetch has bound. -/
def State.fetched (s : State) (id : Nat) : List Byte := (s.fetchWords id).flatMap (fun w => leBytes (w.getD 0) 8)

/-- The entry of a fetch has been freed since, and its data is discarded (R237). -/
def State.stale (s : State) (key e : Nat) (g : BitVec 16) : Bool :=
  let x := s.entry key e
  x.gen != g || x.st == .free || x.st == .ready

/-- The data of a fetch is stored in its entry; the data of an entry that has been freed since is discarded, and an
uncorrectable word frees the entry (R237, R240, R408). A fabric cycle in which a ticket was presented to the entry is too late
for data to be stored, for the storing comes first (R238). -/
def State.storeFetch (s : State) (f : Flight) : State :=
  match f.kind with
  | .fetch key e g tgt n _ _ =>
    let x := s.entry key e
    if s.stale key e g then s.dropFlight f.id
    else if x.seen = some (s.fabric (sourceDie key)) then s
    else
      let s := s.bindAll f.id
      let l := s.fetched f.id
      let s := s.dropFlight f.id
      if s.targetBad tgt n then
        (s.noteError (sourceDie key) tgt.structure (s.errKey tgt).1 (s.errKey tgt).2 f.owner.tile f.owner.strand (BitVec.ofNat 64 x.addr)
          x.node).freeEntry key e
      else
        let s := s.modEntry key e (fun y => { y with data := l, arrived := s.fabric (sourceDie key) })
        if x.st = .fetching then s.modEntry key e (fun y => { y with st := .ready }) else s.startDelivery key e
  | _ => s

/-- The scratchpad address of an entry's data at a tile source (R233). -/
def landing (e : Nat) : Nat := 0x8000 + 128 * e

/-- A bank serves a fetch of a tile source for one unit: the words of the unit are bound, and another tile's watchpoints see it; or,
once every word is bound, the bytes of the unit are written where the entry's data stands, and with the last the data is stored
(R163, R240, R395). -/
def State.fetchUnit (s : State) (f : Flight) (t unit : Nat) : State :=
  match f.kind with
  | .fetch key e g (.tile u off) n ws _ =>
    if ws.any (·.isNone) then
      let here := (List.range ws.length).filter (fun i => (s.tile u).winPhys (off + 8 * i) / 64 == unit)
      let s := here.foldl (fun (a : State) i => (a.bindWord f.id i).remoteStrike f.owner u ((a.tile u).winPhys (off + 8 * i)) 8 true false) s
      if !s.servedAll t f.id then s
      else
        match s.flight f.id with
        | some f' => s.viaBank f' t (unitsAt (landing e) n)
        | none => s
    else
      let (i, k) := partIn (landing e) n unit
      let l := s.fetched f.id
      let s := if s.stale key e g then s
        else s.modTile t (fun y => (List.range k).foldl (fun (a : Tile) j => a.setByte (landing e + i + j) (l.getD (i + j) 0)) y)
      if s.servedAll t f.id then s.storeFetch f else s
  | _ => s

/-- FETCH_DATA_STORED; a tile source reads and copies the bytes under the rules of its banks (R240). -/
def execFetchDataStored (f : Nat) (s : State) : Host.Outcome State Fault Refusal :=
  withFlight s f (fun k => match k with | .fetch _ _ _ _ _ _ _ => true | _ => false) (fun s f =>
    match f.kind with
    | .fetch _ e _ (.tile t off) n ws _ =>
      if ws.any (·.isNone) then s.viaBank f t ((List.range ws.length).map (fun i => (s.tile t).winPhys (off + 8 * i) / 64)).dedup
      else s.viaBank f t (unitsAt (landing e) n)
    | _ => s.storeFetch f)

/-! ### Presentation (R241, R244, R246) -/

/-- The answer of a source to a presented ticket: 0 OK, 1 STALE, 2 DOUBLE, 3 FORGED; part is the presenter's partition,
or none where any is accepted (R241). -/
def State.presentTicket (s : State) (t : Word) (part : Option Nat) : Nat :=
  let key := ticketSource t
  let x := s.entry key (ticketEntry t)
  if fieldNat t 0 16 ≠ s.ticketCheck key (fieldNat t 16 48) then 3
  else if (match part with | some p => decide (fieldNat t 16 6 ≠ p) | none => false) then 3
  else if x.st = .free ∨ x.gen ≠ ticketGen t then 1
  else if x.st = .redeeming then 2
  else 0

/-- An entry with an uncorrectable error is freed before a ticket for it is looked at (R408). -/
def State.scrubEntry (s : State) (key e : Nat) : State :=
  let x := s.entry key e
  if x.bad then
    let s := s.noteError (sourceDie key) 4 key e (if key / 4096 = 2 then key % 4096 else 0x7FF) 0 (BitVec.ofNat 64 x.addr) x.node
    ({ s with noted := s.noted.filter (· != (4, key, e)) } : State).freeEntry key e
  else s

/-- A ticket is presented to an entry in this fabric cycle (R238). -/
def State.markSeen (s : State) (key e : Nat) : State :=
  if (s.entry key e).st = .free then s
  else s.modEntry key e (fun x => { x with seen := some (s.fabric (sourceDie key)) })

/-- A redeem is presented: an OK makes the entry REDEEMING, and its delivery starts once the data is there (R237,
R241). -/
def State.presentRedeem (s : State) (f : Flight) : State :=
  match f.kind with
  | .present t p node r q none =>
    let s := (s.scrubEntry (ticketSource t) (ticketEntry t)).markSeen (ticketSource t) (ticketEntry t)
    let a := s.presentTicket t (some p)
    let key := ticketSource t
    let e := ticketEntry t
    let ready := (s.entry key e).st == .ready
    let s := { s with flights := s.flights.map (fun x =>
      if x.id == f.id then { x with kind := .present t p node r q (some a), lo := (s.die x.die).clock + 1 } else x) }
    if a = 0 then
      let s := s.modEntry key e (fun x => { x with st := .redeeming, redeem := some r })
      if ready then s.startDelivery key e else s
    else s
  | _ => s

/-- REDEEM_PRESENTATION (R241). -/
def execRedeemPresentation (f : Nat) (s : State) : Host.Outcome State Fault Refusal :=
  withFlight s f (fun k => match k with | .present _ _ _ _ _ none => true | _ => false) State.presentRedeem

/-- TICKET_FORGED: the lantern records the ticket (R241, R405). -/
def forged (t : Word) : Cause := { code := .ticketForged, info := t, placement := true, detail := t }

/-- A redeem that is not served: a quiet form gets zeros and its status; a delivery to scratchpad writes zeros over its
bytes, as any delivery does at its banks (R163, R244). -/
def State.failRedeem (s : State) (r : Nat) (a : Nat) : State :=
  match s.flight r with
  | none => s
  | some f =>
    match f.kind with
    | .redeem t w (some p) false _ _ => s.setKind r (.redeem t w (some p) false (some (List.replicate w 0)) a)
    | .redeem _ w none false _ _ =>
      let s := s.dropFlight r
      if f.live then s.fillRegs f.dests (f.dests.map (fun x => bytesVal x (List.replicate w 0))) else s
    | _ => s.dropFlight r

/-- The answer reaches the strand that waits for it, if it still does (R244). -/
def State.answerHold (s : State) (w : Who) (r a : Nat) : State :=
  s.modStrand w (fun x =>
    match x.hold with
    | some h => if h.redeem = r then { x with hold := some { h with answer := some a } } else x
    | none => x)

/-- The answer to a redeem arrives (R241, R244). -/
def State.takeAnswer (s : State) (f : Flight) : State :=
  match f.kind with
  | .present t _ node r q (some a) =>
    let s := s.dropFlight f.id
    if a = 3 then
      let s := s.dropFlight r
      if node = (s.tile f.owner.tile).place then s.placementFatal f.owner (forged t) (s.strand f.owner).ip else s
    else if q then
      let s := if f.live then s.fillRegs f.dests [.s (BitVec.ofNat 64 a)] else s
      if a = 0 then s else s.failRedeem r a
    else
      let s := if a = 0 then s else s.dropFlight r
      s.answerHold f.owner r a
  | _ => s

/-- REDEEM_ANSWER (R244). -/
def execRedeemAnswer (f : Nat) (s : State) : Host.Outcome State Fault Refusal :=
  withFlight s f (fun k => match k with | .present _ _ _ _ _ (some _) => true | _ => false) State.takeAnswer

/-- A held redeem commits: its register is PENDING on the delivery (R244). -/
def State.commitRedeem (s : State) (h : Hold) : State :=
  match s.flight h.redeem with
  | none => s
  | some f =>
    match f.kind with
    | .redeem t n p _ d st =>
      let s := h.dest.toList.foldl (fun (a : State) r => a.markReg r .pending) s
      { s with flights := s.flights.map (fun (x : Flight) =>
          if x.id == f.id then { x with kind := .redeem t n p false d st, dests := h.dest.toList } else x) }
    | _ => s

/-- A strand whose held redeem has been answered goes on in its slot: the bundle commits, or it traps (R244). -/
def State.finishHold (s : State) (w : Who) : State :=
  match (s.strand w).hold with
  | none => s
  | some h =>
    match h.answer with
    | none => s
    | some 0 =>
      if h.dest.any (fun r => s.regFill r == .pending) then s
      else
        (s.commitRedeem h).modStrand w (fun x =>
          { (match h.bump with | none => x | some n => x.writeP n (x.readP n).bump) with hold := none, ip := h.next, ignoreOnce := false })
    | some a =>
      (s.modStrand w (fun x => { x with hold := none })).takeTrap w
        { code := if a = 1 then .ticketStale else .ticketDouble, info := h.ticket } (s.strand w).ip

/-! ### LDT (R240) -/

/-- Who owns an entry that a strand asks for (R236). -/
def State.ticketOwner (s : State) (w : Who) : TOwner :=
  if (s.strand w).crewed then ⟨w.tile, true, (s.strand w).crewId.toNat⟩ else ⟨w.tile, false, w.strand⟩

/-- The LDT requests of a tile whose tickets have not returned (R240). -/
def State.ldtOut (s : State) (t : Nat) : List Nat := (s.tile t).ldt.filter (fun i => (s.flight i).isSome)

/-- The target of an LDT, or its trap, or its wait. -/
def State.ldtTarget (s : State) (w : Who) (va n : Nat) : Xlate :=
  match s.checkGlobal w va n 0 true with
  | .ok (.peer _ _ _) => .bad (denied va 0)
  | x => x

/-- LDT: sub [2:0] the size code, sub [3] .t (R240). -/
def hLdt (t : LWTail) : Half :=
  let code := match t with | .l t => fieldNat t.sub 0 3 | .w t => fieldNat t.sub 0 3
  let n := ticketBytes code
  { mask := (maskOf t).toNat, srcs := [baseOf t], dests := [.g (dstOf t).index], memory := true
    traps := fun s w => match s.ldtTarget w (s.globalEa w t) n with | .bad c => some c | _ => none
    waits := fun pre _ w =>
      match pre.ldtTarget w (pre.globalEa w t) n with
      | .miss k => some { kind := 9, note := some (.miss k) }
      | _ => if 32 ≤ (pre.ldtOut w.tile).length then some { kind := 0 } else none
    touch := fun s w =>
      match s.ldtTarget w (s.globalEa w t) n with
      | .ok (.tile u off) => if u = w.tile then [{ pa := (s.tile u).winPhys off, n := n, load := true, later := true }] else []
      | _ => []
    effect := fun pre cur w =>
      match pre.ldtTarget w (pre.globalEa w t) n with
      | .ok tgt =>
        let s := cur.modTile w.tile (fun y => { y with ldt := pre.ldtOut w.tile ++ [cur.nextId] })
        (s.noteCircuit w tgt).sendLong w 1 none
          (.ldt tgt.source tgt (pre.globalEa w t) code (subBit 3 t) (pre.ticketOwner w) (pre.tile w.tile).part (pre.tile w.tile).place)
          ((Loc.g (dstOf t).index).ref w).toList
      | _ => cur }

/-! ### RDM and RDMS (R242 to R244) -/

/-- The traps of a ticket that are decided at the issuing tile; a trapping form also finds the null ticket STALE (R241).
-/
def localTicketFault (t : Word) (quiet : Bool) : Option Cause :=
  if forgedHere t then some (forged t)
  else if t = 0 ∧ !quiet then some { code := .ticketStale, info := t }
  else none

/-- A redeem: quiet forms issue at once, trapping forms are held until the answer; a fused strand may not use the
trapping forms (R244). RDMS stores, and so waits behind an acquire and behind what the matrix path owes its bytes (R260, R314). -/
def redeemHalf (t : LTail) (quiet stores : Bool) (srcs : List Src) (dests : List Loc)
    (fault : State → Who → Option Cause) (req : State → Who → RedeemReq) : Half :=
  { mask := t.k.toNat, srcs := t.srcA :: srcs, dests := dests, solo := !quiet, memory := stores
    touch := fun s w =>
      let r := req s w
      r.place.toList.map (fun pa => { pa := pa, n := r.width, store := true, later := true })
    traps := fun s w =>
      firstCause [fault s w,
        if !quiet && (s.strand w).fused then some (gangMismatch 10) else none,
        localTicketFault (s.scalar w t.srcA.loc) quiet]
    waits := fun pre _ w => if quiet then none else some { kind := 16, note := some (.redeem (req pre w)) }
    effect := fun pre cur w =>
      let r := req pre w
      let s := cur.sendRedeem w r
      match r.bump with
      | none => s
      | some n => s.bumpLoc w (.m n true) }

/-- RDM: sub [0] .q, sub [1] .v (R242). -/
def hRdm (t : LTail) : Half :=
  let quiet := t.bit 0
  let d : Loc := if t.bit 1 then .v t.d.toNat else t.dst
  let st : Loc := .g t.b.toNat
  redeemHalf t quiet false [] (if quiet then [d, st] else [d]) (fun _ _ => none) (fun s w =>
    { ticket := s.scalar w t.srcA.loc, width := if t.bit 1 then 128 else 8, dest := d.ref w
      status := if quiet then st.ref w else none, quiet := quiet })

/-- RDMS: sub [2:0] the size code, sub [3] .q, sub [4] the post-increment of a pointer (R242, R243). -/
def hRdms (t : LTail) : Half :=
  let quiet := t.bit 3
  let n := ticketBytes (fieldNat t.sub 0 3)
  let ea := fun (s : State) (w : Who) => (s.scalar w t.srcB.loc).toNat % 2 ^ 20
  let bump := match t.srcB.loc with | .p j => if t.bit 4 then some j else none | _ => none
  redeemHalf t quiet true [t.srcB] (t.dst :: (bump.toList.map (fun j => Loc.m j true)))
    (fun s w => s.localFault w (ea s w) n 1 false)
    (fun s w =>
      { ticket := s.scalar w t.srcA.loc, width := n, place := some (s.phys w (ea s w)), dest := t.dst.ref w
        quiet := quiet, bump := bump })

/-! ### TKQ and TKD (R246) -/

/-- TKQ and TKD: the null ticket is STALE without being sent (R241, R246). -/
def hTicketQuery (drop : Bool) (t : LTail) : Half :=
  { mask := t.k.toNat, srcs := [t.srcA], dests := [t.dst]
    traps := fun s w => localTicketFault (s.scalar w t.srcA.loc) true
    effect := fun pre cur w =>
      let x := pre.scalar w t.srcA.loc
      let ds := (t.dst.ref w).toList
      if x = 0 then cur.sendLong w 1 (some 8) (.long [.s (if drop then 1 else 0)]) ds
      else
        cur.sendLong w 1 none
          (.query drop x (if (pre.strand w).system then none else some (pre.tile w.tile).part)
            (pre.tile w.tile).place) ds }

/-- The state code of an entry in TKQ's answer (R246). -/
def TState.code : TState → Nat
  | .free => 0
  | .fetching => 1
  | .ready => 2
  | .redeeming => 3

/-- What TKQ answers (R246). -/
def State.queryWord (s : State) (t : Word) (a : Nat) : Word :=
  let key := ticketSource t
  let x := s.entry key (ticketEntry t)
  if a = 1 then 0
  else
    BitVec.ofNat 64 (x.st.code + x.size * 4 +
      (if x.st = .ready then (s.fabric (sourceDie key) - x.arrived) % 2 ^ 48 * 65536 else 0))

/-- A query or a drop at its source; a forged ticket's answer ends the placement (R241, R246). -/
def State.presentQuery (s : State) (f : Flight) : State :=
  match f.kind with
  | .query drop t part node =>
    let s := (s.scrubEntry (ticketSource t) (ticketEntry t)).markSeen (ticketSource t) (ticketEntry t)
    let a := s.presentTicket t part
    if a = 3 then
      { s with flights := s.flights.map (fun x =>
          if x.id == f.id then
            { x with kind := .present t 0 node x.id true (some 3), lo := (s.die x.die).clock + 1 }
          else x) }
    else if drop then
      let s := s.answer f [.s (BitVec.ofNat 64 a)]
      if a = 0 then s.freeEntry (ticketSource t) (ticketEntry t) else s
    else s.answer f [.s (s.queryWord t a)]
  | _ => s

/-- TKQ_PRESENTATION (R246). -/
def execTkqPresentation (f : Nat) (s : State) : Host.Outcome State Fault Refusal :=
  withFlight s f (fun k => match k with | .query false _ _ _ => true | _ => false) State.presentQuery

/-- TKD_PRESENTATION (R246). -/
def execTkdPresentation (f : Nat) (s : State) : Host.Outcome State Fault Refusal :=
  withFlight s f (fun k => match k with | .query true _ _ _ => true | _ => false) State.presentQuery

/-! ### Retirement and reclamation (R247 to R249) -/

/-- Count in word 11 of the node that an entry is charged to: orphans at 0, entries freed by retirement at 32 (R340). -/
def State.countTickets (s : State) (node : Option Nat) (lo : Nat) : State :=
  match node with
  | none => s
  | some a => s.modRcb a 11 (fun x => bumpField x lo 32 1)

/-- The owner's FETCHING and READY entries at a source become FREE, and its earlier requests are withdrawn, those that wait and
those still on their way, so that the notice comes in time (R240, R247, assumption 103). -/
def State.arriveNotice (s : State) (f : Flight) : State :=
  match f.kind with
  | .retire o key =>
    let s := s.dropFlight f.id
    let gone := s.flights.filter (fun g => decide (g.id < f.id) && g.kind.requests o == some key)
    let s := gone.foldl (fun (a : State) g => a.dropFlight g.id) s
    let s := s.modSource key (fun x => { x with waiting := x.waiting.filter (fun i => !gone.any (fun g => g.id == i)) })
    (s.source key).entries.foldl (fun (a : State) e =>
      if e.2.owner == o && (e.2.st == .fetching || e.2.st == .ready) then
        (a.countTickets e.2.node 32).freeEntry key e.1
      else a) s
  | _ => s

/-- RETIREMENT_NOTICE (R247). -/
def execRetirementNotice (f : Nat) (s : State) : Host.Outcome State Fault Refusal :=
  withFlight s f (fun k => match k with | .retire _ _ => true | _ => false) State.arriveNotice

/-- The partition node above a node, the node of depth 1 (R339). -/
def State.partitionNode (s : State) (a : Nat) : Nat :=
  ((s.lineage 7 a).find? (fun x => fieldNat (s.rcb x 0) 0 2 == 1)).getD 0

/-- The age that makes a READY entry an orphan, in fabric cycles (R248). -/
def State.orphanAge (s : State) (node : Option Nat) : Nat :=
  match node with
  | none => 2 ^ 10
  | some a => 2 ^ (10 + fieldNat (s.rcb (s.setter 2 7 (s.partitionNode a)) 0) 17 4)

/-- Entries of a source that are not FREE. -/
def Source.occupied (x : Source) : Nat := (x.entries.filter (fun e => e.2.st != .free)).length

/-- The orphan that a source would reclaim: of the READY entries old enough the one that arrived first (R248). -/
def State.orphan (s : State) (key : Nat) : Option (Nat × Entry) :=
  let now := s.fabric (sourceDie key)
  let old := (s.source key).entries.filter (fun e => e.2.st == .ready && decide (e.2.arrived + s.orphanAge e.2.node ≤ now))
  old.find? (fun e => old.all (fun x => decide (e.2.arrived ≤ x.2.arrived)))

/-- ORPHAN_RECLAIM: at most one entry in a fabric cycle, while the source is above its mark (R248, R249). -/
def execOrphanReclaim (kind source : Nat) (s : State) : Host.Outcome State Fault Refusal :=
  let key := sourceKey kind source
  let now := s.fabric (sourceDie key)
  if highWater kind < (s.source key).occupied ∧ (s.source key).reclaimed ≠ some now then
    match s.orphan key with
    | none => .next s
    | some (e, x) =>
      let t := s.ticketOf key e x.gen x.part
      let s := s.modSource key (fun y => { y with reclaimed := some now })
      let s := (s.countTickets x.node 0).freeEntry key e
      .next (s.report x.owner.tile (if x.owner.crewed then x.owner.idx else 15) 3
        [t, BitVec.ofNat 64 ((now - x.arrived) % 2 ^ 48 + x.size * 2 ^ 48)])
  else .next s

/-! ### Meanings -/
-- BEGIN
/-- R240: Starts a fetch and returns a ticket. -/
def execLdt (t : LWTail) (s : State) : Host.Outcome State Fault Refusal := run1 (hLdt t) s

/-- R242: S form: redeems a ticket into a register. -/
def execRdm (t : STail) (s : State) : Host.Outcome State Fault Refusal := run1 (hRdm t.toL) s

/-- R242: L form of RDM. -/
def execRdmL (t : LTail) (s : State) : Host.Outcome State Fault Refusal := run1 (hRdm t) s

/-- R242: S form: redeems a ticket into scratchpad. -/
def execRdms (t : STail) (s : State) : Host.Outcome State Fault Refusal := run1 (hRdms t.toL) s

/-- R242: L form of RDMS. -/
def execRdmsL (t : LTail) (s : State) : Host.Outcome State Fault Refusal := run1 (hRdms t) s

/-- R246: S form: queries a ticket's entry state. -/
def execTkq (t : STail) (s : State) : Host.Outcome State Fault Refusal := run1 (hTicketQuery false t.toL) s

/-- R246: L form of TKQ. -/
def execTkqL (t : LTail) (s : State) : Host.Outcome State Fault Refusal := run1 (hTicketQuery false t) s

/-- R246: S form: drops a ticket's entry. -/
def execTkd (t : STail) (s : State) : Host.Outcome State Fault Refusal := run1 (hTicketQuery true t.toL) s

/-- R246: L form of TKD. -/
def execTkdL (t : LTail) (s : State) : Host.Outcome State Fault Refusal := run1 (hTicketQuery true t) s
-- END

end Sys2Proof.Machine
end

