-- ==== Sys2Proof/Machine/Engines.lean ====
section
/-!
DEFINITION. Copy engines and their commands, completion rings, phase barriers, streams, the refresh of the weight store
(R281 to R300).
-/
namespace Sys2Proof.Machine

/-! ### The command image (R284 to R286) -/

/-- The operation: 0 COPY, 1 FILL, 2 GATHERQ, 3 SCATTER, 4 RADD32, 5 RADD16 (R284). -/
def Cmd.op (c : Cmd) : Nat := fieldNat (c.word 0) 0 3

/-- The source kind: 0 GLOBAL, 1 TILE, 2 WS (R284). -/
def Cmd.skind (c : Cmd) : Nat := fieldNat (c.word 0) 3 3

/-- The destination kind: 0 GLOBAL, 1 TILE, 2 WS, 3 OS, 4 QUEUE (R284). -/
def Cmd.dkind (c : Cmd) : Nat := fieldNat (c.word 0) 6 3

/-- The element size E (R284). -/
def Cmd.size (c : Cmd) : Nat := fieldNat (c.word 0) 9 12 + 1

/-- The ring that the end is written to (R284). -/
def Cmd.ring (c : Cmd) : Option Nat := if bitAt (c.word 0) 36 then some (fieldNat (c.word 0) 32 4) else none

/-- The command tag (R284). -/
def Cmd.tag (c : Cmd) : Nat := fieldNat (c.word 0) 37 16

/-- The number of elements (R286). -/
def Cmd.total (c : Cmd) : Nat := (c.levels.map (·.1)).foldl (· * ·) 1

/-- The source address of element n (R286). -/
def Cmd.src (c : Cmd) (n : Nat) : Nat :=
  ((((c.word 1).toNat : Int) + levelOffset (c.levels.map (fun (e : Nat × Int × Int) => (e.1, e.2.1))) n) % 2 ^ 64).toNat

/-- The destination offset of element n (R286). -/
def Cmd.dstOff (c : Cmd) (n : Nat) : Int := levelOffset (c.levels.map (fun (e : Nat × Int × Int) => (e.1, e.2.2))) n

/-- The destination address some offset from the base (R286). -/
def Cmd.dst (c : Cmd) (d : Int) : Nat := ((((c.word 2).toNat : Int) + d) % 2 ^ 64).toNat

/-- The end-of-dimension level that element n closes (R287). -/
def Cmd.eod (c : Cmd) (n : Nat) : Nat :=
  let rec go : List (Nat × Int × Int) → Nat → Nat → Nat
    | [], _, _ => 0
    | _, _, 0 => 0
    | (k, _) :: r, n, fuel + 1 => if n % k + 1 = k then 1 + go r (n / k) fuel else 0
  go c.levels n 7

/-- A scope field: a scope with its flag, zero without (R284). -/
def scopeBad (on : Bool) (sc : Nat) : Bool := if on then decide (sc = 0) || decide (5 < sc) else decide (sc ≠ 0)

/-- An address word of a kind breaks its layout (R285). -/
def addrBad (kind a : Nat) : Bool :=
  match kind with
  | 0 => false
  | 1 => decide (2 ^ 20 ≤ a)
  | 2 => decide (2 ^ 36 ≤ a) || decide (a / 2 ^ 30 % 16 ≠ 0) || decide (0x30000000 ≤ a % 2 ^ 30)
  | 3 => decide (2 ^ 25 ≤ a) || decide (7 < a / 2 ^ 19 % 16)
  | _ => decide (2 ^ 16 ≤ a)

/-- The kinds that an operation allows (R286). -/
def Cmd.kindsBad (c : Cmd) : Bool :=
  decide (5 < c.op) || decide (2 < c.skind) || decide (4 < c.dkind) ||
    (match c.op with
     | 1 => decide (c.skind ≠ 0) || decide (3 < c.dkind)
     | 2 => decide (c.dkind ≠ 4)
     | 4 => decide (1 < c.dkind)
     | 5 => decide (1 < c.dkind)
     | _ => decide (3 < c.dkind))

/-- What E and the addresses of an operation are multiples of (R286). -/
def Cmd.unit (c : Cmd) : Nat :=
  match c.op with
  | 2 => 8
  | 4 => 4
  | 5 => 2
  | _ => 1

/-- E or an address of an element breaks the alignment of the operation (R286). -/
def Cmd.alignBad (c : Cmd) : Bool :=
  let used := c.levels.filter (fun e => e.1 != 1)
  let off := fun (x : Int) => decide (x % (c.unit : Int) ≠ 0)
  off c.size || off (c.word 1).toNat || used.any (fun e => off e.2.1) ||
    (decide (4 ≤ c.op) && (off (c.word 2).toNat || used.any (fun e => off e.2.2)))

/-- A word that shall be zero is not (R284, R286). -/
def Cmd.zeroBad (c : Cmd) : Bool :=
  let w := c.word 0
  decide (fieldNat w 58 6 ≠ 0) || scopeBad (bitAt w 24) (fieldNat w 25 3) || scopeBad (bitAt w 28) (fieldNat w 29 3) ||
    (c.op != 1 && c.op != 3 && c.word 3 != 0) || (c.op == 1 && c.word 1 != 0) || decide (fieldNat (c.word 4) 17 47 ≠ 0) ||
    [5, 6, 7].any (fun i => c.word i != 0) || (List.range 8).any (fun l => decide (c.levels.length ≤ l) && c.word (8 + l) != 0) ||
    (c.op == 3 && c.levels.any (fun e => e.2.2 != 0))

/-- The command is malformed (R284 to R289, R294). -/
def State.malformed (s : State) (c : Cmd) : Bool :=
  c.zeroBad || c.kindsBad || c.alignBad || addrBad c.skind (c.word 1).toNat || addrBad c.dkind (c.word 2).toNat ||
    (c.op == 3 && addrBad c.skind (c.word 3).toNat) ||
    (match c.ring with
     | some n => (FMap.find (s.tile c.who.tile).rings n).isNone
     | none => false)

/-! ### What an engine reaches (R285, R300) -/

/-- What hinders an element: rights or range, an unregistered address, an uncorrectable word, a page that is not in the
translation cache, a refreshing bank, banks of tiles that have yet to serve a unit, a queue out of service, no room, no path to a
package, an earlier access to its bytes that is not performed. -/
inductive Hinder where
  | denied (addr : Nat)
  | gone (addr : Nat)
  | ecc (addr : Nat) (structure_ unit word : Nat)
  | miss (k : Miss) (addr : Nat)
  | refresh (d b : Nat)
  | bank (units : List (Nat × Nat))
  | queue
  | room
  | path (pkg addr : Nat)
  | order
  deriving DecidableEq, Repr

/-- Part i of a run of n bytes, cut at the multiples of 4,096. -/
def pagePart (a n i : Nat) : Nat × Nat :=
  let lo := Nat.max a (a / 4096 * 4096 + 4096 * i)
  (lo, Nat.min (a + n) (a / 4096 * 4096 + 4096 * (i + 1)) - lo)

/-- The physical byte behind a local address for a command; without a crew it reaches the mirror view only (R285). -/
def State.cmdPhys (s : State) (c : Cmd) (x : Nat) : Option Nat :=
  let t := s.tile c.who.tile
  if 0x60000 ≤ x ∧ x < 0x62000 then some (t.winPhys x)
  else
    match c.crew with
    | none => none
    | some k =>
      if x < 0x60000 then (if c.system then some x else none)
      else if 0x80000 ≤ x ∧ x < 0xA0000 then
        (FMap.find t.crews k).bind (fun y => (FMap.find y.window ((x - 0x80000) / 4096)).map (fun p => p * 4096 + x % 4096))
      else none

/-- Where a piece of an access of a kind lies, or what hinders it (R285). -/
def State.pieceAt (s : State) (e : Nat) (c : Cmd) (kind access a n : Nat) : Except Hinder Piece :=
  match kind with
  | 0 =>
    match s.checkEngine { part := c.part, system := c.system, wsRead := c.wsRead } (e / 64) a access with
    | .ok t => .ok { addr := a, spot := s.spotOf t, n := n }
    | .bad x => .error (if x.code == .unregistered then .gone a else .denied a)
    | .miss k => .error (.miss k a)
  | 1 =>
    match s.cmdPhys c a with
    | some pa => .ok { addr := a, spot := .pad c.who.tile pa, n := n }
    | none => .error (.denied a)
  | _ =>
    if addrBad 2 a || decide (0x30000000 < a % 2 ^ 30 + n) || (access == 0 && !c.system && !c.wsRead) then .error (.denied a)
    else .ok { addr := a, spot := .ws (a / 2 ^ 34) (a % 2 ^ 30), n := n }

/-- The pieces of an access of n bytes, or the first thing that hinders it. -/
def State.pieces (s : State) (e : Nat) (c : Cmd) (kind access a n : Nat) : Except Hinder (List Piece) :=
  (List.range (n / 4096 + 2)).foldl (fun r i =>
    match r with
    | .error h => .error h
    | .ok l =>
      let (lo, m) := pagePart a n i
      if m = 0 then .ok l
      else
        match s.pieceAt e c kind access lo m with
        | .ok p => .ok (l ++ [p])
        | .error h => .error h) (.ok [])

/-- A unit of a tile's scratchpad as an element has read it, if its bank has served it (R163, R164). -/
def Run.unitRead (r : Run) (t u : Nat) : Option (List Byte) := (r.served.find? (fun e => e.1 == t && e.2.1 == u)).map (·.2.2)

/-- The bytes at a spot; a peer's are open. -/
def State.spotBytes (s : State) (p : Piece) : List Byte :=
  match p.spot with
  | .hbm pa => (List.range p.n).map (fun i => s.hbmByte (pa + i))
  | .pad t pa => (List.range p.n).map (fun i => (s.tile t).look (pa + i))
  | .ws d off => (List.range p.n).map (fun i => FMap.get 0 (s.die d).ws (off + i))
  | .peer _ _ => (List.range p.n).map (fun i => byteOf (Config.freeWord (s.choices + i / 8)).toNat (i % 8))

/-- The bytes of the pieces of an access. -/
def State.bytesOf (s : State) (l : List Piece) : List Byte := l.flatMap (fun p => s.spotBytes p)

/-- The bytes at a spot as an element reads them: those of scratchpad as they were when the bank served their unit. -/
def State.seenBytes (s : State) (r : Run) (p : Piece) : List Byte :=
  match p.spot with
  | .pad t pa =>
    (List.range p.n).map (fun i =>
      match r.unitRead t ((pa + i) / 64) with
      | some l => l.getD ((pa + i) % 64) 0
      | none => (s.tile t).look (pa + i))
  | _ => s.spotBytes p

/-- The bytes of the pieces of an access as an element reads them. -/
def State.seenOf (s : State) (r : Run) (l : List Piece) : List Byte := l.flatMap (fun p => s.seenBytes r p)

/-- What the frames of peers hold is open afresh at each read. -/
def State.afterPieces (s : State) (l : List Piece) : State :=
  l.foldl (fun (a : State) p =>
    match p.spot with
    | .peer k _ => ({ a with choices := a.choices + p.n / 8 + 1 } : State).sendFlit k
    | _ => a) s

/-- The 8-byte words that n bytes from a lie in; whole: only those that they do not cover. -/
def wordsOf (a n : Nat) (narrow : Bool) : List Nat :=
  ((List.range (n / 8 + 2)).map (a / 8 + ·)).filter (fun x =>
    decide (x ≤ (a + n - 1) / 8) && !(narrow && decide (a ≤ 8 * x) && decide (8 * x + 8 ≤ a + n)))

/-- An uncorrectable word that a read, or a write that does not cover it, meets (R408). -/
def State.spotBad (s : State) (narrow : Bool) (p : Piece) : Option Hinder :=
  match p.spot with
  | .hbm pa => ((wordsOf pa p.n narrow).find? (fun x => FMap.get false s.hbmPoison x)).map (fun x => .ecc p.addr 8 0 x)
  | .pad t pa => ((wordsOf pa p.n narrow).find? (fun x => FMap.get false (s.tile t).poison x)).map (fun x => .ecc p.addr 1 t x)
  | .ws d off => ((wordsOf off p.n narrow).find? (fun x => FMap.get false (s.die d).wsPoison x)).map (fun x => .ecc p.addr 7 d x)
  | _ => none

/-- A refreshing bank that a read of the weight store meets (R300). -/
def State.spotRefresh (s : State) (p : Piece) : Option Hinder :=
  match p.spot with
  | .ws d off =>
    ((List.range (p.n / 128 + 2)).find? (fun i =>
      decide (off / 128 + i ≤ (off + p.n - 1) / 128) && s.refreshing d ((off / 128 + i) % 32))).map
      (fun i => .refresh d ((off / 128 + i) % 32))
  | _ => none

/-- The units of scratchpad that an element reads and whose banks have yet to serve them (R163). -/
def Run.unitsDue (r : Run) (l : List Piece) : List (Nat × Nat) :=
  (l.flatMap (fun p =>
    match p.spot with
    | .pad t pa => ((unitsAt pa p.n).filter (fun u => (r.unitRead t u).isNone)).map (fun u => (t, u))
    | _ => [])).dedup

/-- Write bytes at a spot; whole words lose their poison (R408). -/
def State.writeSpot (s : State) (p : Piece) (l : List Byte) : State :=
  match p.spot with
  | .hbm pa => s.hbmWrite pa (ofLe (l.take p.n)) p.n
  | .pad t pa =>
    s.modTile t (fun y =>
      let y := (List.range p.n).foldl (fun (a : Tile) i => a.setByte (pa + i) (l.getD i 0)) y
      ((wordsOf pa p.n false).filter (fun x => decide (pa ≤ 8 * x) && decide (8 * x + 8 ≤ pa + p.n))).foldl
        (fun (a : Tile) x => a.cleanse (8 * x)) y)
  | .ws d off =>
    s.modDie d (fun y =>
      { y with ws := (List.range p.n).foldl (fun m i => FMap.put 0 m (off + i) (l.getD i 0)) y.ws
               wsPoison := ((wordsOf off p.n false).filter (fun x => decide (off ≤ 8 * x) && decide (8 * x + 8 ≤ off + p.n))).foldl
                 (fun m x => FMap.put false m x false) y.wsPoison })
  | .peer k _ => s.sendFlit k

/-- Watchpoints see what an engine reads or writes in scratchpad (R396). -/
def State.strikePieces (s : State) (e : Nat) (c : Cmd) (write : Bool) (l : List Piece) : State :=
  l.foldl (fun (a : State) p =>
    match p.spot with
    | .pad t pa => a.burstStrike t e c.who.strand pa p.n write (BitVec.ofNat 64 c.tag)
    | _ => a) s

/-! ### Elements (R286 to R289) -/

/-- The time of an engine. -/
def State.engineNow (s : State) (e : Nat) : Nat := (s.die (e / 64)).clock

/-- The strand that stands for an engine as a producer of items (R218). -/
def engineWho (e : Nat) : Who := ⟨512 * (e / 64), 16 + e % 64⟩

/-- The bytes of an element, or of the item of an element that GATHERQ pushes next: where they start and how many. -/
def Run.chunk (r : Run) : Nat × Nat :=
  if r.cmd.op = 2 then (64 * r.item, Nat.min 64 (r.cmd.size - 64 * r.item)) else (0, r.cmd.size)

/-- What an element accesses: its source, its index, its destination. -/
structure Access where
  src : List Piece
  index : List Piece
  dst : List Piece
  /-- The destination's offset (R286). -/
  off : Int
  deriving DecidableEq, Repr

/-- No link leads to the package of a piece (R414). -/
def State.pathless (s : State) (p : Piece) : Option Hinder :=
  match p.spot with
  | .peer k _ => if s.hasPath k then none else some (.path k p.addr)
  | _ => none

/-- Something earlier stands between an engine and the bytes of a piece: a write of the same command, or a store that the issuer's tile
sent before the push and that is not performed (R288, R319); a store that the engine's die or the issuer's has been shown (R308). -/
def State.unsettled (s : State) (e : Nat) (c : Cmd) (p : Piece) : Bool :=
  s.flights.any (fun f =>
    (match f.kind with
     | .ewrite e' c' q _ => e' == e && c'.num == c.num && spotsMeet q.spot q.n p.spot p.n
     | .access op t n _ _ => op.writes && f.owner.tile == c.who.tile && decide (f.id < c.num) && spotsMeet (s.spotOf t) n p.spot p.n
     | .redeem _ _ (some (t, pa)) _ (some l) _ =>
       f.owner.tile == c.who.tile && decide (f.id < c.num) && spotsMeet (.pad t pa) l.length p.spot p.n
     | _ => false) ||
    (match s.shownBytes f with
     | some q => (dieOf f.owner.tile == e / 64 || dieOf f.owner.tile == dieOf c.who.tile) && decide (f.id < c.num) && spotsMeet q.1 q.2 p.spot p.n
     | none => false))

/-- A read by an engine rides behind what its circuit already carries (R320). -/
def State.behindCircuit (s : State) (e : Nat) (p : Piece) : Bool :=
  match engineCircuit e p.spot.key with
  | none => false
  | some k => s.flights.any (fun f => s.circuit f == some k && !s.atTarget f && !s.heldBack f)

/-- What hinders the reads of pieces (R163, R288, R300, R320, R408, R414). -/
def State.readsHinder (s : State) (e : Nat) (r : Run) (l : List Piece) : Option Hinder :=
  match l.findSome? (fun p => s.spotBad false p) with
  | some h => some h
  | none =>
    match (l.findSome? (fun p => s.spotRefresh p)).orElse (fun _ => l.findSome? s.pathless) with
    | some h => some h
    | none =>
      if l.any (fun p => s.unsettled e r.cmd p || s.behindCircuit e p) then some .order
      else
        match r.unitsDue l with
        | [] => none
        | u => some (.bank u)

/-- The accesses of the next element, or the first thing that hinders them; the index of a SCATTER has to be read before its destination
is known (R285, R286). -/
def State.accessOf (s : State) (e : Nat) (r : Run) : Except Hinder Access :=
  let c := r.cmd
  let (at_, n) := r.chunk
  match (if c.op = 1 then .ok [] else s.pieces e c c.skind 0 (c.src r.next + at_) n) with
  | .error h => .error h
  | .ok src =>
    let indexed : Except Hinder (List Piece) := match (if c.op = 3 then s.pieces e c c.skind 0 ((c.word 3).toNat + 4 * r.next) 4 else .ok []) with
      | .error h => .error h
      | .ok index => match s.readsHinder e r index with | some h => .error h | none => .ok index
    match indexed with
    | .error h => .error h
    | .ok index =>
      let off : Int := if c.op = 3 then (ofLe (s.seenOf r index) : Nat) else c.dstOff r.next
      if 3 ≤ c.dkind then .ok { src := src, index := index, dst := [], off := off }
      else
        match s.pieces e c c.dkind (if 4 ≤ c.op then 2 else 1) (c.dst off) n with
        | .error h => .error h
        | .ok dst => .ok { src := src, index := index, dst := dst, off := off }

/-- The queue of a GATHERQ is FAULTED or an endpoint of it is BROKEN (R290). -/
def State.queueOut (s : State) (c : Cmd) : Bool :=
  let q := s.queue (fieldNat (c.word 2) 0 16)
  q.state != 1 || q.broken != 0

/-- What hinders an element whose accesses are allowed (R163, R217, R287, R300, R408). -/
def State.hindered (s : State) (e : Nat) (r : Run) (a : Access) : Option Hinder :=
  match (if 4 ≤ r.cmd.op then a.dst.findSome? (fun p => s.spotBad false p) else none).orElse (fun _ =>
      a.dst.findSome? (fun p => (s.spotBad true p).orElse (fun _ => s.pathless p))) with
  | some h => some h
  | none =>
    if r.cmd.dkind = 4 ∧ s.queueOut r.cmd then some .queue
    else if r.cmd.dkind = 4 ∧ !s.admits (engineWho e) (fieldNat (r.cmd.word 2) 0 16) 1 then some .room
    else if a.dst.any (fun p => s.unsettled e r.cmd p) then some .order
    else s.readsHinder e r (a.src ++ a.index)

/-- An element cannot go on: the command ends, or it waits (R289 to R291). -/
def State.hinder (s : State) (e : Nat) (r : Run) (h : Hinder) : State :=
  let phase := fun (p : EPhase) => s.modRun e (fun x => { x with phase := p })
  match h with
  | .denied a => phase (.ended 2 a)
  | .gone a => (s.endRun e).engineFatal e r.cmd.who a .unregistered
  | .ecc a st u x =>
    (phase (.ended 3 a)).noteError (if st = 8 then e / 64 else if st = 7 then u else dieOf u) st u x r.cmd.who.tile r.cmd.who.strand (BitVec.ofNat 64 a)
      (s.tile r.cmd.who.tile).place
  | .miss k a => (phase (.page k.page a)).joinMerge r.cmd.who k (some e)
  | .refresh d b => phase (.refresh d b)
  | .bank l =>
    l.foldl (fun (a : State) x =>
      a.modTile x.1 (fun y => { y with bankQ := y.bankQ ++ [{ flight := 0, unit := x.2, engine := some e }] })) (phase .bank)
  | .queue => phase (.ended 5 (r.cmd.word 2).toNat)
  | .room => phase .room
  | .path p a => phase (.peer p a (s.engineNow e))
  | .order => s

/-- The BF16 sum of two patterns, rounded once (R110, R123, R286). -/
def bfAdd (x y : Nat) : Nat :=
  match bf16.decode x, bf16.decode y with
  | .nan n f, _ => bf16.ofNan false n f
  | _, .nan n f => bf16.ofNan false n f
  | .inf a, .inf b => if a = b then bf16.pack a bf16.infMag else bf16.canonical
  | .inf a, _ => bf16.pack a bf16.infMag
  | _, .inf b => bf16.pack b bf16.infMag
  | .fin n1 m1 e1, .fin n2 m2 e2 =>
    let e := min e1 e2
    let s := signed n1 m1 * 2 ^ (e1 - e).toNat + signed n2 m2 * 2 ^ (e2 - e).toNat
    if s = 0 then bf16.pack (decide (m1 = 0 ∧ m2 = 0 ∧ n1 = n2) && n1) 0
    else bf16.round 0 0 (decide (s < 0)) s.natAbs e

/-- FP32 and BF16 sums of a reduce-add; the destination is the first operand (R286). -/
def raddBytes (op : Nat) (old new : List Byte) : List Byte :=
  if op = 4 then
    (List.range (old.length / 4)).flatMap (fun i =>
      let at_ := fun (l : List Byte) => BitVec.ofNat 32 (ofLe ((l.drop (4 * i)).take 4))
      leBytes (fadd false 0 0 (at_ old) (at_ new)).toNat 4)
  else
    (List.range (old.length / 2)).flatMap (fun i =>
      let at_ := fun (l : List Byte) => ofLe ((l.drop (2 * i)).take 2)
      leBytes (bfAdd (at_ old) (at_ new)) 2)

/-- The bytes of an element that were read before its turn (R319). -/
def Run.readAhead (r : Run) (n : Nat) : Option (List Byte) := (r.ahead.find? (fun e => e.1 == n)).map (·.2)

/-- The data that an element writes; of a reduce-add the words that it adds (R286). -/
def State.elementData (s : State) (r : Run) (a : Access) : List Byte :=
  if r.cmd.op = 1 then (List.range r.cmd.size).map (fun j => byteOf (r.cmd.word 3).toNat (j % 8))
  else (r.readAhead r.next).getD (s.seenOf r a.src)

/-- The time that an engine takes to move n bytes: 64 bytes per fabric cycle (R282). -/
def moveTime (n : Nat) : Nat := 2 * ((n + 63) / 64)

/-- An engine is busy with n bytes (R282). -/
def State.occupy (s : State) (e n : Nat) : State := s.modEngine e (fun x => { x with free := s.engineNow e + moveTime n })

/-- The command goes on to its next element; an engine moves 64 bytes per fabric cycle (R282). -/
def Run.advance (r : Run) (now n : Nat) : Run :=
  let r := { r with next := r.next + 1, item := 0, served := [], busy := now + moveTime n, ahead := r.ahead.filter (fun e => decide (r.next < e.1)) }
  { r with phase := if r.cmd.total ≤ r.next then .ended 0 0 else .run }

/-- The item that GATHERQ pushes next (R287). -/
def gatherItem (r : Run) (data : List Byte) : Item :=
  let last := decide (r.cmd.size ≤ 64 * (r.item + 1))
  let words := (List.range (data.length / 8)).map (fun i => BitVec.ofNat 64 (ofLe ((data.drop (8 * i)).take 8)))
  { header := itemHeader words.length (if last then r.cmd.eod r.next else 0) false (BitVec.ofNat 8 r.cmd.tag), words := words }

/-- GATHERQ pushes an item (R218, R287, R229). -/
def State.gather (s : State) (e : Nat) (r : Run) (data : List Byte) : State :=
  let c := r.cmd
  let v : Via :=
    { tile := c.who.tile, strand := c.who.strand, crew := c.crew, queue := if bitAt (c.word 4) 16 then some (fieldNat (c.word 4) 0 16) else none }
  let s := { s with via := FMap.set s.via s.nextId v }
  let s := ((s.post (engineWho e) (fieldNat (c.word 2) 0 16) [gatherItem r data]).engineWrote e data.length).occupy e 64
  s.modRun e (fun x =>
    if c.size ≤ 64 * (x.item + 1) then x.advance (s.engineNow e) 64
    else { x with item := x.item + 1, served := [], busy := s.engineNow e + 2 })

/-- A write into an operand slot: it passes the matrix path; an offset outside the area ends the command (R286, R289). -/
def State.slotWrite (s : State) (e : Nat) (r : Run) (off : Int) (data : List Byte) : State :=
  let c := r.cmd
  let side := bitAt (c.word 2) 4
  let o := (fieldNat (c.word 2) 5 14 : Int) + off
  if o < 0 ∨ (if side then 2048 else 16384) < o + (data.length : Int) then
    s.modRun e (fun x => { x with phase := .ended 2 (c.word 2).toNat })
  else
    match r.slot with
    | none => s
    | some p =>
      (s.enqueue c.who.tile
        { id := 0, who := c.who, crew := c.crew.getD 15, issued := s.now c.who.tile, total := data.length
          kind := .write e p o.toNat side data }).modRun e (fun x => { x with phase := .path })

/-- The address of a spot. -/
def Spot.addr : Spot → Nat
  | .hbm pa => pa
  | .pad _ pa => pa
  | .ws _ off => off
  | .peer _ pa => pa

/-- A spot some bytes further on. -/
def Spot.plus (x : Spot) (i : Nat) : Spot :=
  match x with
  | .hbm pa => .hbm (pa + i)
  | .pad t pa => .pad t (pa + i)
  | .ws d off => .ws d (off + i)
  | .peer k pa => .peer k (pa + i)

/-- n bytes of a piece from byte i on. -/
def Piece.part (p : Piece) (i n : Nat) : Piece := { addr := p.addr + i, spot := p.spot.plus i, n := n }

/-- A piece cut at the multiples of 128, where bursts end and destinations change (R364, R396). -/
def Piece.bursts (p : Piece) : List Piece :=
  ((List.range (p.n / 128 + 2)).map (fun i => burst p.spot.addr p.n i)).filterMap (fun e =>
    if e.2 = 0 then none else some (p.part (e.1 - p.spot.addr) e.2))

/-- A command's write rides a circuit, which the issuer's next wait for its commands at DEVICE scope sweeps, and with rel at DEVICE
scope the command's own end (R320, R321). -/
def State.noteWrite (s : State) (e : Nat) (c : Cmd) (p : Piece) : State :=
  match engineCircuit e p.spot.key with
  | none => s
  | some k =>
    (s.modStrand c.who (fun x => { x with engCircuits := if x.engCircuits.contains k then x.engCircuits else x.engCircuits ++ [k] })).modRun e
      (fun r => { r with circuits := if r.circuits.contains k then r.circuits else r.circuits ++ [k] })

/-- Writes of a command set out: no order holds among those to different bytes (R288). -/
def State.postBursts (s : State) (e : Nat) (c : Cmd) : List Piece → List Byte → State
  | [], _ => s
  | p :: r, l => ((s.noteWrite e c p).send c.who 1 none (.ewrite e c p (l.take p.n))).postBursts e c r (l.drop p.n)

/-- The writes of an element set out, burst by burst (R286, R396). -/
def State.postWrites (s : State) (e : Nat) (c : Cmd) (l : List Piece) (data : List Byte) : State :=
  s.postBursts e c (l.flatMap Piece.bursts) data

/-- The next element is performed, or something hinders it; its writes are sent on (R286, R288). -/
def State.element (s : State) (e : Nat) (r : Run) : State :=
  match s.accessOf e r with
  | .error h => s.hinder e r h
  | .ok a =>
    match s.hindered e r a with
    | some h => s.hinder e r h
    | none =>
      let c := r.cmd
      let data := s.elementData r a
      let s := (s.strikePieces e c false (a.src ++ a.index)).afterPieces (a.src ++ a.index)
      match c.dkind with
      | 3 => s.slotWrite e r a.off data
      | 4 => s.gather e r data
      | _ =>
        let s := ((s.postWrites e c a.dst data).engineMoved e data.length).occupy e data.length
        s.modRun e (fun x => x.advance (s.engineNow e) data.length)

/-- The destinations of the elements of a command from one to another (R286). -/
def State.writtenBy (s : State) (e : Nat) (c : Cmd) (lo hi : Nat) : List (Except Hinder (List Piece)) :=
  (List.range (hi - lo)).map (fun i => s.pieces e c c.dkind (if 4 ≤ c.op then 2 else 1) (c.dst (c.dstOff (lo + i))) c.size)

/-- The source of a later element of a COPY or a reduce-add is read before its turn, for nothing orders reads of different bytes; an
earlier element that writes one of the bytes does (R288, R319). DEDUCED: sources in scratchpad, which their banks serve, and those in
other packages are read in turn (assumption 32). -/
def State.readAhead (s : State) (e n : Nat) : State :=
  match (s.engine e).run with
  | none => s
  | some r =>
    let c := r.cmd
    if r.phase ≠ .run ∨ 2 < c.dkind ∨ !(c.op == 0 || 4 ≤ c.op) ∨ n ≤ r.next ∨ c.total ≤ n ∨ (r.readAhead n).isSome then s
    else
      match s.pieces e c c.skind 0 (c.src n) c.size with
      | .error _ => s
      | .ok l =>
        let near := l.all (fun p => match p.spot with | .hbm _ => true | .ws _ _ => true | _ => false)
        let before := (s.writtenBy e c r.next n).any (fun x =>
          match x with
          | .error _ => true
          | .ok q => q.any (fun y => l.any (fun p => spotsMeet y.spot y.n p.spot p.n)))
        if !near || before || (s.readsHinder e r l).isSome then s
        else s.modRun e (fun x => { x with ahead := x.ahead ++ [(n, s.bytesOf l)] })

/-- Where a write of a command lands: a local address and a mirror view are translated when the write is performed. DEDUCED: once its
crew has retired, or its page is no longer in the window, it lands where its element found it (R177, R285, assumption 32). -/
def State.landingSpot (s : State) (c : Cmd) (p : Piece) : Spot :=
  match p.spot with
  | .pad t pa =>
    if c.dkind = 1 then (if c.aborted then .pad t pa else .pad t ((s.cmdPhys c p.addr).getD pa))
    else if 2 ^ 56 ≤ p.addr then .pad t ((s.tile t).winPhys (p.addr % 2 ^ 20))
    else .pad t pa
  | x => x

/-- A write of a command with rel at DEVICE scope or above counts down once the command's writes are performed at that scope, others
as they are performed (R288, R296, R321). -/
def State.countDown (s : State) (e : Nat) (c : Cmd) (n : Nat) : State :=
  if bitAt (c.word 0) 28 ∧ 4 ≤ fieldNat (c.word 0) 29 3 then s.modRun e (fun r => { r with owed := r.owed + n }) else s.countWrite c n

/-- A write of a command, or its part from byte i on of n bytes, is performed; a reduce-add reads, adds and writes at once (R286, R288,
R303). -/
def State.landPart (s : State) (e : Nat) (c : Cmd) (p : Piece) (data : List Byte) (i n : Nat) : State :=
  let q := p.part i n
  let new := (data.drop i).take n
  let sum := if 4 ≤ c.op then raddBytes c.op (s.spotBytes q) new else new
  let s := if 4 ≤ c.op then s.afterPieces [q] else s
  (s.writeSpot q sum).countDown e c n

/-- The strikes of a burst that is written; the read of a reduce-add strikes too where its watchpoint sees loads (R395, R396). -/
def State.landStrikes (s : State) (e : Nat) (c : Cmd) (q : Piece) : State :=
  (if 4 ≤ c.op then s.strikePieces e c false [q] else s).strikePieces e c true [q]

/-- A write of a command comes to its destination: at once, or at the banks of a tile unit by unit (R163, R286, R288). -/
def State.landWrite (s : State) (f : Flight) : State :=
  match f.kind with
  | .ewrite e c p data =>
    match s.landingSpot c p with
    | .pad t pa => s.viaBank f t (unitsAt pa p.n)
    | _ => (s.dropFlight f.id).landPart e c p data 0 p.n
  | _ => s

/-- A bank serves a write of a command for one unit; a strike is recorded once the burst is written (R163, R396). -/
def State.writeUnit (s : State) (f : Flight) (t unit : Nat) : State :=
  match f.kind with
  | .ewrite e c p data =>
    match s.landingSpot c p with
    | .pad u pa =>
      let q : Piece := { p with spot := .pad u pa }
      let (i, n) := partIn pa p.n unit
      let s := s.landPart e c q data i n
      if s.servedAll t f.id then (s.dropFlight f.id).landStrikes e c q else s
    | _ => s
  | _ => s

/-- A bank serves a unit that an element reads; with the last of them the element is performed (R163, R164). -/
def State.readUnit (s : State) (e t unit : Nat) : State :=
  match (s.engine e).run with
  | none => s
  | some r =>
    if r.phase ≠ .bank then s
    else
      let l := (List.range 64).map (fun i => (s.tile t).look (64 * unit + i))
      let s := s.modRun e (fun x => { x with served := x.served ++ [(t, unit, l)] })
      if s.tiles.any (fun y => y.2.bankQ.any (fun q => q.engine == some e)) then s
      else
        let s := s.modRun e (fun x => { x with phase := .run })
        match (s.engine e).run with
        | some r => s.element e r
        | none => s

/-- ENGINE_ELEMENT (R286). -/
def execEngineElement (e : Nat) (s : State) : Host.Outcome State Fault Refusal :=
  match (s.engine e).run with
  | none => .next s
  | some r =>
    if r.phase = .run ∧ r.busy ≤ s.engineNow e ∧ (s.engine e).free ≤ s.engineNow e then .next ((s.element e r).modEngine e (fun x => { x with strip := false }))
    else .next s

/-! ### The course of a command (R282, R289 to R294, R299) -/

/-- A die is in LOAD state (R299). -/
def State.loadState (s : State) (d : Nat) : Bool := !s.tiles.any (fun e => dieOf e.1 == d && e.2.place.isSome && e.2.wsRead)

/-- A command makes its slot FILLING, or it finds another format, or brings one that an active rule does not allow in the slot's
role (R257, R289). -/
def State.openSlot (s : State) (e : Nat) (r : Run) (p : Nat) : State :=
  let c := r.cmd
  let x := (s.tile c.who.tile).oslot p
  let side := bitAt (c.word 2) 4
  let f := fieldNat (c.word 2) 19 4
  if !side && (x.format.any (· != f) || ((s.tile c.who.tile).disallowed none p f).isSome) then s.modRun e (fun y => { y with phase := .ended 4 (c.word 2).toNat })
  else
    (s.modTile c.who.tile (fun t => t.modOs p (fun o =>
      { o with state := .filling, format := if side then o.format else some f }))).modRun e
      (fun y => { y with slot := some p, phase := .run })

/-- The physical slot that a command's crew holds under the name of its destination (R285). -/
def State.cmdSlot (s : State) (c : Cmd) : Option Nat :=
  c.crew.bind (fun k => (FMap.find (s.tile c.who.tile).crews k).bind (fun y => FMap.find y.os (fieldNat (c.word 2) 0 4)))

/-- A command with an operand slot as its destination starts (R289). -/
def State.startSlot (s : State) (e : Nat) (r : Run) : State :=
  let c := r.cmd
  let first := bitAt (c.word 2) 23
  match s.cmdSlot c with
  | none => s.modRun e (fun y => { y with phase := .ended 2 (c.word 2).toNat })
  | some p =>
    let x := (s.tile c.who.tile).oslot p
    if x.state == .full && (x.sticky || !first) then s.modRun e (fun y => { y with phase := .ended 4 (c.word 2).toNat })
    else if first && x.state != .empty then s.modRun e (fun y => { y with phase := .slot p })
    else s.openSlot e r p

/-- An engine starts a command: it checks the image, the slot, the queue, the state of the weight store (R282, R290,
R299). -/
def State.startCommand (s : State) (e : Nat) (r : Run) : State :=
  let c := r.cmd
  let phase := fun (p : EPhase) => s.modRun e (fun x => { x with phase := p })
  if c.aborted then phase (.ended 7 0)
  else if s.malformed c then phase (.ended 1 0)
  else
    match c.dkind with
    | 2 => if s.loadState (fieldNat (c.word 2) 34 2) then s else phase (.ended 6 (c.word 2).toNat)
    | 3 => s.startSlot e r
    | 4 =>
      let q := s.queue (fieldNat (c.word 2) 0 16)
      if q.state = 0 ∨ q.type ≠ 0 ∨ q.part ≠ c.part then phase (.ended 2 (c.word 2).toNat) else s
    | _ => s

/-- ENGINE_COMMAND_POP: after the previous command has ended (R282). -/
def execEngineCommandPop (e : Nat) (s : State) : Host.Outcome State Fault Refusal :=
  match (s.engine e).run, (s.engine e).buf with
  | none, c :: r =>
    let x : Run := { cmd := c, busy := s.engineNow e }
    .next ((s.modEngine e (fun y => { y with buf := r, run := some x })).startCommand e x)
  | _, _ => .next s

/-- An engine is parked on a merge entry for a page (R365). -/
def State.engineParked (s : State) (e part page : Nat) : Bool :=
  (s.die (e / 64)).merge.any (fun m => m.isFor part page && m.engines.contains e)

/-- ENGINE_WAIT_END: what the engine waited for has come; a package without a path for 10 µs, which are 40,000 cycles, counts as
unregistered (R289, R291, R300, R414). -/
def execEngineWaitEnd (e : Nat) (s : State) : Host.Outcome State Fault Refusal :=
  match (s.engine e).run with
  | none => .next s
  | some r =>
    let go := s.modRun e (fun x => { x with phase := .run })
    match r.phase with
    | .slot p =>
      if s.cmdSlot r.cmd != some p then .next (s.modRun e (fun x => { x with phase := .ended 2 (r.cmd.word 2).toNat }))
      else if ((s.tile r.cmd.who.tile).oslot p).state == .empty then .next (s.openSlot e r p)
      else .next s
    | .page p _ => if s.engineParked e r.cmd.part p then .next s else .next go
    | .room =>
      if s.queueOut r.cmd || s.admits (engineWho e) (fieldNat (r.cmd.word 2) 0 16) 1 then .next go else .next s
    | .refresh d b => if s.refreshing d b then .next s else .next go
    | .peer p a since =>
      if s.hasPath p then .next go
      else if since + 40000 ≤ s.engineNow e then
        .next ((s.endRun e).engineFatal e r.cmd.who a .unregistered)
      else .next s
    | .path =>
      if (s.tile r.cmd.who.tile).path.any (fun q => match q.kind with | .write x _ _ _ _ => x == e | _ => false) then .next s
      else .next (s.modRun e (fun x => x.advance (s.engineNow e) x.cmd.size))
    | .bank => if s.tiles.any (fun y => y.2.bankQ.any (fun q => q.engine == some e)) then .next s else .next go
    | _ => .next s

/-- A COPY_FAULT or WS_WRITE_DENIED report (R292). -/
def State.commandReport (s : State) (e : Nat) (r : Run) (status addr : Nat) : State :=
  let c := r.cmd
  let q := if bitAt (c.word 4) 16 then some (fieldNat (c.word 4) 0 16) else c.crew.bind (s.reportQueue c.who.tile)
  s.reportTo c.who.tile q (if status = 6 then 4 else 1)
    [BitVec.ofNat 64 (e + status * 2 ^ 8 + c.tag * 2 ^ 16 + c.who.tile % 2048 * 2 ^ 32 + c.who.strand % 8 * 2 ^ 43),
     BitVec.ofNat 64 addr, BitVec.ofNat 64 r.bytes]

/-- The slot of a command that ends: it is settled as a fill's is, or emptied after a failure (R258, R289). -/
def State.closeSlot (s : State) (e : Nat) (r : Run) (status : Nat) : State :=
  match r.slot with
  | none => s
  | some p =>
    let t := r.cmd.who.tile
    let s := s.modRun e (fun x => { x with slot := none })
    let s := if status ≠ 0 then
        s.modTile t (fun y => y.modOs p (fun o => { o with spoiled := o.spoiled || o.state == .filling }))
      else s
    s.settleSlot t p (status == 0 && bitAt (r.cmd.word 2) 24)

/-- A write of a command is not performed. -/
def State.owesLanding (s : State) (e : Nat) (c : Cmd) : Bool :=
  s.flights.any (fun f => match f.kind with | .ewrite e' c' _ _ => e' == e && c'.num == c.num | _ => false)

/-- A sweep that an engine has sent has not returned (R321). -/
def State.sweeping (s : State) (e : Nat) : Bool :=
  s.flights.any (fun f => f.owner == engineWho e && (match f.kind with | .sweep _ => true | _ => false))

/-- A command with rel whose writes are not all performed at its scope. DEDUCED: below DEVICE scope each has to be performed at its
target, for an engine has no ordered path that its readers share; at DEVICE scope its circuits are swept besides, and at SYSTEM scope the
peers have acknowledged (R288, R321, assumption 102). -/
def State.owesWrites (s : State) (e : Nat) (c : Cmd) : Bool :=
  let scope := fieldNat (c.word 0) 29 3
  bitAt (c.word 0) 28 &&
    (s.owesLanding e c ||
      (decide (4 ≤ scope) && ((s.engine e).run.any (fun r => !r.circuits.isEmpty) || s.sweeping e)) || (decide (scope = 5) && s.limisOwes))

/-- The sweeps of a command's release set out once its writes are performed at their targets (R288, R321). -/
def State.sweepEngine (s : State) (e : Nat) (c : Cmd) : State :=
  if s.owesLanding e c ∨ fieldNat (c.word 0) 29 3 < 4 then s
  else
    (((s.engine e).run.map Run.circuits).getD []).foldl (fun (a : State) k => a.send (engineWho e) 1 none (.sweep k))
      (s.modRun e (fun r => { r with circuits := [] }))

/-- COMMAND_END: the report, and then the ring write if there is one; with rel, once every write of the command is performed (R288,
R290, R292, R294). -/
def execCommandEnd (e : Nat) (s : State) : Host.Outcome State Fault Refusal :=
  match (s.engine e).run with
  | none => .next s
  | some r =>
    match r.phase with
    | .ended status addr =>
      if s.owesWrites e r.cmd then .next (s.sweepEngine e r.cmd)
      else
      let s := if r.owed = 0 then s.closeSlot e r status else (s.countWrite r.cmd r.owed).closeSlot e r status
      let s := if status = 0 ∨ status = 7 then s else s.commandReport e r status addr
      match r.cmd.ring with
      | some n =>
        if (FMap.find (s.tile r.cmd.who.tile).rings n).isSome then .next (s.modRun e (fun x => { x with phase := .ring status }))
        else .next (s.endRun e)
      | none => .next (s.endRun e)
    | _ => .next s

/-- The value of a ring slot (R294). -/
def ringValue (r : Run) (status : Nat) : Word := BitVec.ofNat 64 (r.cmd.tag + status * 2 ^ 16 + r.bytes * 2 ^ 24)

/-- RING_WRITE: the slot at the write index is filled; a write that finds the ring full waits, an ABORTED one is discarded
and counted (R294). -/
def execRingWrite (e : Nat) (s : State) : Host.Outcome State Fault Refusal :=
  match (s.engine e).run with
  | none => .next s
  | some r =>
    match r.phase with
    | .ring status =>
      let t := r.cmd.who.tile
      let n := r.cmd.ring.getD 0
      let done := s.endRun e
      match FMap.find (s.tile t).rings n with
      | none => .next done
      | some g =>
        if (FMap.find g.slots g.wr).isSome then
          if status = 7 then
            .next (match (s.tile t).place with | none => done | some a => done.modRcb a 12 (fun x => bumpField x 0 32 1))
          else .next s
        else
          let g' := { g with slots := FMap.set g.slots g.wr (ringValue r status), wr := (g.wr + 1) % g.size }
          .next (done.modTile t (fun y => { y with rings := FMap.set y.rings n g' }))
    | _ => .next s

/-! ### CPY (R283) -/

/-- The local address of the image. -/
def State.imageAddr (s : State) (w : Who) (t : LTail) : Nat := (s.scalar w t.srcA.loc).toNat % 2 ^ 20

/-- The pointer that CPY post-increments: sub [0]. -/
def cpyBump (t : LTail) : List Loc :=
  match t.srcA.loc with
  | .p n => if t.bit 0 then [.m n true] else []
  | _ => []

/-- The words of the pattern or image at a local address. -/
def State.localWords (s : State) (w : Who) (x n : Nat) : List Word :=
  (List.range n).map (fun i => BitVec.ofNat 64 (s.readLocal w (x + 8 * i) 8))

/-- Alignment and rights of n words of 8 bytes that are read (R158, R161, R283). -/
def State.wordsRead (s : State) (w : Who) (x n : Nat) : Option Cause :=
  if x % 8 ≠ 0 then some { code := .misaligned, info := addrInfo x 0 }
  else (s.wordsDenied w x n).map (fun y => denied y 0)

/-- UNCORRECTABLE of one of n words that are read (R408). -/
def State.wordsBad (s : State) (w : Who) (x n : Nat) : Option Cause :=
  ((List.range n).find? (fun i => (s.tile w.tile).poisoned (s.phys w (x + 8 * i)) 8)).map (fun i =>
    eccCause 1 ((x + 8 * i) % 2 ^ 20) w.tile (s.phys w (x + 8 * i) / 8))

/-- A command as a strand issues it. -/
def State.commandOf (s : State) (w : Who) (image : List Word) : Cmd :=
  { who := w, crew := if (s.strand w).crewId = 0xF then none else some (s.strand w).crewId.toNat
    system := (s.strand w).system, part := (s.tile w.tile).part, place := (s.tile w.tile).place
    wsRead := (s.tile w.tile).wsRead, image := image }

/-- The two items of a CPY (R283). -/
def cpyItems (image : List Word) : List Item :=
  [{ header := itemHeader 8 0 false 0, words := image.take 8 }, { header := itemHeader 8 0 false 0, words := image.drop 8 }]

/-- CPY (R283). -/
def hCpy (t : LTail) : Half :=
  let q := t.d.toNat
  { mask := t.k.toNat, srcs := [t.srcA], dests := cpyBump t ++ [.q q], memory := true
    privileged := fun s w => s.pushPrivileged w q
    traps := fun s w => firstCause [s.wordsRead w (s.imageAddr w t) 16, s.pushFault w q true, s.wordsBad w (s.imageAddr w t) 16]
    waits := fun _ cur w => cur.dstWait w (.q q) 2
    units := fun s w => (List.range 16).map (fun i => s.phys w (s.imageAddr w t + 8 * i) / 64)
    accs := fun s w => (List.range 16).map (fun i => { pa := s.phys w (s.imageAddr w t + 8 * i), n := 8, load := true, more := decide (0 < i) })
    effect := fun pre cur w =>
      match pre.qport w q with
      | none => cur
      | some (b, p) =>
        let image := pre.localWords w (pre.imageAddr w t) 16
        let s := (cur.countPush w b.port p.queue (cpyItems image)).sweepFor w (pre.queue p.queue).scope
        (s.send w 1 none (.command p.queue { pre.commandOf w image with num := s.nextId })).bumps w (cpyBump t) }

/-! ### Rings (R294, R295) -/

/-- ACCESS_DENIED for an absent ring (R107, R295). -/
def State.ringName (s : State) (w : Who) (n : Nat) : Option Cause :=
  if (FMap.find (s.tile w.tile).rings n).isSome then none else some (nameDenied 0 n)

/-- A ring. -/
def State.ring (s : State) (w : Who) (n : Nat) : Ring := FMap.get {} (s.tile w.tile).rings n

/-- The wait for the slot at the read index: kind 4 (R295). -/
def State.ringWait (s : State) (w : Who) (n : Nat) : Option Wait :=
  let g := s.ring w n
  if (FMap.find g.slots g.rd).isSome then none else some { kind := 4, index := n }

/-- RAWAIT (R295). -/
def hRawait (t : LTail) : Half :=
  let n := fieldNat t.sub 0 4
  { shortHalf t.k [] t.dst (fun s w _ => FMap.get 0 (s.ring w n).slots (s.ring w n).rd) with
    names := fun s w => s.ringName w n
    waits := fun pre _ w => pre.ringWait w n }

/-- RREL (R295). -/
def hRrel (t : LTail) : Half :=
  let n := fieldNat t.sub 0 4
  { names := fun s w => s.ringName w n
    mask := t.k.toNat
    waits := fun pre _ w => pre.ringWait w n
    effect := fun pre cur w =>
      let g := pre.ring w n
      let g' := { g with slots := FMap.erase g.slots g.rd, rd := (g.rd + 1) % g.size }
      cur.modTile w.tile (fun y => { y with rings := FMap.set y.rings n g' }) }

/-- RSTAT (R295). -/
def hRstat (t : LTail) : Half :=
  shortHalf t.k [] t.dst (fun s w _ =>
    let g := s.ring w (fieldNat t.sub 0 4)
    BitVec.ofNat 64 (g.rd % 256 + g.wr % 256 * 2 ^ 8 + g.slots.length * 2 ^ 16 + g.size * 2 ^ 25))

/-! ### Barriers (R296) -/

/-- The barrier that an instruction names. -/
def barOf : LWTail → Nat
  | .l t => fieldNat t.sub 0 4
  | .w t => fieldNat t.d 0 4

/-- The operand of BARINIT and BAREXP: a register, or the immediate. -/
def barHalf (t : LWTail) (f : Word → Barrier → Barrier) : Half :=
  match t with
  | .l u =>
    { mask := u.k.toNat, srcs := [u.srcA]
      effect := fun pre cur w => cur.modBar w.tile (barOf t) (f (pre.scalar w u.srcA.loc)) }
  | .w u => { mask := u.k.toNat, effect := fun _ cur w => cur.modBar w.tile (barOf t) (f (u.imm.setWidth 64)) }

/-- BARINIT (R296). -/
def hBarinit (t : LWTail) : Half :=
  barHalf t (fun x b => { phase := b.phase + 1, expected := fieldNat x 0 12 + 1, arrivals := 0, bytes := 0 })

/-- BAREXP: the L form takes 40 bits (R296). -/
def hBarexp (t : LWTail) : Half := barHalf t (fun x b => { b with bytes := b.bytes + BitVec.ofNat 48 (fieldNat x 0 40) })

/-- BARARV: it waits with kind 5 while the phase is full, and as a release (R296, R314). -/
def hBararv (t : LTail) : Half :=
  let n := fieldNat t.sub 0 4
  { shortHalf t.k [] t.dst (fun _ _ _ => 0) with
    waits := fun pre _ w =>
      let b := (pre.tile w.tile).bar n
      if b.arrivals = b.expected then some { kind := 5, index := n }
      else pre.releaseWait w (fieldNat t.sub 4 3)
    effect := fun pre cur w =>
      (cur.putScalar w t.dst (((pre.tile w.tile).bar n).phase.setWidth 64)).modBar w.tile n
        (fun b => { b with arrivals := b.arrivals + 1 }) |>.showDie w (fieldNat t.sub 4 3) pre.nextId }

/-- BARWAIT (R296). -/
def hBarwait (t : LTail) : Half :=
  let n := fieldNat t.sub 0 4
  { mask := t.k.toNat, srcs := [t.srcA]
    waits := fun pre _ w =>
      if ((pre.tile w.tile).bar n).phase = (pre.scalar w t.srcA.loc).setWidth 16 then some { kind := 5, index := n } else none }

/-- A phase is complete: all have arrived and no byte is owed (R296). -/
def Barrier.complete (b : Barrier) : Bool := b.arrivals == b.expected && b.bytes == 0

/-- BARRIER_PHASE_COMPLETE (R296). -/
def execBarrierPhaseComplete (tile n : Nat) (s : State) : Host.Outcome State Fault Refusal :=
  if ((s.tile tile).bar n).complete then
    .next (s.modBar tile n (fun b => { b with phase := b.phase + 1, arrivals := 0, bytes := 0 }))
  else .next s

/-! ### Streams (R297, R298) -/

/-- The levels of a stream's pattern. -/
def patternLevels (l : List Word) (levels : Nat) : List (Nat × Int) :=
  (List.range levels).map (fun i =>
    let x := l.getD (i + 1) 0
    (fieldNat x 0 14 + 1, (x.extractLsb' 14 25).toInt))

/-- A pattern is malformed: a destination stride, or an address or stride that is no multiple of 128 (R298). -/
def patternBad (l : List Word) (levels : Nat) : Bool :=
  (l.getD 0 0).toNat % 128 != 0 || (List.range levels).any (fun i => fieldNat (l.getD (i + 1) 0) 39 25 != 0) ||
    (patternLevels l levels).any (fun e => e.2 % 128 != 0)

/-- The streams bound on a tile. -/
def Tile.streams (t : Tile) : Nat := (t.strands.map (fun e => e.2.streams.length)).sum

/-- STREAM_FAULT of an SBIND (R298). -/
def State.bindFault (s : State) (w : Who) (i : Nat) (l : List Word) (levels : Nat) : Option Cause :=
  if (FMap.find (s.strand w).streams i).isNone ∧ 4 ≤ (s.tile w.tile).streams then some (streamCause 4 i 0)
  else if patternBad l levels then some (streamCause 5 i 0)
  else none

/-- A register that is in stream mode changes at the end of the bundle (R136, R297). -/
def State.afterStream (s : State) (w : Who) (i : Nat) (x : Option (Nat × List (Nat × Int))) : State :=
  s.modStrand w (fun y =>
    match FMap.find y.streams i with
    | none => y
    | some st => { y with streams := FMap.set y.streams i { st with after := some x } })

/-- SBIND (R297). -/
def hSbind (t : LTail) : Half :=
  let i := t.d.toNat
  let levels := fieldNat t.sub 0 2 + 1
  let pat := fun (s : State) (w : Who) => s.localWords w (s.imageAddr w t) 5
  { mask := t.k.toNat, srcs := [t.srcA], dests := [.v i], memory := true, binds := true
    traps := fun s w => firstCause [s.wordsRead w (s.imageAddr w t) 5, s.wordsBad w (s.imageAddr w t) 5, s.bindFault w i (pat s w) levels]
    units := fun s w => (List.range 5).map (fun j => s.phys w (s.imageAddr w t + 8 * j) / 64)
    accs := fun s w => (List.range 5).map (fun j => { pa := s.phys w (s.imageAddr w t + 8 * j), n := 8, load := true, more := decide (0 < j) })
    effect := fun pre cur w =>
      let p := ((pat pre w).getD 0 0).toNat
      let l := patternLevels (pat pre w) levels
      if (FMap.find (pre.strand w).streams i).isSome then cur.afterStream w i (some (p, l)) else cur.bindStream w i (p, l) }

/-- SUNB (R297). -/
def hSunb (d : BitVec 6) : Half :=
  let i := d.toNat
  { dests := [.v i], binds := true
    writes := fun s w => (FMap.find (s.strand w).streams i).isSome
    effect := fun _ cur w => cur.afterStream w i none }

/-- A refreshing bank that a strip meets (R300). -/
def State.stripRefresh (s : State) : Target → Option (Nat × Nat)
  | .ws d off => if s.refreshing d (off / 128 % 32) then some (d, off / 128 % 32) else none
  | _ => none

/-- One of the 8-byte words of a strip is read (R298). -/
def State.bindStrip (s : State) (id i : Nat) : State :=
  match s.flight id with
  | none => s
  | some f =>
    match f.kind with
    | .strip reg va ws =>
      match s.stripTarget f va with
      | .ok t =>
        if s.ready f && (s.stripRefresh t).isNone && s.targetPath t && decide (ws[i]? = some none) then
          (s.afterRead t).setKind id (.strip reg va (ws.set i (some (s.readTarget (t.plus (8 * i)) 8))))
        else s
      | _ => s
    | _ => s

/-- The words of a strip as far as they are read. -/
def State.stripWords (s : State) (id : Nat) : List (Option Nat) :=
  match (s.flight id).map Flight.kind with
  | some (.strip _ _ ws) => ws
  | _ => []

/-- The strip is the oldest that its register waits for. -/
def State.nextStrip (s : State) (f : Flight) (reg : Nat) : Bool :=
  !s.flights.any (fun g =>
    decide (g.id < f.id) && g.owner == f.owner && (match g.kind with | .strip r _ _ => r == reg | _ => false))

/-- A strip lands: none for one that was refused (R298). -/
def State.landStrip (s : State) (f : Flight) (reg : Nat) (x : Option VWord) : State :=
  (s.dropFlight f.id).modStrand f.owner (fun y =>
    match FMap.find y.streams reg with
    | none => y
    | some st => y.setStream reg { st with landed := st.landed ++ [x] })

/-- A strip whose words have all been read lands. -/
def State.fullStrip (s : State) (f : Flight) (reg : Nat) : State :=
  ((s.landStrip f reg (some (BitVec.ofNat 1024 (ofLe ((s.stripWords f.id).flatMap (fun w => leBytes (w.getD 0) 8)))))).modEngine
    (homeEngine f.owner.tile) (fun x => { x with strip := true })).occupy (homeEngine f.owner.tile) 128

/-- A bank serves a strip for one unit; with the last the strip lands (R163, R298). -/
def State.stripUnit (s : State) (f : Flight) (t unit : Nat) : State :=
  match f.kind with
  | .strip reg va _ =>
    match s.stripTarget f va with
    | .ok (.tile u off) =>
      let here := (List.range 16).filter (fun i => (s.tile u).winPhys (off + 8 * i) / 64 == unit)
      let s := here.foldl (fun (a : State) i => a.bindStrip f.id i) s
      if s.servedAll t f.id then
        (s.burstStrike u (homeEngine f.owner.tile) f.owner.strand ((s.tile u).winPhys off) 128 false 0).fullStrip f reg
      else s
    | _ => s
  | _ => s

/-- A strip reaches the head of its stream: it is read and lands; it waits for its page or its bank; a refused one lands
as such, an unregistered or uncorrectable one ends the placement (R291, R298, R300, R408). -/
def State.arriveStrip (s : State) (f : Flight) : State :=
  match f.kind with
  | .strip reg va _ =>
    if !s.nextStrip f reg then s
    else
      match s.stripTarget f va with
      | .miss k => s.joinMerge f.owner k (some (homeEngine f.owner.tile))
      | .bad c =>
        if c.code == .unregistered then (s.dropFlight f.id).engineFatal (homeEngine f.owner.tile) f.owner va .unregistered
        else s.landStrip f reg none
      | .ok t =>
        match s.stripRefresh t with
        | some (d, _) =>
          s.modDie d (fun x => { x with refreshWait := if x.refreshWait.contains f.id then x.refreshWait else x.refreshWait ++ [f.id] })
        | none =>
          if !s.targetPath t then s
          else
          match (List.range 16).find? (fun i => s.targetBad (t.plus (8 * i)) 8) with
          | some i =>
            (s.dropFlight f.id).placementFatal f.owner
              (eccCause t.structure (va + 8 * i) (s.errKey (t.plus (8 * i))).1 (s.errKey (t.plus (8 * i))).2) 0
          | none =>
            match t with
            | .tile u off => s.viaBank f u ((List.range 16).map (fun i => (s.tile u).winPhys (off + 8 * i) / 64)).dedup
            | _ => (((List.range 16).foldl (fun (a : State) i => a.bindStrip f.id i) s).flitTo t).fullStrip f reg
  | _ => s

/-- STREAM_STRIP_LAND (R298). -/
def execStreamStripLand (f : Nat) (s : State) : Host.Outcome State Fault Refusal :=
  withFlight s f (fun k => match k with | .strip _ _ _ => true | _ => false) State.arriveStrip

/-! ### The end of a refresh window (R300) -/

/-- The bank of the weight store that a flight waits at. -/
def State.refreshBank (s : State) (f : Flight) : Option (Nat × Nat) :=
  match f.kind with
  | .strip _ va _ => match s.stripTarget f va with | .ok (.ws d off) => some (d, off / 128 % 32) | _ => none
  | k => match k.touches with | some (.ws d off, _) => some (d, off / 128 % 32) | _ => none

/-- A read that waited for a bank is performed. -/
def State.performRead (s : State) (f : Flight) : State :=
  match f.kind with
  | .access _ _ _ _ _ => s.performFlight f
  | .fetch _ _ _ _ _ _ _ => s.storeFetch f
  | .strip _ _ _ => s.arriveStrip f
  | _ => s

/-- The reads that wait for a bank are performed, in the order in which they met it. -/
def State.performReads (s : State) (d bank : Nat) : State :=
  (s.die d).refreshWait.foldl (fun (a : State) id =>
    match a.flight id with
    | none => a
    | some f =>
      if a.refreshBank f = some (d, bank) then
        (a.modDie d (fun x => { x with refreshWait := x.refreshWait.filter (· != id) })).performRead f
      else a) s

/-- REFRESH_WINDOW_END (R300). -/
def execRefreshWindowEnd (die bank : Nat) (s : State) : Host.Outcome State Fault Refusal :=
  if s.refreshing die bank then .next s
  else
    let s := s.performReads die bank
    .next { s with engines := s.engines.map (fun e => (e.1, { e.2 with run := e.2.run.map (fun r =>
      if r.phase = .refresh die bank then { r with phase := .run } else r) })) }

-- BEGIN
/-- R283: Reads a 128-byte command image and pushes it to a CMD queue. -/
def execCpy (t : LTail) (s : State) : Host.Outcome State Fault Refusal := run1 (hCpy t) s

/-- R295: Waits for the ring's read slot to be filled and reads it as an acquire. -/
def execRawait (t : LTail) (s : State) : Host.Outcome State Fault Refusal := run1 (hRawait t) s

/-- R295: Waits for the read slot, unfills it and advances the read index. -/
def execRrel (t : LTail) (s : State) : Host.Outcome State Fault Refusal := run1 (hRrel t) s

/-- R295: Reads a ring's indexes and size. -/
def execRstat (t : LTail) (s : State) : Host.Outcome State Fault Refusal := run1 (hRstat t) s

/-- R296: Sets a barrier's expected arrivals and advances its phase. -/
def execBarinit (t : LWTail) (s : State) : Host.Outcome State Fault Refusal := run1 (hBarinit t) s

/-- R296: Arrives at a barrier as a release, waiting if the phase is full. -/
def execBararv (t : LTail) (s : State) : Host.Outcome State Fault Refusal := run1 (hBararv t) s

/-- R296: Adds expected bytes to a barrier. -/
def execBarexp (t : LWTail) (s : State) : Host.Outcome State Fault Refusal := run1 (hBarexp t) s

/-- R296: Waits while the barrier phase equals a given number, then acquires. -/
def execBarwait (t : LTail) (s : State) : Host.Outcome State Fault Refusal := run1 (hBarwait t) s

/-- R297: Puts a vector register in stream mode over a pattern. -/
def execSbind (t : LTail) (s : State) : Host.Outcome State Fault Refusal := run1 (hSbind t) s

/-- R297: Ends stream mode, keeping the last strip. -/
def execSunb (d : BitVec 6) (s : State) : Host.Outcome State Fault Refusal := run1 (hSunb d) s
-- END

end Sys2Proof.Machine
end

