-- ==== Sys2Proof/Machine/Placement.lean ====
section
/-!
DEFINITION. Images, placements and their scheduling, beacons, and what the supervisor does at a cut (R31, R34, R35, R42,
R339 to R360, R384, R385, R418).
-/
namespace Sys2Proof.Machine

/-! ### The image (R34, R35) -/

/-- n bytes of a list from an offset as a number, little-endian. -/
def leAt (l : List Byte) (off n : Nat) : Nat := ofLe ((l.drop off).take n)

/-- Bytes lo up to, not including, hi of a list are zero. -/
def zeroAt (l : List Byte) (lo hi : Nat) : Bool := ((l.drop lo).take (hi - lo)).all (fun b => b == 0)

/-- What an image holds. -/
structure Image where
  lines : List Line
  data : Option (List Byte)
  align : Nat
  starts : FMap Nat
  /-- Declared ports with their queue types. -/
  queues : List (Nat × Nat)
  params : BitVec 8
  deriving DecidableEq, Repr

/-- The length of an image by its header (R34). -/
def imageLength (l : List Byte) : Nat :=
  192 + 64 * leAt l 8 2 + leAt l 32 4 + (if bitAt (BitVec.ofNat 16 (leAt l 6 2)) 1 then 114 else 0)

/-- The zero fields of an image; under a higher minor version they may hold fields that this device ignores (R34, R35,
R417). -/
def imageZeros (l : List Byte) : Bool :=
  0 < leAt l 5 1 ||
    (decide (leAt l 6 2 < 4) && leAt l 15 1 == 0 && zeroAt l 36 64 && ((leAt l 6 2).testBit 0 || zeroAt l 10 12) &&
      (List.range 8).all (fun i => (leAt l 12 1).testBit i || leAt l (16 + 2 * i) 2 == 0) &&
      (List.range 32).all (fun i =>
        if i < leAt l 13 1 then zeroAt l (65 + 4 * i) (68 + 4 * i) else zeroAt l (64 + 4 * i) (68 + 4 * i)))

/-- The ports that an image declares, with their types. -/
def imageQueues (l : List Byte) : List (Nat × Nat) :=
  (List.range (leAt l 13 1)).map (fun i => (leAt l (64 + 4 * i) 1 % 32, leAt l (64 + 4 * i) 1 / 32 % 4))

/-- The signature of an image of partition 0 holds (R34, R35). -/
def imageSigned (l : List Byte) : Bool :=
  let n := imageLength l
  (leAt l 6 2).testBit 1 && Config.stage1Verifies (shake256 (l.take (n - 114)) 64) ((l.drop (n - 114)).take 114)

/-- A code line of an image; a line of zeros is none. -/
def imageLine (l : List Byte) (i : Nat) : Line :=
  let x : Line := (List.range 32).map (fun h => BitVec.ofNat 16 (leAt l (192 + 64 * i + 2 * h) 2))
  if x.all (fun h => h == 0) then [] else x

/-- The supervisor's check of an image (R35). DESIGN CHOICE: a queues count above 32 is refused, a data align above 12 is not
(assumption 120). -/
def imageOk (l : List Byte) (partZero : Bool) : Bool :=
  let n := leAt l 8 2
  let flags := leAt l 6 2
  let starts := leAt l 12 1
  decide (192 ≤ l.length) && l.take 4 == [0x53, 0x59, 0x52, 0x58] && leAt l 4 1 == 1 && imageZeros l &&
    decide (1 ≤ n) && decide (n ≤ 1024) && decide (leAt l 13 1 ≤ 32) && starts.testBit 0 &&
    (List.range 8).all (fun i =>
      !starts.testBit i || (leAt l (16 + 2 * i) 2 % 2 == 0 && decide (leAt l (16 + 2 * i) 2 / 64 < n))) &&
    !hasRepeat ((imageQueues l).map (·.1)) &&
    (leAt l 32 4 == 0 || flags.testBit 0) && !(flags.testBit 0 && (leAt l 14 1).testBit 7) &&
    decide (imageLength l ≤ l.length) && (!partZero || imageSigned l)

/-- Read an image that has passed the check. -/
def parseImage (l : List Byte) : Image :=
  let n := leAt l 8 2
  { lines := (List.range n).map (imageLine l)
    data := if (leAt l 6 2).testBit 0 then some ((l.drop (192 + 64 * n)).take (leAt l 32 4)) else none
    align := leAt l 10 2
    starts := ((List.range 8).filter (fun i => (leAt l 12 1).testBit i)).map (fun i => (i, leAt l (16 + 2 * i) 2))
    queues := imageQueues l
    params := BitVec.ofNat 8 (leAt l 14 1) }

/-! ### The placement record (R343 to R345) -/

/-- The layout units of a record (R344). -/
def parseUnit (l : List Byte) (i : Nat) : LayUnit :=
  let x := leAt l (128 + 8 * i) 8
  { col := x % 16, row := x / 16 % 32, width := x / 512 % 16 + 1, height := x / 8192 % 16 + 1 }

/-- The offset of the tile entries (R344). -/
def entryBase (units : Nat) : Nat := (128 + 8 * units + 63) / 64 * 64

/-- A tile entry at an offset (R345). -/
def parseEntry (l : List Byte) (o : Nat) : TileEntry :=
  { params := (List.range 8).map (fun i => BitVec.ofNat 64 (leAt l (o + 8 * i) 8))
    ports := (List.range 32).filterMap (fun i =>
      let x := leAt l (o + 64 + 4 * i) 4
      if x.testBit 16 then some (i, x % 65536, x.testBit 17) else none)
    rings := (List.range 16).map (fun i => leAt l (o + 192 + 2 * i) 2) }

/-- The tiles of a layout as offsets of row and column, in the order of the entries (R344). -/
def layout (us : List LayUnit) : List (Nat × Nat) :=
  us.flatMap (fun u => (List.range u.height).flatMap (fun y => (List.range u.width).map (fun x => (u.row + y, u.col + x))))

/-- The tiles of a layout at an origin, if they all lie on its die (R2, R344). -/
def layoutAt (us : List LayUnit) (origin : Nat) : Option (List Nat) :=
  let l := layout us
  if l.all (fun e => decide (rowOf origin + e.1 < 26) && decide (colOf origin + e.2 < 16)) then
    some (l.map (fun e => origin + 16 * e.1 + e.2))
  else none

/-- The origins, in ascending order (R2, R348). -/
def origins : List Nat := (List.range 2048).filter validTile

/-- The fields of a record that shall be zero (R344, R345). -/
def recordZeros (l : List Byte) (units tiles preds : Nat) : Bool :=
  decide (leAt l 20 1 < 2) && decide (leAt l 21 1 < 4) && zeroAt l 28 32 && zeroAt l (32 + 8 * preds) 64 && zeroAt l 112 128 &&
    (List.range units).all (fun i => decide (leAt l (128 + 8 * i) 8 < 2 ^ 17)) &&
    (List.range tiles).all (fun i =>
      let o := entryBase units + 256 * i
      zeroAt l (o + 224) (o + 256) && (List.range 32).all (fun p => decide (leAt l (o + 64 + 4 * p) 4 < 2 ^ 18)))

/-- An attached port is declared by the image with the type of its queue (R345, R384). -/
def State.declared (s : State) (qs : List (Nat × Nat)) (port queue : Nat) : Bool :=
  qs.any (fun d => d.1 == port && d.2 == (s.queue queue).type)

/-- The descriptor lists a tile and port as an endpoint (R208, R345). -/
def State.lists (s : State) (queue t port : Nat) : Bool := (s.queue queue).eps.contains (t, port)

/-- The attachments of a record name queues of the partition that the image declares, and some origin makes each CONSUMER
port an endpoint of its queue (R345, assumption 60). -/
def State.attachments (s : State) (part : Nat) (r : PlaceRecord) : Bool :=
  let qs := imageQueues r.image
  r.entries.all (fun e => e.ports.all (fun p =>
    (s.queue p.2.1).state != 0 && (s.queue p.2.1).part == part && s.declared qs p.1 p.2.1)) &&
    (r.entries.all (fun e => e.ports.all (fun p => p.2.2)) ||
      origins.any (fun o =>
        match layoutAt r.units o with
        | none => false
        | some ts => (ts.zip r.entries).all (fun e => e.2.ports.all (fun p => p.2.2 || s.lists p.2.1 e.1 p.1))))

/-- A placement record as PLACE reads it: the record, its node's words 0 and 2 to 6, its parent. -/
structure Request where
  record : PlaceRecord
  parent : Nat
  words : List Word
  deriving DecidableEq, Repr

/-- Read a placement record and its image; what stands in the way is a lazy page, or an error, with the range that could not be
read if there is one (R344, R363, R377). -/
inductive ReadRecord where
  | ok (l image : List Byte)
  | lazy (page : Nat)
  | invalid (met : Option (Nat × Nat))
  deriving DecidableEq, Repr

/-- The bytes of a record and of the image it names. -/
def State.readRecord (s : State) (part va : Nat) : ReadRecord :=
  if va % 64 ≠ 0 then .invalid none
  else
    match s.devRead part va 128 with
    | .lazy p => .lazy p
    | .none => .invalid (some (va, 128))
    | .ok h =>
      let n := entryBase (leAt h 24 1) + 256 * leAt h 26 2
      match s.devRead part va n with
      | .lazy p => .lazy p
      | .none => .invalid (some (va, n))
      | .ok l =>
        match s.devRead part (leAt h 8 8) (leAt h 16 4) with
        | .lazy p => .lazy p
        | .none => .invalid (some (leAt h 8 8, leAt h 16 4))
        | .ok im => .ok l im

/-- A placement record as its bytes give it. -/
def parseRecord (l im : List Byte) : PlaceRecord :=
  let units := leAt l 24 1
  { image := im, system := leAt l 20 1 == 1, wsRead := (leAt l 21 1).testBit 0
    notify := if (leAt l 21 1).testBit 1 then some (leAt l 22 2) else none
    units := (List.range units).map (parseUnit l)
    preds := (List.range (leAt l 25 1)).map (fun i => leAt l (32 + 8 * i) 8)
    entries := (List.range (leAt l 26 2)).map (fun i => parseEntry l (entryBase units + 256 * i)) }

/-- PLACE accepts a record: none of the cases of R345 holds. -/
def State.recordOk (s : State) (part : Nat) (l im : List Byte) : Bool :=
  let r := parseRecord l im
  let parent := leAt l 0 8
  let w0 : Word := BitVec.ofNat 64 (leAt l 64 8)
  let offs := layout r.units
  decide (leAt l 24 1 ≤ 64) && decide (leAt l 25 1 ≤ 4) && recordZeros l (leAt l 24 1) (leAt l 26 2) (leAt l 25 1) &&
    fieldNat w0 0 11 == 0 && fieldNat w0 29 3 == 0 && fieldNat w0 44 20 == 0 && fieldNat w0 15 2 != 3 &&
    leAt l 95 1 / 2 == 0 &&
    offs.length == r.entries.length && offs.dedup.length == offs.length &&
    r.units.all (fun u => decide (u.row < 26)) && origins.any (fun o => (layoutAt r.units o).isSome) &&
    imageOk im (part == 0) && (!r.system || part == 0) &&
    s.validNode parent && fieldNat (s.rcb parent 0) 5 6 == part &&
    fieldNat (s.rcb parent 0) 0 2 != 3 && decide (1 ≤ fieldNat (s.rcb parent 0) 2 3) && decide (fieldNat (s.rcb parent 0) 2 3 ≤ 5) &&
    r.preds.all (fun p => (FMap.find s.nodes p).isSome && fieldNat (s.rcb p 0) 0 2 == 3 && fieldNat (s.rcb p 0) 5 6 == part) &&
    s.attachments part r

/-- An address in partition 0's memory that names no node, in the page of the control blocks while it has room; which one is open
(assumptions 3 and 73). -/
def State.newRcb (s : State) : Nat × State :=
  let (c, s) := s.choose 8191
  let unused := fun i => (FMap.find s.nodes (2 ^ 21 + 256 * (i + 1))).isNone
  match (if unused c then some c else (List.range 8191).find? unused) with
  | some i => (2 ^ 21 + 256 * (i + 1), s)
  | none => (256 * (Nat.max ((FMap.keys s.nodes).foldl Nat.max 0) (2 ^ 23) / 256 + 1), s)

/-- Where the block of a new node stands in device memory: at its own address in partition 0's memory, if it is mapped (R339). -/
def State.homeOf (s : State) (a : Nat) : Option Nat :=
  match s.reach 0 a with
  | .at pa => if (s.blockAt pa).isNone then some pa else none
  | _ => none

/-- PLACE creates the node and queues the placement (R344, R346, R348). -/
def State.submit (s : State) (part va : Nat) (l im : List Byte) : Nat × State :=
  let (a, s) := s.newRcb
  let parent := leAt l 0 8
  let depth := fieldNat (s.rcb parent 0) 2 3 + 1
  let w0 := leAt l 64 8 + 3 + depth * 4 + part * 32
  let words : FMap Word := [(0, BitVec.ofNat 64 w0)]
  let words := FMap.put 0 words 1 (BitVec.ofNat 64 parent)
  let words := (List.range 5).foldl (fun (m : FMap Word) i => FMap.put 0 m (2 + i) (BitVec.ofNat 64 (leAt l (72 + 8 * i) 8))) words
  let words := FMap.put 0 words 15 (BitVec.ofNat 64 va)
  (a, { s with nodes := FMap.set s.nodes a { words := words, record := some (parseRecord l im), arrival := s.nextId, home := s.homeOf a }
               nextId := s.nextId + 1, passDue := true })

/-! ### Scheduling (R341, R347 to R350) -/

/-- The bytes of device memory that an image's data segment is charged (R31). -/
def dataCharge (image : List Byte) : Nat := if (leAt image 6 2).testBit 0 then wholePages (leAt image 32 4) else 0

/-- A placement's charge: its tiles, the queues its ports attach, the engines of the CMD queues among them, the whole pages
of its data segment (R31, R341, assumption 61). -/
def State.chargeOf (s : State) (r : PlaceRecord) : Charge :=
  let qs := (r.entries.flatMap (fun e => e.ports.map (·.2.1))).dedup
  let es := (qs.filter (fun q => (s.queue q).type == 2)).flatMap (fun q => ((s.queue q).eps.take 1).map (·.1))
  { tiles := r.entries.length, queues := qs.length, engines := es.dedup.length
    hbm := dataCharge r.image }

/-- What placing a request would charge: a pre-empted placement still holds its data segment, and is charged for it (R341, R359). -/
def State.dueOf (s : State) (a : Nat) (r : PlaceRecord) : Charge :=
  let held := match FMap.find s.nodes a with | none => 0 | some n => n.charged.hbm
  { s.chargeOf r with hbm := dataCharge r.image - held }

/-- A charge fits the budgets of a node and its ancestors (R341). -/
def State.fits (s : State) (a : Nat) (c : Charge) : Bool :=
  s.withinBudget a 0 11 6 c.tiles && s.withinBudget a 11 17 8 c.queues && s.withinBudget a 28 9 10 c.engines && s.withinHbm a c.hbm

/-- Charge a placement. -/
def State.chargeAll (s : State) (a : Nat) (c : Charge) : State :=
  ((((s.charge a 0 11 c.tiles).charge a 11 17 c.queues).charge a 28 9 c.engines).chargeHbm a c.hbm).modNode a
    (fun n => { n with charged := { c with hbm := n.charged.hbm + c.hbm } })

/-- Release the tiles, queues and engines that a placement was charged: its data segment stays charged (R341, R359). -/
def State.dischargeTiles (s : State) (a : Nat) : State :=
  match FMap.find s.nodes a with
  | none => s
  | some n =>
    let c := n.charged
    (((s.discharge a 0 11 c.tiles).discharge a 11 17 c.queues).discharge a 28 9 c.engines).modNode a
      (fun n => { n with charged := { hbm := n.charged.hbm } })

/-- Release all that a placement was charged. -/
def State.dischargeAll (s : State) (a : Nat) : State :=
  match FMap.find s.nodes a with
  | none => s
  | some n => ((s.dischargeTiles a).dischargeHbm a n.charged.hbm).modNode a (fun n => { n with charged := {} })

/-- The placements of a state, by their region control blocks. -/
def State.inState (s : State) (v : Nat) : List Nat :=
  (FMap.keys s.nodes).filter (fun a => fieldNat (s.rcb a 0) 0 2 == 3 && s.placeState a == v)

/-- The place of a request in its queue. -/
def State.arrivalOf (s : State) (a : Nat) : Nat := match FMap.find s.nodes a with | none => 0 | some n => n.arrival

/-- The placement record of a node. -/
def State.recordOf (s : State) (a : Nat) : Option PlaceRecord := (FMap.find s.nodes a).bind (·.record)

/-- The predecessors of a placement. -/
def State.predsOf (s : State) (a : Nat) : List Nat := match s.recordOf a with | none => [] | some r => r.preds

/-- The first of a list by a rank, the smallest. -/
def firstBy (f : Nat → Nat) : List Nat → Option Nat
  | [] => none
  | x :: r =>
    match firstBy f r with
    | none => some x
    | some y => if f y < f x then some y else some x

/-- The first request of each partition's queue (R348). -/
def State.firsts (s : State) : List Nat :=
  let q := s.inState 0
  (List.range 64).filterMap (fun p => firstBy s.arrivalOf (q.filter (fun a => fieldNat (s.rcb a 0) 5 6 == p)))

/-- A first request is eligible (R348); one without tiles is not for the heads of a pass (R347). -/
def State.eligible (s : State) (a : Nat) : Bool :=
  match s.recordOf a with
  | none => false
  | some r => !r.entries.isEmpty && r.preds.all (fun p => s.placeState p == 5) && s.fits (s.rcb a 1).toNat (s.dueOf a r)

/-- A node's priority (R340, R341). -/
def State.priorityOf (s : State) (a : Nat) : Nat := fieldNat (s.rcb (s.setter 0 7 a) 0) 11 4

/-- The rank of a request: the highest priority first, then the earliest arrival (R348). -/
def State.rank (s : State) (a : Nat) : Nat := (15 - s.priorityOf a) * 2 ^ 64 + s.arrivalOf a

/-- Free tiles that a placement may use (R7, R348). -/
def State.freeTile (s : State) (t : Nat) : Bool := (s.tile t).place.isNone && !s.reserved t

/-- The positions of a layout; a pre-empted placement has one (R344, R359). -/
def State.positions (s : State) (a : Nat) : List (List Nat) :=
  match FMap.find s.nodes a with
  | none => []
  | some n => if n.resume then [n.tiles] else
    match n.record with
    | none => []
    | some r => origins.filterMap (fun o => layoutAt r.units o)

/-- The lowest position of free tiles outside a reservation (R348, R350). -/
def State.position (s : State) (a : Nat) (res : List Nat) : Option (List Nat) :=
  (s.positions a).find? (fun ts => ts.all (fun t => s.freeTile t && !res.contains t))

/-- The reservation of a refused head: the position with the fewest occupied tiles (R349). -/
def State.reservation (s : State) (a : Nat) : List Nat :=
  let ps := (s.positions a).filter (fun ts => ts.all (fun t => !s.reserved t))
  let occ := fun (i : Nat) => ((ps.getD i []).filter (fun t => !s.freeTile t)).length
  match firstBy occ (List.range ps.length) with
  | none => []
  | some i => ps.getD i []

/-- A request is placed: charged, its tiles taken, PLACING, its age 0 (R346, R349). -/
def State.choosePlacement (s : State) (a : Nat) (ts : List Nat) : State :=
  match s.recordOf a with
  | none => s
  | some r =>
    let s := s.chargeAll a (s.dueOf a r)
    let s := (s.modNode a (fun n => { n with tiles := ts })).modRcb a 14 (fun x => putField x 32 8 0)
    let s := ts.foldl (fun (b : State) t => b.modTile t (fun y => { y with place := some a, part := fieldNat (s.rcb a 0) 5 6 })) s
    s.setPlaceState a 1

/-- The age limit of the partition of a request (R340, R350). -/
def State.ageLimit (s : State) (a : Nat) : Nat :=
  let n := fieldNat (s.rcb (s.setter 3 7 (s.partitionNode a)) 0) 21 8
  if n = 0 then 16 else n

/-- Back-filling: requests of other partitions in order of rank, each if it needs fewer tiles than the head and fits
outside the reservation (R350). -/
def State.backfill (s : State) (res : List Nat) (limit : Nat) : List Nat → State
  | [] => s
  | a :: r =>
    match s.recordOf a with
    | none => s.backfill res limit r
    | some p =>
      if p.entries.length < limit ∧ s.eligible a then
        match s.position a res with
        | some ts => (s.choosePlacement a ts).backfill res limit r
        | none => s.backfill res limit r
      else s.backfill res limit r

/-- The heads of a pass, one after another, until one is refused (R348 to R350). The fuel is the number of requests. -/
def State.passHeads (s : State) : Nat → State
  | 0 => s
  | n + 1 =>
    match firstBy s.rank (s.firsts.filter s.eligible) with
    | none => s
    | some a =>
      match s.position a [] with
      | some ts => (s.choosePlacement a ts).passHeads n
      | none =>
        let age := Nat.min (fieldNat (s.rcb a 14) 32 8 + 1) 255
        let s := (s.modRcb a 14 (fun x => putField x 32 8 age)).modRcb a 13 (fun x => bumpField x 32 32 1)
        if age < s.ageLimit a then
          let others := s.firsts.filter (fun b => fieldNat (s.rcb b 0) 5 6 != fieldNat (s.rcb a 0) 5 6)
          let rec sorted : Nat → List Nat → List Nat
            | 0, _ => []
            | k + 1, l => match firstBy s.rank l with | none => [] | some x => x :: sorted k (l.filter (· != x))
          s.backfill (s.reservation a) (match s.recordOf a with | none => 0 | some r => r.entries.length) (sorted others.length others)
        else s

/-- Push the notify item of a placement (R346). -/
def State.pushNotify (s : State) (a : Nat) : State :=
  match s.recordOf a with
  | none => s
  | some r =>
    match r.notify with
    | none => s
    | some q =>
      let cause := match FMap.find s.nodes a with | none => 0 | some n => (n.cause.getD 0).toNat
      let st := if cause = 0 then 5 else 6
      s.post ⟨s.supervisor a, 0⟩ q [{ header := itemHeader 2 0 false 0, words := [BitVec.ofNat 64 a, BitVec.ofNat 64 (st + cause * 256)] }]

/-- A placement's notify queue has room, or takes no item. -/
def State.notifyReady (s : State) (a : Nat) : Bool :=
  match (s.recordOf a).bind (·.notify) with
  | none => true
  | some q => (s.queue q).state != 1 || s.admits ⟨s.supervisor a, 0⟩ q 1

/-- The notify item, if its queue is OPEN. -/
def State.notifyIfOpen (s : State) (a : Nat) : State :=
  match (s.recordOf a).bind (·.notify) with
  | none => s
  | some q => if (s.queue q).state == 1 then s.pushNotify a else s

/-- A queued placement with a FAILED predecessor drains with cause 0xFF (R346, R418). -/
def State.failDependents (s : State) : State :=
  (s.inState 0).foldl (fun (b : State) a =>
    if (b.predsOf a).any (fun p => b.placeState p == 6) then
      (((b.setPlaceState a 4).modRcb a 16 (fun x => putField x 16 8 0xFF))).modNode a (fun n => { n with cause := some 0xFF })
    else b) s

/-- A placement is QUEUED and has no tiles (R347). -/
def State.emptyQueued (s : State) (a : Nat) : Bool :=
  s.placeState a == 0 && (match s.recordOf a with | none => false | some r => r.entries.isEmpty)

/-- A placement without tiles has found its predecessors DONE in a pass; its notify item still waits for room (R217, R347). -/
def State.emptyDue (s : State) (a : Nat) : Bool :=
  s.emptyQueued a && (match FMap.find s.nodes a with | none => false | some n => n.cause == some 0)

/-- A placement without tiles is DONE, its notify item pushed (R347). -/
def State.endEmpty (s : State) (a : Nat) : State := (s.notifyIfOpen a).setPlaceState a 5

/-- A placement without tiles is DONE once its predecessors are and its notify item finds room (R347). The fuel is the number of
requests. -/
def State.finishEmpty (s : State) : Nat → State
  | 0 => s
  | n + 1 =>
    match (s.inState 0).find? (fun a => s.emptyQueued a && !s.emptyDue a && (s.predsOf a).all (fun p => s.placeState p == 5)) with
    | none => s
    | some a =>
      let s := s.modNode a (fun n => { n with cause := some 0 })
      (if s.notifyReady a then s.endEmpty a else s).finishEmpty n

/-- A scheduling pass (R346 to R350). -/
def State.pass (s : State) : State :=
  let n := (s.inState 0).length
  ((({ s with passDue := false } : State).failDependents).finishEmpty n).passHeads n

/-- SCHEDULING_PASS (R348). -/
def execSchedulingPass (s : State) : Host.Outcome State Fault Refusal := .next (if s.passDue then s.pass else s)

/-! ### PLACING (R31, R42, R209, R294, R346) -/

/-- The capacity of the CONSUMER ports of an entry, in cells (R209). -/
def State.cells (s : State) (e : TileEntry) : Nat := (e.ports.map (fun p => if p.2.2 then 0 else (s.queue p.2.1).cap)).sum

/-- The attachments and ring sizes of a tile are accepted (R209, R294). -/
def State.entryOk (s : State) (t : Nat) (e : TileEntry) : Bool :=
  decide (e.rings.sum ≤ 512) && e.rings.all (fun n => decide (n ≤ 256)) && decide (s.cells e ≤ 448) &&
    e.ports.all (fun p => (s.queue p.2.1).state != 0 && (p.2.2 || s.lists p.2.1 t p.1))

/-- The port of an attachment; a CONSUMER port goes on with its endpoint's ordinal (R209, R211). -/
def State.newPort (s : State) (t port queue : Nat) (producer : Bool) : Port :=
  { queue := queue, consumer := !producer
    ordinal := match (s.queue queue).epOf t port with
      | none => 0
      | some e => if producer then 0 else FMap.get 0 (s.queue queue).ordinals e }

/-- A strand as a placement starts it (R42, R213). -/
def startedStrand (i : Nat) (system : Bool) (ports : FMap Port) (start : Option Nat) (now : Nat) : Strand :=
  { Strand.fresh i with
    running := start.isSome, ip := BitVec.ofNat 64 (start.getD 0), startAt := now + 1, touched := now, system := system
    q := ((List.range 16).filter (fun n => (FMap.find ports n).isSome)).map (fun n => (n, { port := n })) }

/-- The common registers as a placement sets them: c24 to c31 hold the parameters, and c31 the base of a data segment
(R31, R42). -/
def startedC (params : List Word) (base : Option Nat) : FMap CReg :=
  (List.range 8).foldl (fun (m : FMap CReg) i =>
    let x := if i = 7 then (match base with | some b => BitVec.ofNat 64 b | none => params.getD 7 0) else params.getD i 0
    FMap.put {} m (24 + i) { now := { val := x } }) []

/-- The rings of an entry, empty (R294). -/
def startedRings (l : List Nat) : FMap Ring :=
  ((List.range 16).filter (fun i => l.getD i 0 != 0)).map (fun i => (i, { size := l.getD i 0 }))

/-- The code, the registers, the strands, the rings and the barriers of a tile that a placement or a replacement starts
(R35, R42, R359). -/
def Tile.start (t : Tile) (now : Nat) (im : Image) (system : Bool) (params : List Word) (base : Option Nat) (rings : List Nat) : Tile :=
  { t with
    store := (List.range im.lines.length).foldl (fun (m : FMap Line) i => FMap.put [] m i (im.lines.getD i [])) []
    c := startedC params base
    strands := (List.range 8).map (fun i => (i, startedStrand i system t.ports (FMap.find im.starts i) now))
    badLines := [], wpBase := [], wpMask := [], rings := startedRings rings, bars := [], fills := [] }

/-- The ordinals at which the endpoints of ports stand are kept (R211). -/
def State.keepOrdinals (s : State) (t : Nat) (ports : FMap Port) : State :=
  ports.foldl (fun (b : State) e =>
    if e.2.consumer then
      match (b.queue e.2.queue).epOf t e.1 with
      | none => b
      | some i => b.modQueue e.2.queue (fun d => { d with ordinals := FMap.set d.ordinals i e.2.ordinal })
    else b) s

/-- A tile as a placement takes it over: ports that system software had attached give way, their endpoints' ordinals kept; its own ports attached, no crew, the mirror pair zero, the TLB empty (R42, R177, R209,
R365). -/
def State.takeOver (s : State) (t a : Nat) (r : PlaceRecord) (e : TileEntry) (im : Image) (base : Option Nat) : State :=
  let s := s.keepOrdinals t (s.tile t).ports
  let ports := e.ports.map (fun p => (p.1, s.newPort t p.1 p.2.1 p.2.2))
  s.modTile t (fun y =>
    let y := (y.clearUnit 2 12).clearUnit 2 13
    { y with place := some a, part := fieldNat (s.rcb a 0) 5 6, mirror := false, crews := [], waiters := [], ports := ports
             frozen := false, claim := none, debugStop := none, tlb := [], wsRead := r.wsRead, cut := none, cutDue := none
             beaconDue := [], arrayOn := false, rampFrom := s.now t : Tile }.start (s.now t) im r.system e.params base e.rings)

/-- The data segment of an image is written to device memory of the placement's partition, at a base that is open
(R31, assumption 3). DESIGN CHOICE: a segment of no bytes takes one page that is charged nothing, and c31 holds its base; R31 does
not say what range it takes (assumption 105). -/
def State.placeData (s : State) (a : Nat) (im : Image) : Option (Option Nat × State) :=
  match im.data with
  | none => some (none, s)
  | some d =>
    let part := fieldNat (s.rcb a 0) 5 6
    (s.newRange part (Nat.max d.length 1) im.align).map (fun (b, s) => (some b, s.devWrite part b d))

/-- PLACING is refused: the placement drains and fails with cause 0xFD (R346, R418). -/
def State.refusePlacing (s : State) (a : Nat) : State :=
  ((s.setPlaceState a 4).modRcb a 16 (fun x => putField x 16 8 0xFD)).modNode a (fun n => { n with cause := some 0xFD })

/-- A pre-empted placement goes on on its tiles with its context restored, and thawed; TCYC goes on counting, and what belongs to the
tile itself, its energy, its banks and its trace, stands as it is (R359, R360, R402). -/
def State.restoreContext (s : State) (a : Nat) (n : Node) : State :=
  let s := n.context.foldl (fun (b : State) e =>
    let y := b.tile e.1
    b.setTile e.1 { e.2.thaw (b.now e.1) with
      debugStop := none, frozen := false, tlb := [], arrayOn := false, eTile := y.eTile, energyAt := y.energyAt, bankHeld := y.bankHeld, bankQ := y.bankQ
      traceMask := y.traceMask, traceNext := y.traceNext, traceLen := y.traceLen }) s
  (s.modNode a (fun n => { n with context := [], resume := false })).setPlaceState a 2

/-- A command whose destination is the weight store of a die is in progress (R299). -/
def State.wsFilling (s : State) (d : Nat) : Bool :=
  s.engines.any (fun e => e.2.run.any (fun r => r.cmd.dkind == 2 && fieldNat (r.cmd.word 2) 34 2 == d &&
    (match r.phase with | .ended _ _ => false | .ring _ => false | _ => true))) ||
  s.flights.any (fun f => match f.kind with | .ewrite _ c p _ => c.dkind == 2 && (match p.spot with | .ws x _ => x == d | _ => false) | _ => false)

/-- PLACEMENT_LOAD: one with read rights to the weight store starts no sooner than the commands that write it have ended (R299); a
placement in PLACING is written to its tiles and runs (R346). Without free frames for its data
segment it stays in PLACING. -/
def execPlacementLoad (rcb : Nat) (s : State) : Host.Outcome State Fault Refusal :=
  match FMap.find s.nodes rcb with
  | none => .next s
  | some n =>
    match n.record with
    | none => .next s
    | some r =>
      if s.placeState rcb ≠ 1 ∨ (r.wsRead ∧ n.tiles.any (fun t => s.wsFilling (dieOf t))) then .next s
      else if n.resume then .next (s.restoreContext rcb n)
      else if !(n.tiles.zip r.entries).all (fun e => s.entryOk e.1 e.2) then .next (s.refusePlacing rcb)
      else
        let im := parseImage r.image
        match s.placeData rcb im with
        | none => .next s
        | some (base, s) =>
          let s := (n.tiles.zip r.entries).foldl (fun (b : State) e => b.takeOver e.1 rcb r e.2 im base) s
          let s := (s.modNode rcb (fun n => { n with dataBase := base })).modRcb rcb 16 (fun x => putField x 0 11 n.tiles.length)
          .next (s.setPlaceState rcb 2)

/-! ### DRAINING (R346) -/

/-- The ports of a tile are detached; its endpoints' ordinals are kept (R211, R346). -/
def State.detach (s : State) (t : Nat) : State :=
  (s.keepOrdinals t (s.tile t).ports).modTile t (fun y => { y with ports := [] })

/-- What a pre-empted placement saved is given up with it: its saved ports are detached (R346, R359). -/
def State.dropContext (s : State) (a : Nat) (n : Node) : State :=
  if n.resume then
    (n.context.foldl (fun (b : State) e => b.keepOrdinals e.1 e.2.ports) s).modNode a (fun x => { x with context := [], resume := false })
  else s

/-- A copy-engine command of a tile has not ended (R346). -/
def State.tileCommands (s : State) (t : Nat) : Bool :=
  s.engines.any (fun e => e.2.buf.any (fun c => c.who.tile == t) || e.2.run.any (fun r => r.cmd.who.tile == t)) ||
    s.flights.any (fun f => match f.kind with | .command _ c => c.who.tile == t | _ => false)

/-- The data segments of replaced tiles are given back, and their charge with them (R31, R341). -/
def State.dropMore (s : State) (a : Nat) (l : List (Nat × Nat)) : State :=
  (l.foldl (fun (b : State) e => (b.dropRange (fieldNat (b.rcb a 0) 5 6) e.1 (Nat.max e.2 (2 ^ 21))).dischargeHbm a e.2) s).modNode a
    (fun n => { n with moreData := [] })

/-- The data segments of a placement are given back. -/
def State.dropData (s : State) (a : Nat) : State :=
  match FMap.find s.nodes a with
  | none => s
  | some n =>
    match n.dataBase with
    | none => s.dropMore a n.moreData
    | some b =>
      ((s.dropRange (fieldNat (s.rcb a 0) 5 6) b (Nat.max (match n.record with | none => 0 | some r => dataCharge r.image) (2 ^ 21))).modNode a (fun n => { n with dataBase := none })).dropMore a n.moreData

/-- A tile is given back by its placement. -/
def State.releaseTile (s : State) (t : Nat) : State :=
  (s.detach t).modTile t (fun y =>
    { y with place := none, frozen := false, cut := none, cutDue := none, beaconDue := [], claim := none, debugStop := none, wsRead := false, tlb := [], arrayOn := false })

/-- A cut whose placements have all ended has ended (R384). -/
def State.endCuts (s : State) : State :=
  (FMap.keys s.nodes).foldl (fun (b : State) x =>
    if (b.cutOf x).isSome && (b.placementsIn x).all (fun a => b.placeState a == 0 || b.placeState a == 5 || b.placeState a == 6) then
      b.modNode x (fun n => { n with cut := none })
    else b) s

/-- DRAINING_COMPLETE (R346): once every engine command of the placement, on the tiles that it holds, has ended, its ports are detached, its usage is
released, its notify item is pushed, and its dependants are examined. -/
def execDrainingComplete (rcb : Nat) (s : State) : Host.Outcome State Fault Refusal :=
  match FMap.find s.nodes rcb with
  | none => .next s
  | some n =>
    if s.placeState rcb = 4 ∧ fieldNat (s.rcb rcb 0) 0 2 = 3 ∧ n.tiles.all (fun t => (s.tile t).place != some rcb || !s.tileCommands t) ∧ s.notifyReady rcb then
      let cause := (n.cause.getD 0).toNat
      let s := n.tiles.foldl (fun (b : State) t => if (b.tile t).place = some rcb then b.releaseTile t else b) (s.dropContext rcb n)
      let s := (((s.dropData rcb).dischargeAll rcb).modRcb rcb 16 (fun x => putField x 16 8 cause)).notifyIfOpen rcb
      let s := s.setPlaceState rcb (if cause = 0 then 5 else 6)
      .next ({ s with passDue := true } : State).endCuts
    else if s.emptyDue rcb ∧ s.notifyReady rcb then .next { s.endEmpty rcb with passDue := true }
    else .next s

/-! ### System software (R208, R209, R339) -/

/-- A strand of the tile is bound to a port (R209, R213). -/
def Tile.binds (y : Tile) (pn : Nat) : Bool := y.strands.any (fun e => e.2.q.any (fun b => b.2.port == pn))

/-- System software attaches a port to which no strand is bound, in a role that the descriptor allows, within the tile's 448 cells
(R209). -/
def State.attachPort (s : State) (t pn q : Nat) (producer : Bool) : State :=
  let y := s.tile t
  let held := ((y.ports.filter (fun e => e.2.consumer)).map (fun e => (s.queue e.2.queue).cap)).sum
  if !validTile t || decide (32 ≤ pn) || (FMap.find y.ports pn).isSome || y.binds pn || (s.queue q).state == 0 ||
      (!producer && (!s.lists q t pn || decide (448 < held + (s.queue q).cap))) then s
  else s.modTile t (fun y => { y with ports := FMap.set y.ports pn (s.newPort t pn q producer) })

/-- System software detaches a port to which no strand is bound; its endpoint's ordinal is kept (R209, R211). -/
def State.detachPort (s : State) (t pn : Nat) : State :=
  match FMap.find (s.tile t).ports pn with
  | none => s
  | some p =>
    if (s.tile t).binds pn then s
    else (s.keepOrdinals t [(pn, p)]).modTile t (fun y => { y with ports := FMap.erase y.ports pn })

/-- Words that system software would write to a region control block leave the tree as R339 has it: the root at address 0, the
partitions below it, program nodes below those, placements as leaves that only PLACE makes, nothing deeper than 6; a node keeps its
place. -/
def State.regionFits (s : State) (a : Nat) (l : List Word) : Bool :=
  let w0 := l.getD 0 0
  let kind := fieldNat w0 0 2
  let up := (l.getD 1 0).toNat
  let x := s.rcb up 0
  if (FMap.find s.nodes a).isSome then fieldNat w0 0 11 == fieldNat (s.rcb a 0) 0 11 && l.getD 1 (s.rcb a 1) == s.rcb a 1
  else
    a % 256 == 0 && decide (a < 2 ^ 56) && (FMap.find s.nodes up).isSome && fieldNat w0 2 3 == fieldNat x 2 3 + 1 && decide (fieldNat x 2 3 < 6) &&
      (match kind with
       | 1 => fieldNat x 0 2 == 0 && (s.partNode (fieldNat w0 5 6)).isNone
       | 2 => (fieldNat x 0 2 == 1 || fieldNat x 0 2 == 2) && fieldNat w0 5 6 == fieldNat x 5 6
       | _ => false)

/-- System software writes words of a region control block from word 0 on; the state of a placement is the supervisor's. A block at an
address of its own makes a node; a budget that is raised may serve requests for tickets (R239, R339, R340). DESIGN CHOICE: words that
would break the tree are not written; R339 states the tree, and no outcome of such a write (assumption 117). -/
def State.writeRegion (s : State) (a : Nat) (l : List Word) : State :=
  if !s.regionFits a l then s
  else
    let n : Node := (FMap.find s.nodes a).getD { home := s.homeOf a }
    let put := fun (m : FMap Word) (i : Nat) =>
      FMap.put 0 m i (if i = 0 ∧ fieldNat (s.rcb a 0) 0 2 = 3 ∧ (FMap.find s.nodes a).isSome then putField (l.getD 0 0) 29 3 (s.placeState a) else l.getD i 0)
    ({ s with nodes := FMap.set s.nodes a { n with words := (List.range (Nat.min l.length 32)).foldl put n.words }, passDue := true } : State).serveSources

/-- An act of system software. -/
def State.softwareAct (s : State) (x : SysAct) : State :=
  match x with
  | .descriptor q l => s.writeDescriptor (q % 65536) l
  | .attach t p q producer => s.attachPort t p q producer
  | .detach t p => s.detachPort t p
  | .region a l => s.writeRegion a l
  | .hostKey part k => { s with hostKeys := s.hostKeys ++ [(part, k)] }
  | .group k g => { s with groups := FMap.set s.groups k g }
  | .peers _ _ => s
  | .pod _ _ _ => s

/-- An act of system software, once the package has booted, or a part of the package's configuration. -/
def State.systemAct (s : State) (x : SysAct) : State :=
  match x with
  | .pod root pkg l => { s with pkg := pkg % 1024, boot := { s.boot with root := root, topology := l } }
  | .peers p l => if p < 16 then { s with links := FMap.set s.links p { FMap.get {} s.links p with peers := l } } else s
  | x => if s.boot.booted then s.softwareAct x else s

/-! ### Beacons (R351 to R357) -/

/-- Word 0 or word 1 of a beacon breaks R351. -/
def badBeacon (a b : Word) : Bool :=
  let k := fieldNat a 0 4
  k = 0 || 4 < k || fieldNat a 4 12 != 0 || fieldNat a 48 16 != 0 || fieldNat b 57 7 != 0

/-- BCN: it pushes a beacon (R352). -/
def hBcn (t : LTail) : Half :=
  let q := t.d.toNat
  let bad := fun (s : State) (w : Who) => badBeacon (s.scalar w t.srcA.loc) (s.scalar w t.srcB.loc)
  { mask := t.k.toNat, srcs := [t.srcA, t.srcB], dests := [.q q], memory := true
    privileged := fun s w => !(s.strand w).system
    traps := fun s w => if bad s w then some (s.qfault w 10 q) else s.pushFault w q
    waits := fun _ cur w => cur.dstWait w (.q q) 1
    effect := fun pre cur w =>
      cur.push w q [{ header := itemHeader 2 0 false 0 ||| 0x100
                      words := [pre.scalar w t.srcA.loc, pre.scalar w t.srcB.loc] }] }

/-- The lowest output port that cannot admit the beacon; ports of one queue need room together (R355). -/
def State.beaconBlocked (s : State) (w : Who) : Option Nat :=
  let outs := s.outputSet w.tile
  (outs.find? (fun e => !s.admits w e.2.queue (outs.filter (fun x => x.2.queue == e.2.queue)).length)).map (·.1)

/-- Push a beacon on a port. -/
def State.pushBeacon (s : State) (w : Who) (pn : Nat) (c : TileCut) : State :=
  match s.port w.tile pn with
  | none => s
  | some p => (s.countPush w pn p.queue [beaconItem c]).post w p.queue [beaconItem c]

/-- QUEUE_FAULT of a BPASS that would push on an output port whose queue is FAULTED (R217, R229). DESIGN CHOICE: BPASS names no q
register, and the field of TRAP_INFO for it is 0 (assumption 107). -/
def State.passFault (s : State) (w : Who) : Option Cause :=
  match s.cutReady w.tile with
  | none => none
  | some c =>
    if !c.cooperative then none
    else
      ((s.outputSet w.tile).find? (fun e => (s.queue e.2.queue).state == 2)).map (fun e =>
        { code := .queueFault, info := queueInfo 4 0 e.1 e.2.queue (s.queue e.2.queue).broken.toNat })

/-- BPASS: it waits until the tile is cut-ready with a cooperative beacon, pushes the beacon on every output port and freezes
the tile; a FAULTED output queue faults as for any push (R217, R229, R355). -/
def hBpass : Half :=
  { memory := true
    traps := fun s w => s.passFault w
    waits := fun pre cur w =>
      match pre.cutReady w.tile with
      | some c =>
        if c.cooperative then (cur.beaconBlocked w).map (fun p => { kind := 2, index := p })
        else some { kind := 3, index := pre.lackingPort w.tile, note := some .nothing }
      | none => some { kind := 3, index := pre.lackingPort w.tile, note := some .nothing }
    effect := fun pre cur w =>
      match pre.cutReady w.tile with
      | none => cur
      | some c => ((cur.outputSet w.tile).foldl (fun (a : State) e => a.pushBeacon w e.1 c) cur).freezeTile w.tile c [] }

/-- A beacon copy reaches its endpoint: it is stored where the tile runs a placement inside the region, and the port closes
unless its queue is a loop-back; at a loop-back it ends the recording of channel state and is removed. It takes an ordinal, which an
armed breakpoint may meet (R211, R353, R357, R393). -/
def State.arriveBeacon (s : State) (f : Flight) : State :=
  match f.kind with
  | .item q e _ (x :: _) failed first =>
    let done := fun (b : State) => b.settle f failed first
    match s.epPort q e with
    | none => if s.waitsForResume q e then s else done s
    | some (t, pn, p) =>
      let c := x.cut
      if bitAt (s.queue q).broken e then s.settle f (failed ||| 2 ^ e) first
      else if p.breakSeq == some c.seq then done s
      else
        match (s.tile t).place with
        | none => done s
        | some a =>
          if !s.inside a c.rgn then done s
          else
            let s := (s.meetBreak t pn f.owner.strand x.header).tracePort t 3 pn f.owner.strand q x.header (BitVec.ofNat 64 p.ordinal) 0
            let first := match first with | none => some p.ordinal | y => y
            if (s.queue q).loopBack then
              (s.modPort t pn (fun p =>
                { p with ordinal := (p.ordinal + 1) % 2 ^ 48, arrivedSeq := some c.seq, moved := true
                         recording := if p.recording == some c.seq then none else p.recording })).settle f failed first
            else (s.modPort t pn (fun p => { storeItems [x] p with closed := true, moved := true })).settle f failed first
  | _ => s

/-- BEACON_ARRIVAL (R353). -/
def execBeaconArrival (f : Nat) (s : State) : Host.Outcome State Fault Refusal :=
  withFlight s f (fun k => match k with | .item _ _ _ items _ _ => items.any (fun x => x.beacon) | _ => false) State.arriveBeacon

/-- The cut that a tile is to freeze for without a BPASS: a forced one that it is cut-ready for, or one that finds its input
set empty (R354). -/
def State.forcedCut (s : State) (t : Nat) : Option TileCut :=
  if (s.tile t).cut.isSome || (s.tile t).place.isNone || (s.tile t).holds then none
  else
    match (s.tile t).cutDue with
    | some c => some c
    | none =>
      match s.cutReady t with
      | some c => if c.cooperative then none else some c
      | none => none

/-- FORCED_CUT_FREEZE (R354): the tile freezes between two bundles. -/
def execForcedCutFreeze (tile : Nat) (s : State) : Host.Outcome State Fault Refusal :=
  match s.forcedCut tile with
  | none => .next s
  | some c => .next (s.freezeTile tile c ((s.outputSet tile).map (·.1)))

/-- BEACON_FORWARD (R354): hardware pushes the beacon on an output port once it is admitted. DESIGN CHOICE: at a
queue that is not OPEN it is dropped (assumption 129). -/
def execBeaconForward (tile port : Nat) (s : State) : Host.Outcome State Fault Refusal :=
  match (s.tile tile).beaconDue.find? (fun e => e.1 == port), s.port tile port with
  | some e, some p =>
    let drop := fun (b : State) => b.modTile tile (fun y => { y with beaconDue := y.beaconDue.filter (· != e) })
    if (s.queue p.queue).state != 1 then .next (drop s)
    else if s.admits ⟨tile, 8⟩ p.queue 1 then .next (drop (s.pushBeacon ⟨tile, 8⟩ port e.2))
    else .next s
  | some e, none => .next (s.modTile tile (fun y => { y with beaconDue := y.beaconDue.filter (· != e) }))
  | none, _ => .next s

/-! ### What the supervisor does at a cut (R359, R360, R385) -/

/-- A cut of a kind whose placements are all FROZEN and on which nothing has been done yet. -/
def State.cutTo (s : State) (rgn kind : Nat) : Option Cut :=
  match s.cutOf rgn with
  | none => none
  | some c => if c.kind = kind ∧ !c.acting ∧ !c.done ∧ s.allFrozen rgn then some c else none

/-- The strands of a tile are stopped, its crews retire, and what they popped is done (R231, R359). -/
def State.stopTile (s : State) (t : Nat) : State :=
  let s := (List.range 8).foldl (fun (b : State) i => if (b.strand ⟨t, i⟩).running then b.notify ⟨t, false, i⟩ else b) s
  let s := (FMap.keys (s.tile t).crews).foldl (fun (b : State) k => b.retireCrew t k) s
  let s := (List.range 8).foldl (fun (b : State) i => (b.freeBlocks ⟨t, i⟩).kill ⟨t, i⟩) s
  s.modTile t (fun y => { y with ports := y.ports.map (fun e => (e.1, { e.2 with outst := [], waiting := [] })) })

/-- A replacing image's data segment is charged to the placement's node and written; none where a budget or the frames do not allow
it (R31, R341). -/
def State.newData (s : State) (a : Nat) (image : List Byte) : Option (Option Nat × State) :=
  let n := dataCharge image
  if !s.withinHbm a n then none
  else
    (s.placeData a (parseImage image)).map (fun (base, s) =>
      match base with
      | none => (none, s)
      | some b => (some b, (s.chargeHbm a n).modNode a (fun x => { x with moreData := x.moreData ++ [(b, n)] })))

/-- A tile is replaced (R359, R385): its ports, their buffers and ordinals and the mirror pair are kept; none while there is no room
for its data segment (assumption 106). -/
def State.replaceTile (s : State) (e : ReplaceEntry) : Option State :=
  match (s.tile e.tile).place with
  | none => some s
  | some a =>
    match FMap.find s.nodes a with
    | none => some s
    | some n =>
      match n.record with
      | none => some s
      | some r =>
        (s.newData a e.image).map (fun (base, s) =>
        let s := s.stopTile e.tile
        let im := parseImage e.image
        let rings := ((r.entries.getD (n.tiles.findIdx (· == e.tile)) ⟨[], [], []⟩).rings)
        s.modTile e.tile (fun y => y.start (s.now e.tile) im r.system e.params base rings))

/-- The tiles of the entries of a replacement record are replaced, in record order (R385). -/
def State.replaceAll (s : State) (l : List ReplaceEntry) : Option State := l.foldl (fun o e => o.bind (fun b => b.replaceTile e)) (some s)

/-- CUT_ACTION_REPLACE (R359, R385). -/
def execCutActionReplace (rgn : Nat) (s : State) : Host.Outcome State Fault Refusal :=
  match s.cutTo rgn 1 with
  | none => .next s
  | some c =>
    match s.replaceAll c.entries with
    | none => .next s
    | some s => .next ((s.recordCut rgn c).thawRegion rgn)

/-- The supervisor begins to quiesce a cut. -/
def State.beginQuiesce (s : State) (rgn kind : Nat) : State :=
  match s.cutTo rgn kind with
  | none => s
  | some c => s.modNode rgn (fun n => { n with cut := some { c with acting := true } })

/-- CUT_ACTION_PREEMPT: the supervisor quiesces; QUIESCE_END saves the context and releases the tiles (R359). -/
def execCutActionPreempt (rgn : Nat) (s : State) : Host.Outcome State Fault Refusal := .next (s.beginQuiesce rgn 2)

/-- CUT_ACTION_STOP: nothing happens to the FROZEN placements; the cut is done, and stays until RESUME or END (R359, R394). -/
def execCutActionStop (rgn : Nat) (s : State) : Host.Outcome State Fault Refusal :=
  match s.cutTo rgn 3 with
  | none => .next s
  | some c => .next ((s.recordCut rgn c).modNode rgn (fun n => { n with cut := some { c with done := true } }))

/-- CUT_ACTION_CHECKPOINT: the supervisor quiesces; QUIESCE_END saves the context and thaws (R359). -/
def execCutActionCheckpoint (rgn : Nat) (s : State) : Host.Outcome State Fault Refusal := .next (s.beginQuiesce rgn 4)

/-- A tile is quiet: no LONG result is owed, no path request, firing or MRED is in progress (R359). -/
def State.quiet (s : State) (t : Nat) : Bool :=
  (s.tile t).strands.all (fun e => e.2.owesNothing) && (s.tile t).c.all (fun e => decide (e.2.now.st ≠ .pending)) &&
    (s.tile t).path.isEmpty && (s.tile t).job.isNone &&
    s.flights.all (fun f => match f.kind with | .mredPart u _ => u != t | .mredSum u _ _ => u != t | _ => true)

/-- The landing-table entries of a placement that are FETCHING or READY are freed (R247, R359). -/
def State.freeLanding (s : State) (a : Nat) : State :=
  s.sources.foldl (fun (b : State) src =>
    if src.1 / 4096 = 2 then
      src.2.entries.foldl (fun (c : State) e =>
        if e.2.node == some a && (e.2.st == .fetching || e.2.st == .ready) then
          (c.freeEntry src.1 e.1).modRcb a 11 (fun x => bumpField x 32 32 1)
        else c) b
    else b) s

/-- A block of 1 MiB of a partition's memory takes a saved context, in a layout of the supervisor's own: its bytes are open (R360,
assumption 47). -/
def State.saveBlock (s : State) (part va : Nat) : State :=
  let s' := s.devWrite part va ((List.range (2 ^ 20)).map (fun i => byteOf (Config.freeWord (s.choices + i / 8)).toNat (i % 8)))
  { s' with choices := s.choices + 2 ^ 17 }

/-- The context of a FROZEN placement is saved (R360): its tiles as they stand, and their blocks in the save area where the node has
one. -/
def State.saveContext (s : State) (a : Nat) (resume : Bool) : State :=
  match FMap.find s.nodes a with
  | none => s
  | some n =>
    let area := (s.rcb (s.setter 5 7 a) 2).toNat
    let s := s.modNode a (fun n => { n with context := n.tiles.map (fun t => (t, s.tile t)), resume := resume })
    if area = 0 then s
    else (List.range n.tiles.length).foldl (fun (b : State) i => b.saveBlock (fieldNat (b.rcb a 0) 5 6) (area + 2 ^ 20 * i)) s

/-- The units of a crew go back to the pool as its tile is released: its rules end and its slots are idle (R194, R359). -/
def State.giveUp (s : State) (t crew : Nat) : State :=
  match FMap.find (s.tile t).crews crew with
  | none => s
  | some c =>
    (((s.retireMatrix t crew c).giveBack t 2 (c.window.map (·.2))).giveBack t 3 (c.os.map (·.2))).giveBack t 4 (c.ac.map (·.2))

/-- A FROZEN placement is pre-empted: saved, its tiles released, QUEUED again (R359). -/
def State.preempt (s : State) (a : Nat) : State :=
  match FMap.find s.nodes a with
  | none => s
  | some n =>
    let s := (s.saveContext a true).freeLanding a
    let s := n.tiles.foldl (fun (b : State) t =>
      ((FMap.keys (b.tile t).crews).foldl (fun (c : State) k => c.giveUp t k) b).modTile t (fun y =>
        { y with place := none, ports := [], crews := [], waiters := [], strands := [], frozen := false, cut := none, cutDue := none
                 beaconDue := [], claim := none, debugStop := none, wsRead := false, tlb := [], rings := [], bars := [], arrayOn := false })) s
    let s := (s.dischargeTiles a).modNode a (fun n => { n with arrival := s.nextId })
    { s.setPlaceState a 0 with nextId := s.nextId + 1, passDue := true }

/-- QUIESCE_END: once every tile of the region is quiet the context is saved; then a pre-empted placement is QUEUED, and a
checkpointed one is thawed (R359). -/
def execQuiesceEnd (rgn : Nat) (s : State) : Host.Outcome State Fault Refusal :=
  match s.cutOf rgn with
  | none => .next s
  | some c =>
    if c.acting ∧ (s.liveTiles rgn).all s.quiet then
      let ps := (s.placementsIn rgn).filter (fun a => s.placeState a == 3)
      let s := s.recordCut rgn c
      if c.kind = 2 then .next ((ps.foldl (fun (b : State) a => b.preempt a) s).modNode rgn (fun n => { n with cut := none }))
      else .next ((ps.foldl (fun (b : State) a => b.saveContext a false) s).thawRegion rgn)
    else .next s

/-! ### Replacement records (R384) -/

/-- What a replacement record gives: its entries, a lazy page that stands in the way, or an error, with the range that could not be
read if there is one (R363, R366, R384). -/
inductive Replacement where
  | ok (l : List ReplaceEntry)
  | lazy (page : Nat)
  | invalid (met : Option (Nat × Nat))
  deriving DecidableEq, Repr

/-- Go on with the bytes of a range. -/
def Got.thenDo (g : Got) (va n : Nat) (k : List Byte → Replacement) : Replacement :=
  match g with
  | .ok l => k l
  | .lazy p => .lazy p
  | .none => .invalid (some (va, n))

/-- The tile of an entry runs a placement inside the region (R384). -/
def State.replaceable (s : State) (rgn t : Nat) : Bool :=
  match (s.tile t).place with
  | none => false
  | some a => s.inside a rgn && (s.placeState a == 2 || s.placeState a == 3)

/-- The entries of a replacement record, if it passes the checks of R384. -/
def State.replaceEntries (s : State) (part rgn : Nat) (l : List Byte) : Nat → Replacement
  | 0 => .ok []
  | n + 1 =>
    match s.replaceEntries part rgn l n with
    | .ok es =>
      let o := 8 + 80 * n
      let t := leAt l o 2
      let va := leAt l (o + 8) 8
      if 2048 ≤ t || !zeroAt l (o + 2) (o + 8) || !s.replaceable rgn t || es.any (fun e => e.tile == t) then .invalid none
      else
        (s.devRead part va 192).thenDo va 192 (fun h =>
          (s.devRead part va (imageLength h)).thenDo va (imageLength h) (fun im =>
            if imageOk im (part == 0) && (s.tile t).ports.all (fun p => s.declared (imageQueues im) p.1 p.2.queue) then
              .ok (es ++ [{ tile := t, image := im, params := (List.range 8).map (fun i => BitVec.ofNat 64 (leAt l (o + 16 + 8 * i) 8)) }])
            else .invalid none))
    | x => x

/-- A replacement record at an address (R384). -/
def State.replaceRecord (s : State) (part rgn va : Nat) : Replacement :=
  (s.devRead part va 8).thenDo va 8 (fun h =>
    let n := leAt h 0 2
    if n = 0 ∨ 64 < n ∨ !zeroAt h 2 8 then .invalid none
    else (s.devRead part va (8 + 80 * n)).thenDo va (8 + 80 * n) (fun l => s.replaceEntries part rgn l n))

/-! ### Meanings -/
-- BEGIN
/-- R352: Pushes a beacon item. -/
def execBcn (t : LTail) (s : State) : Host.Outcome State Fault Refusal := run1 (hBcn t) s

/-- R355: Waits for a cooperative cut, pushes the beacon on all outputs and freezes the tile. -/
def execBpass (s : State) : Host.Outcome State Fault Refusal := run1 (hBpass) s
-- END

end Sys2Proof.Machine
end

