-- ==== Sys2Proof/Machine/Power.lean ====
section
/-!
DEFINITION. Throttle steps, the ramp of the matrix arrays, energy counters and energy caps (R399 to R403).
-/
namespace Sys2Proof.Machine

/-! ### The power control (R400) -/

/-- The average of the samples, in mW. -/
def Power.average (p : Power) : Nat := if p.samples.length = 0 then 0 else p.samples.sum / p.samples.length

/-- The throttle step of a die (R399). -/
def State.step_ (s : State) (d : Nat) : Nat := ((s.die d).pwrDue.getD (s.die d).pwrStep).toNat

/-- Set the throttle step of a die, which governs from the next fabric cycle on (R399); a change is recorded in its lantern with the old step and the module power (R400, R405). -/
def State.setStep (s : State) (d n : Nat) : State :=
  let old := s.step_ d
  if n = old then s
  else
    (s.modDie d (fun x => { x with pwrDue := some (BitVec.ofNat 3 n) })).record d 3 n 0x7FF 0 (BitVec.ofNat 64 old)
      (BitVec.ofNat 64 s.power.average)

/-- A temperature of a sample; a sample without one says that the die is cool. -/
def Power.temp (p : Power) (d : Nat) : Int := p.temps.getD d 0

/-- A die above 105 °C is held until it falls below 100 °C (R400). -/
def Power.isHot (p : Power) (d : Nat) : Bool := decide (105 < p.temp d) || (p.hot.contains d && decide (100 ≤ p.temp d))

/-- The controller adjusts the step of a die; it raises it and lowers it at most once per 4 µs, which are four samples (R400). -/
def State.adjust (s : State) (d : Nat) : State :=
  let p := s.power
  let up := FMap.get 4 p.sinceRaise d
  let down := FMap.get 4 p.sinceLower d
  let old := s.step_ d
  let (n, r, l) :=
    if p.isHot d then (7, up, down)
    else if p.average > 1000 * p.cap ∧ old < 7 ∧ 4 ≤ up then (old + 1, 0, down)
    else if 100 * p.average < 95 * (1000 * p.cap) ∧ 0 < old ∧ 4 ≤ down then (old - 1, up, 0)
    else (old, up, down)
  let s := s.setStep d n
  { s with power := { s.power with
      sinceRaise := FMap.put 4 s.power.sinceRaise d (Nat.min (r + 1) 4)
      sinceLower := FMap.put 4 s.power.sinceLower d (Nat.min (l + 1) 4)
      hot := if p.isHot d then (if p.hot.contains d then s.power.hot else s.power.hot ++ [d]) else s.power.hot.filter (· != d) } }

/-- POWER_SAMPLE (R400): the module power of a microsecond and the temperatures of the dies. -/
def execPowerSample (milliwatts : Nat) (temps : List Int) (s : State) : Host.Outcome State Fault Refusal :=
  let p := { s.power with
    samples := (milliwatts :: s.power.samples).take 10, temps := temps, tick := (s.die 0).clock / 4000, reading := none }
  let s := (List.range 4).foldl (fun (a : State) d => a.adjust d) { s with power := p }
  let high := s.power.average > 1000 * s.power.cap
  let all7 := (List.range 4).all (fun d => s.step_ d == 7)
  .next { s with power := { s.power with
    overCap := if high ∧ all7 then s.power.overCap + 1 else 0
    limit := s.power.limit && decide high } }

/-- POWER_LIMIT (R400): every die has been at step 7 with the average above the cap for 1 ms. Its record's details are not
stated (assumption 4). -/
def execPowerLimit (s : State) : Host.Outcome State Fault Refusal :=
  if 1000 ≤ s.power.overCap ∧ !s.power.limit then
    let s := { s with power := { s.power with limit := true } }
    .next ((List.range 4).foldl (fun (a : State) d =>
      let (x, a) := a.freeWord
      let (y, a) := a.freeWord
      a.record d 9 0 0x7FF 0 x y) s)
  else .next s

/-! ### The ramp (R401) -/

/-- The wave of a tile (R401). -/
def waveOf (t : Nat) : Nat := (rowOf t + colOf t) % 8

/-- The tiles of a placement in a wave. -/
def State.waveTiles (s : State) (rcb wave : Nat) : List Nat :=
  match FMap.find s.nodes rcb with
  | none => []
  | some n => n.tiles.filter (fun t => waveOf t == wave)

/-- RAMP_WAVE_ENABLE (R401): 256 ns, which are 1,024 cycles, per wave after the placement entered RUN or was thawed. -/
def execRampWaveEnable (rcb wave : Nat) (s : State) : Host.Outcome State Fault Refusal :=
  if s.placeState rcb = 2 ∧ fieldNat (s.rcb rcb 0) 0 2 = 3 then
    .next ((s.waveTiles rcb wave).foldl (fun (a : State) t =>
      if (a.tile t).rampFrom + 1024 * wave ≤ a.now t + 1 then a.modTile t (fun y => { y with arrayOn := true }) else a) s)
  else .next s

/-- The cycle in which a placement entered FROZEN or DRAINING. -/
def State.coolFrom (s : State) (a : Nat) : Nat := match FMap.find s.nodes a with | none => 0 | some n => n.coolFrom

/-- RAMP_WAVE_DISABLE (R401): the placement is FROZEN or DRAINING, the wave's time has come, 256 ns per wave, and the last firing of the
array has ended. -/
def execRampWaveDisable (rcb wave : Nat) (s : State) : Host.Outcome State Fault Refusal :=
  if (s.placeState rcb = 3 ∨ s.placeState rcb = 4) ∧ fieldNat (s.rcb rcb 0) 0 2 = 3 then
    .next ((s.waveTiles rcb wave).foldl (fun (a : State) t =>
      if (a.tile t).job.isNone ∧ a.coolFrom rcb + 1024 * wave ≤ a.now t + 1 then a.modTile t (fun y => { y with arrayOn := false }) else a) s)
  else .next s

/-! ### Energy (R402, R403) -/

/-- A count that never decreases: it stays at its maximum (R340, R402). -/
def addSaturating (x : Word) (n : Nat) : Word := BitVec.ofNat 64 (Nat.min (x.toNat + n) (2 ^ 64 - 1))

/-- ENERGY_UPDATE (R402): a tile has used energy, which its home node and every ancestor are charged. -/
def execEnergyUpdate (tile microjoules : Nat) (s : State) : Host.Outcome State Fault Refusal :=
  if validTile tile then
    let s := s.modTile tile (fun y => { y with eTile := addSaturating y.eTile microjoules, energyAt := s.now tile / 4096 })
    .next ((s.lineage 7 (s.homeNode tile)).foldl (fun (a : State) n => a.modRcb n 7 (fun x => addSaturating x microjoules)) s)
  else .next s

/-- A region's energy has reached its cap, which is not zero (R403). -/
def State.capReached (s : State) (rgn : Nat) : Bool :=
  let cap := (s.rcb rgn 6).toNat
  (FMap.find s.nodes rgn).isSome && s.setsField 11 rgn && cap != 0 && decide (cap ≤ (s.rcb rgn 7).toNat)

/-- A region has reached its energy cap, it has placements to cut, and no cut of it is in progress (R403). -/
def State.energyDue (s : State) (rgn : Nat) : Bool := s.capReached rgn && (s.cutOf rgn).isNone && !(s.liveTiles rgn).isEmpty

/-- The next sequence of a region's cuts (R384). -/
def State.nextSeq (s : State) (rgn : Nat) : Nat := (fieldNat (s.rcb rgn 14) 0 32 + 1) % 2 ^ 32

/-- The supervisor cuts a region with a STOP beacon, records ENERGY_CAP and reports to the host; the details of the record
are not stated (R403, R405, assumption 4). -/
def State.energyCut (s : State) (rgn : Nat) : State :=
  let sup := s.supervisor rgn
  let (x, s) := s.freeWord
  let (y, s) := s.freeWord
  let s := (s.startCut rgn 3 (s.nextSeq rgn) [] true).record (dieOf sup) 10 0 sup 0 x y
  { s with outbox := s.outbox ++ [.energyCap rgn] }

/-- ENERGY_CAP (R403). -/
def execEnergyCap (rgn : Nat) (s : State) : Host.Outcome State Fault Refusal := .next (if s.energyDue rgn then s.energyCut rgn else s)

/-! ### Meanings -/
-- BEGIN
-- END

end Sys2Proof.Machine
end

