-- ==== Sys2Proof/Machine/HostCalls.lean ====
section
/-!
DEFINITION. The host: datagrams, sessions, sequences and the operations of the network service (R374 to R380, R404, R413).
-/
namespace Sys2Proof
open Machine

/-! ### The fields of a frame (R374) -/

/-- The operation of a frame (R374). -/
def Frame.op (f : Frame) : Nat := leAt f.bytes 2 1

/-- Its partition. -/
def Frame.part (f : Frame) : Nat := leAt f.bytes 4 1

/-- Its session. -/
def Frame.session (f : Frame) : Nat := leAt f.bytes 8 4

/-- Its sequence. -/
def Frame.seq (f : Frame) : Nat := leAt f.bytes 12 8

/-- Its payload bytes. -/
def Frame.length (f : Frame) : Nat := leAt f.bytes 20 2

/-- The payload of a frame. -/
def Frame.payload (f : Frame) : List Byte := (f.bytes.drop 32).take f.length

/-- The tag of a frame. -/
def Frame.tag (f : Frame) : List Byte := f.bytes.drop (32 + f.length)

/-- A frame is well formed: its length matches the datagram, and its zero fields are zero (R374). -/
def Frame.wellFormed (f : Frame) : Bool :=
  decide (64 ≤ f.bytes.length) && decide (f.length ≤ 8192) && f.bytes.length == 64 + f.length &&
    decide (leAt f.bytes 3 1 < 4) && decide (f.part < 64) && zeroAt f.bytes 5 8 && zeroAt f.bytes 22 32

/-- The selector of a HEALTH or TRACE request. -/
def Frame.selector (f : Frame) : Nat := leAt f.payload 0 1

/-- An operation code or a selector that names no operation. -/
def Frame.unknown (f : Frame) : Bool :=
  f.op == 0 || decide (14 < f.op) || (f.op == 9 && !(decide (1 ≤ f.selector) && decide (f.selector ≤ 3))) ||
    (f.op == 10 && !(decide (1 ≤ f.selector) && decide (f.selector ≤ 11)))

end Sys2Proof

namespace Sys2Proof.Machine

/-! ### Frames (R374) -/

/-- Zero bytes. -/
def zeros (n : Nat) : List Byte := List.replicate n 0

/-- The customisation string "MX4 RPC". -/
def rpcString : List Byte := [0x4D, 0x58, 0x34, 0x20, 0x52, 0x50, 0x43]

/-- The tag that a key gives to header and payload (R374). -/
def rpcTag (key l : List Byte) : List Byte := kmac256 key rpcString l 32

/-- The network service takes a frame: a HELLO without session and tag, or a frame of a known session whose tag holds
(R374, R375). -/
def State.takes (s : State) (f : Frame) : Bool :=
  f.wellFormed &&
    (if f.op = 1 then f.session == 0 && f.tag.all (fun b => b == 0)
     else
       match FMap.find s.sessions f.session with
       | none => false
       | some k => f.tag == rpcTag k.keyIn (f.bytes.take (32 + f.length)))

/-- FRAME_DISCARDED (R374): the frame is counted and gets no reply. -/
def execFrameDiscarded (fr : Frame) (s : State) : Host.Outcome State Fault Refusal :=
  .next (if s.takes fr then s else { s with discarded := s.discarded + 1 })

/-- A reply frame (R374, R377): its header repeats operation, partition, session and sequence; the error flag says that
the status is not OK. -/
def replyFrame (version : Nat × Nat) (op part session seq : Nat) (key : Option (List Byte)) (payload : List Byte) : List Byte :=
  let flags : Nat := if payload.headD 0 = 0 then 1 else 3
  let l := leBytes version.1 1 ++ leBytes version.2 1 ++ leBytes op 1 ++ leBytes flags 1 ++ leBytes part 1 ++ zeros 3 ++ leBytes session 4 ++
    leBytes seq 8 ++ leBytes payload.length 2 ++ zeros 10 ++ payload
  l ++ (match key with | none => zeros 32 | some k => rpcTag k l)

/-! ### Requests (R375 to R377) -/

/-- A request that a session sent and the device accepted. -/
structure Req where
  session : Nat
  seq : Nat
  frame : Frame
  deriving DecidableEq, Repr

/-- The payload of a request. -/
def Req.payload (r : Req) : List Byte := r.frame.payload

/-- The partition of a request. -/
def Req.part (r : Req) : Nat := r.frame.part

/-- The tile of the network service of a request's session. -/
def State.serviceTile (s : State) (r : Req) : Nat := match FMap.find s.sessions r.session with | none => 3 | some k => k.tile

/-- The version that a session has for an interface (R375, R417). -/
def Session.version (k : Session) (i : Nat) : Option (Nat × Nat) := FMap.find k.versions i

/-- A request is answered: the reply is stored and sent (R376). -/
def State.reply (s : State) (r : Req) (payload : List Byte) : State :=
  match FMap.find s.sessions r.session with
  | none => s
  | some k =>
    let b := replyFrame ((k.version 0).getD (0, 0)) r.frame.op r.part r.session r.seq (some k.keyOut) payload
    { s with sessions := FMap.set s.sessions r.session
               { k with replies := k.replies.map (fun e => if e.1 = r.seq then (e.1, some b) else e) }
             outbox := s.outbox ++ [.datagram b] }

/-- A reply that is a status alone (R377): 0 OK, 1 EXHAUSTED, 2 DENIED, 3 INVALID, 4 UNREGISTERED, 5 SERVICE_LOST, 6
VERSION. -/
def State.replyStatus (s : State) (r : Req) (status : Nat) : State := s.reply r (leBytes status 1)

/-- A sequence is accepted: it lies above all accepted ones, or within the 64 below the highest and is new (R376). -/
def Session.accepts (k : Session) (seq : Nat) : Bool :=
  match k.highest with
  | none => true
  | some h => decide (h < seq) || (decide (h ≤ seq + 64) && !k.accepted.contains seq)

/-- A sequence is accepted: the replies of the last 64 accepted ones are kept, and which sequences of the window have been
accepted (R376). -/
def Session.accept (k : Session) (seq : Nat) : Session :=
  let h := Nat.max (k.highest.getD 0) seq
  { k with highest := some h
           accepted := (k.accepted ++ [seq]).filter (fun n => decide (h ≤ n + 64))
           replies := (k.replies ++ [(seq, none)]).drop (k.replies.length + 1 - 64) }

/-- A frame of a session is served: a new sequence is accepted and performed, a repeat of one of the last 64 is answered
with the stored reply, any other is discarded; a frame of another partition is denied (R375, R376). -/
def State.serve (s : State) (f : Frame) (go : State → Req → State) : State :=
  if !s.takes f then s
  else
    match FMap.find s.sessions f.session with
    | none => s
    | some k =>
      match k.replies.find? (fun e => e.1 == f.seq) with
      | some (_, some b) => { s with outbox := s.outbox ++ [.datagram b] }
      | some (_, none) => s
      | none =>
        if k.accepts f.seq then
          let s := { s with sessions := FMap.set s.sessions f.session (k.accept f.seq) }
          let r : Req := ⟨f.session, f.seq, f⟩
          if k.part ≠ f.part then s.replyStatus r 2 else go s r
        else s

/-- The request behind a call. -/
def Call.req (c : Call) : Req := ⟨c.session, c.seq, c.frame⟩

/-- A call has come to its end. -/
def State.dropCall (s : State) (n : Nat) : State := { s with calls := FMap.erase s.calls n }

/-- An accepted request waits. -/
def State.wait (s : State) (r : Req) (k : CallKind) : State :=
  { s with calls := FMap.set s.calls s.nextId { session := r.session, seq := r.seq, frame := r.frame, kind := k }, nextId := s.nextId + 1 }

/-- A request meets a lazy page: it faults as an access of its network service, with kind R or W, and waits (R367, R377).
The strand among the service's four and the IP are open (R371, assumption 3, assumption 4). -/
def State.waitPage (s : State) (r : Req) (page : Nat) (write : Bool) : State :=
  let t := s.serviceTile r
  let d := dieOf t
  let id := s.nextId
  let s := s.wait r (.page r.part page)
  match (s.die d).merge.find? (fun m => m.isFor r.part page) with
  | some m =>
    let m' := { m with count := m.count + 1, write := m.write || write, calls := m.calls ++ [id] }
    let s := s.modDie d (fun x => { x with merge := x.merge.map (fun y => if y.isFor r.part page then m' else y) })
    if m.walking then s else s.updateFault d m'
  | none =>
    if (s.die d).merge.length ≥ 512 then s
    else
      let (i, s) := s.choose 4
      let (x, s) := s.freeWord
      s.modDie d (fun y => { y with merge := y.merge ++ [
        { part := r.part, page := page, walking := true, kind := natOfBool write, write := write, count := 1, tile := t, strand := i
          ip := fieldNat x 0 16, engine := 0, faulters := [], engines := [], seq := 0, calls := [id] }] })

/-- The malformed entry that stands in the way of a request, with the address that met it: the first byte of a range that the walk
does not reach (R363). -/
def State.malformedAt (s : State) (part va n : Nat) : Option (Nat × Nat) :=
  (List.range n).findSome? (fun i =>
    if 2 ^ 56 ≤ va + i then none
    else match s.walk part (va + i) with | .unregistered bad => some (bad.map (fun a => (va + i, a))) | _ => none) |>.join

/-- The lantern records a malformed entry that a request of the host has met, with the page as for any walk; the strand among the
network service's four is open (R363, R371, R405, assumption 3). -/
def State.noteMalformed (s : State) (r : Req) (va n : Nat) : State :=
  match s.malformedAt r.part va n with
  | none => s
  | some (v, a) =>
    let t := s.serviceTile r
    let (i, s) := s.choose 4
    s.record (dieOf t) 6 0x07 t i (BitVec.ofNat 64 (v / 2 ^ 21 * 2 ^ 21)) (BitVec.ofNat 64 a)

/-- The node of a partition that a session may name: any for partition 0, its own otherwise (R380). -/
def State.mayName (s : State) (r : Req) (a : Nat) : Bool := r.part == 0 || fieldNat (s.rcb a 0) 5 6 == r.part

/-! ### HELLO (R375, R379, R417) -/

/-- The version entries of a HELLO: interface, major, minor (R379). -/
def helloEntries (l : List Byte) : List (Nat × Nat × Nat) :=
  (List.range (leAt l 56 1)).map (fun i => (leAt l (64 + 4 * i) 1, leAt l (65 + 4 * i) 1, leAt l (66 + 4 * i) 1))

/-- The payload of a HELLO has its layout (R378, R379). -/
def helloOk (l : List Byte) : Bool :=
  let n := leAt l 56 1
  decide (1 ≤ n) && decide (n ≤ 16) && l.length == 64 + 4 * n && zeroAt l 57 64 && (List.range n).all (fun i => leAt l (67 + 4 * i) 1 == 0)

/-- The versions that the device lists: image format 1.0; what it lists for the other interfaces is open (R417,
assumption 12). -/
def deviceVersions (i : Nat) : List (Nat × Nat) := if i = 2 then [(1, 0)] else Config.versions i

/-- The version that partners choose: the highest major that both list, and the lower of the minors (R417). -/
def chooseVersion (a b : List (Nat × Nat)) : Option (Nat × Nat) :=
  let both := a.flatMap (fun x => (b.filter (fun y => y.1 == x.1)).map (fun y => (x.1, Nat.min x.2 y.2)))
  both.foldl (fun (o : Option (Nat × Nat)) x =>
    match o with
    | none => some x
    | some y => if y.1 < x.1 then some x else some y) none

/-- The versions chosen for the interfaces that both sides list. -/
def helloVersions (l : List Byte) : FMap (Nat × Nat) :=
  [0, 2, 3, 4].filterMap (fun i =>
    (chooseVersion (((helloEntries l).filter (fun e => e.1 == i)).map (fun e => e.2)) (deviceVersions i)).map (fun v => (i, v)))

/-- Exactly n bytes of a list. -/
def exactly (n : Nat) (l : List Byte) : List Byte := (l ++ zeros n).take n

/-- The device's signature over the SHAKE256 digest of a list (R375, R406, R413). -/
def signedBy (l : List Byte) : List Byte := exactly 114 (Config.sign (shake256 l 64))

/-- HELLO: it opens a session, unless its payload breaks its layout, the host key is not listed for the partition, or the
RPC protocol has no common major (R375, R379). -/
def State.hello (s : State) (f : Frame) : State :=
  let l := f.payload
  let answer := fun (b : State) (v : Nat × Nat) (p : List Byte) =>
    { b with outbox := b.outbox ++ [.datagram (replyFrame v 1 f.part 0 f.seq none p)] }
  if !helloOk l then answer s (0, 0) (leBytes 3 1)
  else if !s.hostKeys.contains (f.part, l.take 56) then answer s (0, 0) (leBytes 2 1)
  else
    let vs := helloVersions l
    match FMap.find vs 0 with
    | none => answer s (0, 0) (leBytes 6 1)
    | some v =>
      let (c, s) := s.choose (2 ^ 32 - 1)
      let id := if (FMap.find s.sessions (c + 1)).isNone then c + 1 else (FMap.keys s.sessions).foldl Nat.max 0 + 1
      let (d, s) := s.choose 4
      let key := exactly 56 (Config.sessionKey id)
      let z := Config.sharedSecret id (l.take 56)
      let ks := shake256 (z ++ l.take 56 ++ key) 64
      let body := leBytes 0 1 ++ zeros 3 ++ leBytes id 4 ++ key ++ leBytes vs.length 1 ++ zeros 7 ++
        vs.flatMap (fun e => leBytes e.1 1 ++ leBytes e.2.1 1 ++ leBytes e.2.2 1 ++ zeros 1)
      let k : Session := { part := f.part, keyIn := ks.take 32, keyOut := ks.drop 32, versions := vs, tile := 512 * d + 3 }
      answer { s with sessions := FMap.set s.sessions id k } v (body ++ signedBy (l ++ body))

/-- HOST_HELLO. -/
def execHostHello (fr : Frame) (s : State) : Host.Outcome State Fault Refusal :=
  .next (if s.takes fr && fr.op == 1 then s.hello fr else s)

/-! ### REGISTER and UNREGISTER (R366, R377) -/

/-- REGISTER. -/
def State.doRegister (s : State) (r : Req) : State :=
  let l := r.payload
  let base := leAt l 0 8
  let len := leAt l 8 8
  let flags := leAt l 16 1
  if l.length ≠ 24 ∨ 4 ≤ flags ∨ !zeroAt l 17 24 ∨ base % 2 ^ 21 ≠ 0 ∨ len % 2 ^ 21 ≠ 0 ∨ len = 0 ∨ 2 ^ 56 < base + len then s.replyStatus r 3
  else
    match s.partNode r.part with
    | none => s.replyStatus r 2
    | some a =>
      if s.overlaps r.part base len then s.replyStatus r 3
      else if !s.withinHbm a len then s.replyStatus r 1
      else
        let lazy := flags.testBit 0
        let write := flags.testBit 1
        match (if lazy then s.lazyRange r.part (pageList base len) else s.mapRange r.part write (pageList base len)) with
        | none => s.replyStatus r 1
        | some s =>
          (({ s with registered := s.registered ++ [{ part := r.part, base := base, len := len, lazy := lazy, write := write }] } : State).chargeHbm a len).replyStatus r 0

/-- HOST_REGISTER. -/
def execHostRegister (fr : Frame) (s : State) : Host.Outcome State Fault Refusal :=
  .next (if fr.op == 2 then s.serve fr State.doRegister else s)

/-- A registered range without the pages of another one. -/
def Registered.without (x : Registered) (part base len : Nat) : List Registered :=
  if x.part = part ∧ base < x.base + x.len ∧ x.base < base + len then
    [{ x with len := base - x.base }, { x with base := base + len, len := x.base + x.len - (base + len) }].filter (fun y => decide (0 < y.len))
  else [x]

/-- Every page of a range is registered in the partition. -/
def State.allRegistered (s : State) (part base len : Nat) : Bool :=
  (pageList base len).all (fun p => s.overlaps part p (2 ^ 21))

/-- UNREGISTER: the entries are cleared, INVALIDATE goes to all dies, and the frames are freed after the replies (R370, R377). -/
def State.doUnregister (s : State) (r : Req) : State :=
  let l := r.payload
  let base := leAt l 0 8
  let len := leAt l 8 8
  if l.length ≠ 16 ∨ base % 2 ^ 21 ≠ 0 ∨ len % 2 ^ 21 ≠ 0 ∨ len = 0 ∨ 2 ^ 56 < base + len then s.replyStatus r 3
  else if !s.allRegistered r.part base len then s.replyStatus r 4
  else
    let s := s.retirePages r.part (dieOf (s.serviceTile r)) (pageList base len)
      (fun k => { session := r.session, seq := r.seq, frame := r.frame, kind := k })
    let s := { s with registered := s.registered.flatMap (fun (x : Registered) => x.without r.part base len) }
    match s.partNode r.part with
    | none => s
    | some a => s.dischargeHbm a len

/-- HOST_UNREGISTER. -/
def execHostUnregister (fr : Frame) (s : State) : Host.Outcome State Fault Refusal :=
  .next (if fr.op == 3 then s.serve fr State.doUnregister else s)

/-! ### PLACE and BEACON (R344, R345, R351, R384) -/

/-- A range of a record that could not be read: a malformed entry is recorded (R363). -/
def State.noteMet (s : State) (r : Req) (met : Option (Nat × Nat)) : State :=
  match met with
  | none => s
  | some (va, n) => s.noteMalformed r va n

/-- PLACE. -/
def State.doPlace (s : State) (r : Req) : State :=
  let l := r.payload
  let k := FMap.find s.sessions r.session
  if l.length ≠ 8 then s.replyStatus r 3
  else if (k.bind (fun k => k.version 2)).isNone then s.replyStatus r 6
  else
    match s.readRecord r.part (leAt l 0 8) with
    | .lazy p => s.waitPage r p false
    | .invalid met => (s.noteMet r met).replyStatus r 3
    | .ok b im =>
      if s.recordOk r.part b im then
        let (a, s) := s.submit r.part (leAt l 0 8) b im
        s.reply r (zeros 8 ++ leBytes a 8)
      else s.replyStatus r 3

/-- HOST_PLACE. -/
def execHostPlace (fr : Frame) (s : State) : Host.Outcome State Fault Refusal :=
  .next (if fr.op == 4 then s.serve fr State.doPlace else s)

/-- BEACON: the supervisor cuts a region; REPLACE carries a replacement record, and needs the image format (R377, R384). -/
def State.doBeacon (s : State) (r : Req) : State :=
  let l := r.payload
  let rgn := leAt l 0 8
  let kind := leAt l 8 1
  let k := FMap.find s.sessions r.session
  let start := fun (es : List ReplaceEntry) =>
    let seq := s.nextSeq rgn
    (s.startCut rgn kind seq es false).reply r (zeros 4 ++ leBytes seq 4)
  if kind = 0 ∨ 4 < kind ∨ !zeroAt l 9 16 ∨ l.length ≠ (if kind = 1 then 24 else 16) then s.replyStatus r 3
  else if !s.validNode rgn then s.replyStatus r 3
  else if !s.mayName r rgn then s.replyStatus r 2
  else if (s.cutOf rgn).isSome then s.replyStatus r 3
  else if kind ≠ 1 then start []
  else if (k.bind (fun k => k.version 2)).isNone then s.replyStatus r 6
  else
    match s.replaceRecord r.part rgn (leAt l 16 8) with
    | .lazy p => s.waitPage r p false
    | .invalid met => (s.noteMet r met).replyStatus r 3
    | .ok es => start es

/-- HOST_BEACON. -/
def execHostBeacon (fr : Frame) (s : State) : Host.Outcome State Fault Refusal :=
  .next (if fr.op == 5 then s.serve fr State.doBeacon else s)

/-! ### READ and WRITE (R317, R377) -/

/-- The rights of a session in the windows: those of its partition, partition 0's of a system program. -/
def Req.rights (r : Req) : Rights := { part := r.part, system := r.part == 0, wsRead := r.part == 0 }

/-- What one byte of a request reaches. -/
inductive HostByte where
  | ok (t : Target)
  | lazy (page : Nat)
  | status (n : Nat)
  deriving DecidableEq, Repr

/-- A byte of a READ or WRITE; the write flag of a page does not bind the host (R362, R377). -/
def State.hostByte (s : State) (r : Req) (va kind : Nat) : HostByte :=
  if va < 2 ^ 56 then
    match s.reach r.part va with
    | .at pa => .ok (.hbm pa)
    | .lazy p => .lazy p
    | .none => .status 4
  else if 2 ^ 57 ≤ va then .status 4
  else
    match s.checkWindows r.rights va kind with
    | .ok t => .ok t
    | .bad c => .status (if c.code == .unregistered then 4 else 2)
    | .miss k => .lazy k.page

/-- The bytes of a READ or WRITE, or what stands in its way. -/
inductive HostSpan where
  | ok (ts : List Target)
  | lazy (page : Nat)
  | status (n : Nat)
  deriving DecidableEq, Repr

/-- n bytes from an address. -/
def State.hostSpan (s : State) (r : Req) (va kind : Nat) : Nat → HostSpan
  | 0 => .ok []
  | n + 1 =>
    match s.hostSpan r va kind n with
    | .ok ts =>
      match s.hostByte r (va + n) kind with
      | .ok t => .ok (ts ++ [t])
      | .lazy p => .lazy p
      | .status x => .status x
    | x => x

/-- The byte stands in a tile's window. -/
def Target.inTile : Target → Bool
  | .tile _ _ => true
  | _ => false

/-- Write the bytes of a WRITE whose places meet a condition; a word that is written whole loses its poison (R408). -/
def State.writeBytes (s : State) (keep : Target → Bool) (ts : List Target) (l : List Byte) : State :=
  (List.range l.length).foldl (fun (a : State) i =>
    match ts[i]? with
    | none => a
    | some t =>
      if !keep t then a
      else
        let a := a.writeTarget t 1 (l.getD i 0).toNat
        match t with
        | .hbm pa => if pa % 8 = 7 ∧ 7 ≤ i then { a with hbmPoison := FMap.put false a.hbmPoison (pa / 8) false } else a
        | .tile u off =>
          let pa := (a.tile u).winPhys off
          if pa % 8 = 7 ∧ 7 ≤ i then a.modTile u (fun y => y.cleanse pa) else a
        | _ => a) s

/-- The tiles and the offsets, in units of 64 bytes, that a READ or WRITE reaches in tile windows. -/
def windowParts (ts : List Target) : List (Nat × Nat) :=
  (ts.filterMap (fun t => match t with | .tile u off => some (u, off / 64) | _ => none)).dedup

/-- A READ or WRITE has reached all its bytes (R377): what lies outside the tile windows is read or written now. -/
def State.finishAccess (s : State) (r : Req) (ts : List Target) (got : FMap Byte) : State :=
  if r.frame.op = 6 then
    s.reply r (zeros 8 ++ (List.range ts.length).map (fun i =>
      match FMap.find got i, ts[i]? with
      | some b, _ => b
      | none, some t => BitVec.ofNat 8 (s.readTarget t 1)
      | none, none => 0))
  else (s.writeBytes (fun t => !t.inTile) ts (r.payload.drop 8)).replyStatus r 0

/-- A READ or WRITE goes to its bytes: those in a tile window are a remote access at the tile, one request for every unit of 64
bytes; they are sent by a strand of the network service, which one is open (R163, R164, R371, R377, assumption 3). -/
def State.hostAccess (s : State) (r : Req) (ts : List Target) : State :=
  match windowParts ts with
  | [] => s.finishAccess r ts []
  | l =>
    let n := s.nextId
    let t := s.serviceTile r
    let (i, s) := (s.wait r (.window ts [])).choose 4
    l.foldl (fun (a : State) x => a.send ⟨t, i⟩ 1 none (.host n x.1 (64 * x.2))) s

/-- A bank serves a READ or WRITE for one unit, and watchpoints see it (R163, R377, R395, R396); with the last of them the
request is answered. -/
def State.hostUnit (s : State) (f : Flight) : State :=
  match f.kind with
  | .host n t off =>
    let s := s.dropFlight f.id
    match FMap.find s.calls n with
    | none => s
    | some c =>
      match c.kind with
      | .window ts got =>
        let here := fun (x : Target) => match x with | .tile u o => u == t && o / 64 == off / 64 | _ => false
        let idx := (List.range ts.length).filter (fun i => (ts[i]?).any here)
        let r := c.req
        let first := match ts[idx.headD 0]? with | some (.tile _ o) => o | _ => off
        let s := s.remoteStrike f.owner t ((s.tile t).winPhys first) idx.length (r.frame.op == 6) (r.frame.op == 7)
        let got := idx.foldl (fun (m : FMap Byte) i => FMap.set m i (match ts[i]? with
          | some x => BitVec.ofNat 8 (s.readTarget x 1)
          | none => 0)) got
        let s := if r.frame.op = 7 then s.writeBytes here ts (r.payload.drop 8) else s
        let s := { s with calls := FMap.set s.calls n { c with kind := .window ts got } }
        if s.flights.any (fun g => match g.kind with | .host m _ _ => m == n | _ => false) then s
        else (s.dropCall n).finishAccess r ts got
      | _ => s
  | _ => s

/-- READ. -/
def State.doRead (s : State) (r : Req) : State :=
  let l := r.payload
  let n := leAt l 8 4
  if l.length ≠ 16 ∨ n = 0 ∨ 8184 < n ∨ !zeroAt l 12 16 then s.replyStatus r 3
  else
    match s.hostSpan r (leAt l 0 8) 0 n with
    | .lazy p => s.waitPage r p false
    | .status x => (s.noteMalformed r (leAt l 0 8) n).replyStatus r x
    | .ok ts => s.hostAccess r ts

/-- HOST_READ. -/
def execHostRead (fr : Frame) (s : State) : Host.Outcome State Fault Refusal :=
  .next (if fr.op == 6 then s.serve fr State.doRead else s)

/-- WRITE. -/
def State.doWrite (s : State) (r : Req) : State :=
  let l := r.payload
  if l.length < 9 ∨ 8192 < l.length then s.replyStatus r 3
  else
    match s.hostSpan r (leAt l 0 8) 1 (l.length - 8) with
    | .lazy p => s.waitPage r p true
    | .status x => (s.noteMalformed r (leAt l 0 8) (l.length - 8)).replyStatus r x
    | .ok ts => s.hostAccess r ts

/-- HOST_WRITE. -/
def execHostWrite (fr : Frame) (s : State) : Host.Outcome State Fault Refusal :=
  .next (if fr.op == 7 then s.serve fr State.doWrite else s)

/-! ### PUSH (R377, R378) -/

/-- PUSH: the network service pushes; a full queue makes it wait. -/
def State.doPush (s : State) (r : Req) : State :=
  let l := r.payload
  let q := leAt l 0 2
  let h : BitVec 16 := BitVec.ofNat 16 (leAt l 2 2)
  let n := (l.length - 8) / 8
  let k := FMap.find s.sessions r.session
  let d := s.queue q
  let it : Item := { header := h, words := (List.range n).map (fun i => BitVec.ofNat 64 (leAt l (8 + 8 * i) 8)) }
  let w : Who := ⟨s.serviceTile r, 0⟩
  if l.length < 16 ∨ 72 < l.length ∨ l.length % 8 ≠ 0 ∨ !zeroAt l 4 8 ∨ bitAt h 8 ∨ fieldNat h 13 3 + 1 ≠ n then s.replyStatus r 3
  else if (k.bind (fun k => k.version 3)).isNone then s.replyStatus r 6
  else if d.state = 0 then s.replyStatus r 3
  else if r.part ≠ 0 ∧ (d.system ∨ d.part ≠ r.part) then s.replyStatus r 2
  else if d.type = 2 ∨ d.state ≠ 1 then s.replyStatus r 3
  else if s.admits w q 1 then (s.post w q [it]).replyStatus r 0
  else s.wait r (.push q it (s.now w.tile))

/-- HOST_PUSH. -/
def execHostPush (fr : Frame) (s : State) : Host.Outcome State Fault Refusal :=
  .next (if fr.op == 8 then s.serve fr State.doPush else s)

/-- A PUSH has waited for 1 ms, which are 4,000,000 cycles (R377). -/
def State.pushLate (s : State) (c : Call) : Bool :=
  match c.kind with
  | .push _ _ since => decide (since + 4000000 ≤ s.now (s.serviceTile c.req))
  | _ => false

/-- PUSH_TIMEOUT (R377): nothing is pushed. -/
def execPushTimeout (f : Nat) (s : State) : Host.Outcome State Fault Refusal :=
  match FMap.find s.calls f with
  | some c => .next (if s.pushLate c then (s.dropCall f).replyStatus c.req 1 else s)
  | none => .next s

/-! ### ATTEST, END, REGION_CAP, MEASURE (R380, R410, R413) -/

/-- A measurement register of a management controller (R410). -/
def State.measure (s : State) (controller i : Nat) : List Byte := FMap.get (zeros 64) s.boot.m (8 * controller + i)

/-- Extend a measurement register in both management controllers (R410). -/
def State.extend (s : State) (i : Nat) (digest : List Byte) : State :=
  { s with boot := { s.boot with m := [0, 1].foldl (fun (m : FMap (List Byte)) c =>
      FMap.put (zeros 64) m (8 * c + i) (shake256 (FMap.get (zeros 64) m (8 * c + i) ++ digest) 64)) s.boot.m } }

/-- The quote over a nonce (R413). -/
def State.quote (s : State) (v : Nat × Nat) (nonce : List Byte) : List Byte :=
  let l := nonce ++ (List.range 8).flatMap (fun i => s.measure 0 i) ++ leBytes v.1 1 ++ leBytes v.2 1 ++ zeros 6 ++ exactly 57 Config.identityKey ++ zeros 1
  l ++ signedBy l

/-- ATTEST. -/
def State.doAttest (s : State) (r : Req) : State :=
  let v := ((FMap.find s.sessions r.session).bind (fun k => k.version 0)).getD (0, 0)
  if r.payload.length ≠ 32 then s.replyStatus r 3 else s.reply r (zeros 8 ++ s.quote v r.payload)

/-- HOST_ATTEST. -/
def execHostAttest (fr : Frame) (s : State) : Host.Outcome State Fault Refusal :=
  .next (if fr.op == 11 then s.serve fr State.doAttest else s)

/-- END for one placement: it drains with cause 0xFE (R346, R380). -/
def State.endPlacement (s : State) (a : Nat) : State :=
  if s.placeState a = 0 then
    ((s.setPlaceState a 4).modRcb a 16 (fun x => putField x 16 8 0xFE)).modNode a (fun n => { n with cause := some 0xFE })
  else s.terminate a 0xFE

/-- Placements that have not passed DRAINING. -/
def State.unended (s : State) (l : List Nat) : List Nat := l.filter (fun a => s.placeState a != 5 && s.placeState a != 6)

/-- END. -/
def State.doEnd (s : State) (r : Req) : State :=
  let rgn := leAt r.payload 0 8
  if r.payload.length ≠ 8 ∨ !s.validNode rgn then s.replyStatus r 3
  else if !s.mayName r rgn then s.replyStatus r 2
  else
    let ps := s.placementsIn rgn
    let s := ps.foldl (fun (a : State) p => a.endPlacement p) s
    match s.unended ps with
    | [] => s.replyStatus r 0
    | l => s.wait r (.ending l)

/-- HOST_END. -/
def execHostEnd (fr : Frame) (s : State) : Host.Outcome State Fault Refusal :=
  .next (if fr.op == 12 then s.serve fr State.doEnd else s)

/-- REGION_CAP. -/
def State.doRegionCap (s : State) (r : Req) : State :=
  let rgn := leAt r.payload 0 8
  let kind := fieldNat (s.rcb rgn 0) 0 2
  if r.payload.length ≠ 16 then s.replyStatus r 3
  else if !s.validNode rgn ∨ !(r.part == 0 || (fieldNat (s.rcb rgn 0) 5 6 == r.part && (kind == 2 || kind == 3))) then s.replyStatus r 2
  else
    let s := (s.modRcb rgn 6 (fun _ => BitVec.ofNat 64 (leAt r.payload 8 8))).modRcb rgn 0 (fun x => putField x 43 1 1)
    let s := if s.energyDue rgn then s.energyCut rgn else s
    s.replyStatus r 0

/-- HOST_REGION_CAP. -/
def execHostRegionCap (fr : Frame) (s : State) : Host.Outcome State Fault Refusal :=
  .next (if fr.op == 13 then s.serve fr State.doRegionCap else s)

/-- MEASURE. -/
def State.doMeasure (s : State) (r : Req) : State :=
  let l := r.payload
  let i := leAt l 0 1
  if l.length ≠ 72 ∨ !zeroAt l 1 8 then s.replyStatus r 3
  else if r.part ≠ 0 then s.replyStatus r 2
  else if i < 3 ∨ 7 < i then s.replyStatus r 3
  else (s.extend i (l.drop 8)).replyStatus r 0

/-- HOST_MEASURE. -/
def execHostMeasure (fr : Frame) (s : State) : Host.Outcome State Fault Refusal :=
  .next (if fr.op == 14 then s.serve fr State.doMeasure else s)

/-! ### HEALTH (R404, R406) -/

/-- The bytes of STATUS for a die: step, temperature, remaining life and wear monitors, which are measured and open
(assumption 4), and the error counts (R404, R407). -/
def State.dieHealth (s : State) (d : Nat) : List Byte × State :=
  let (x, s) := s.freeWord
  let (ms, s) := (List.range 4).foldl (fun (a : List Byte × State) _ =>
    let (y, b) := a.2.freeWord
    (a.1 ++ leBytes y.toNat 8, b)) ([], s)
  (leBytes (s.step_ d) 1 ++ leBytes (s.power.temp d % 256).toNat 1 ++ leBytes (fieldNat x 0 16) 2 ++ ms ++
    (List.range 9).flatMap (fun i => leBytes ((FMap.get 0 (s.die d).corrected i).toNat + (FMap.get 0 (s.die d).uncorrected i).toNat * 2 ^ 32) 8), s)

/-- STATUS. -/
def State.doHealthStatus (s : State) (r : Req) : State :=
  if r.payload.length ≠ 1 then s.replyStatus r 3
  else
    let head := leBytes (s.power.average / 1000) 2 ++ leBytes s.power.cap 2 ++ leBytes (natOfBool s.power.limit) 1 ++ zeros 3
    let (l, s) := (List.range 4).foldl (fun (a : List Byte × State) d =>
      let (b, t) := a.2.dieHealth d
      (a.1 ++ b, t)) (head, s)
    s.reply r (zeros 1 ++ l)

/-- HEALTH_STATUS. -/
def execHealthStatus (fr : Frame) (s : State) : Host.Outcome State Fault Refusal :=
  .next (if fr.op == 9 && fr.selector == 1 then s.serve fr State.doHealthStatus else s)

/-- SET_CAP. -/
def State.doSetCap (s : State) (r : Req) : State :=
  let w := leAt r.payload 1 2
  if r.payload.length ≠ 3 then s.replyStatus r 3
  else if r.part ≠ 0 then s.replyStatus r 2
  else if w < 600 ∨ 2400 < w then s.replyStatus r 3
  else ({ s with power := { s.power with cap := w } } : State).replyStatus r 0

/-- HEALTH_SET_CAP. -/
def execHealthSetCap (fr : Frame) (s : State) : Host.Outcome State Fault Refusal :=
  .next (if fr.op == 9 && fr.selector == 2 then s.serve fr State.doSetCap else s)

/-- The bytes of a die's lantern dump (R405, R406). -/
def State.dumpBytes (s : State) (d : Nat) : List Byte :=
  (s.die d).dump.flatMap (fun x => leBytes x.w0.toNat 8 ++ leBytes x.w1.toNat 8 ++ leBytes x.w2.toNat 8 ++ leBytes x.w3.toNat 8)

/-- LANTERN: a piece of a die's dump, with the last piece its signature. -/
def State.doLantern (s : State) (r : Req) : State :=
  let l := r.payload
  let d := leAt l 1 1
  if l.length ≠ 6 ∨ 4 ≤ d then s.replyStatus r 3
  else if r.part ≠ 0 then s.replyStatus r 2
  else
    let b := s.dumpBytes d
    let o := leAt l 2 4
    let piece := (b.drop o).take 8160
    s.reply r (zeros 1 ++ piece ++ (if b.length ≤ o + 8160 then signedBy b else []))

/-- HEALTH_LANTERN. -/
def execHealthLantern (fr : Frame) (s : State) : Host.Outcome State Fault Refusal :=
  .next (if fr.op == 9 && fr.selector == 3 then s.serve fr State.doLantern else s)

/-! ### Any other operation (R377, R398) -/

/-- HOST_UNKNOWN_OPERATION: INVALID. -/
def execHostUnknownOperation (fr : Frame) (s : State) : Host.Outcome State Fault Refusal :=
  .next (if fr.unknown then s.serve fr (fun b r => b.replyStatus r 3) else s)

/-! ### Meanings -/
-- BEGIN
-- END

end Sys2Proof.Machine
end

