-- ==== Sys2Proof/Machine/Services.lean ====
section
/-!
DEFINITION. The system programs: the translation unit's commands, the pager, the allocator, the restart of a service, and the
requests of the host that are tried again (R366 to R373).
-/
namespace Sys2Proof.Machine

/-! ### Commands of the translation queue (R368 to R370) -/

/-- The command at the head of a die's translation queue: its code, its partition and its words. -/
def State.headCommand (s : State) (d : Nat) : Option (Nat × Nat × Item) :=
  match (s.die d).commands with
  | [] => none
  | x :: _ => some (fieldNat (x.word 0) 0 4, fieldNat (x.word 0) 4 6, x)

/-- The head is a command for a partition and a page. -/
def State.isCommand (s : State) (d code part : Nat) (page : Word) : Bool :=
  match s.headCommand d with
  | none => false
  | some (c, p, x) => c == code && p == part && x.word 1 == page

/-- The translation unit takes the head command. -/
def State.popCommand (s : State) (d : Nat) : State := s.modDie d (fun x => { x with commands := x.commands.drop 1 })

/-- MAP_DONE: the merge entry goes, and every faulter on it repeats its translation (R368). -/
def execMapDone (die part : Nat) (page : Word) (s : State) : Host.Outcome State Fault Refusal :=
  .next (if s.isCommand die 1 part page then (s.popCommand die).dropMerge die part (page.toNat / 2 ^ 21) else s)

/-- A placement's tile: its report of MEMORY_EXHAUSTED for a page (R369). -/
def State.tellExhausted (s : State) (tiles : List Nat) (page : Nat) : State :=
  let rcbs := (tiles.filterMap (fun t => (s.tile t).place)).dedup
  { s with outbox := s.outbox ++ rcbs.map (fun a => .memoryExhausted a page) }

/-- The tiles whose command or whose strips wait at an engine for a page (R291, R298). -/
def State.pageWaiters (s : State) (part page e : Nat) : List Nat :=
  (match (s.engine e).run with
   | some r => (match r.phase with | .page p _ => if p = page ∧ r.cmd.part = part then [r.cmd.who.tile] else [] | _ => [])
   | none => []) ++
  s.flights.filterMap (fun f =>
    match f.kind with
    | .strip _ va _ =>
      if homeEngine f.owner.tile = e ∧ va / 2 ^ 21 = page ∧ (s.tile f.owner.tile).part = part then some f.owner.tile else none
    | _ => none)

/-- A page is refused: every strand on its entry takes PAGE_REFUSED, every engine command on it ends, and the host's requests
receive EXHAUSTED (R368, R369, R377). -/
def State.refuse (s : State) (d part page : Nat) : State :=
  match (s.die d).merge.find? (fun m => m.isFor part page) with
  | none => s
  | some m =>
    let engineTiles := m.engines.flatMap (s.pageWaiters part page)
    let s := (s.dropMerge d part page).tellExhausted (m.faulters.map (·.tile) ++ engineTiles) (page * 2 ^ 21)
    let s := m.faulters.foldl (fun (a : State) w => a.setXfault w page 0x17) s
    let s := m.engines.foldl (fun (a : State) e => a.engineFault part page .pageRefused e) s
    m.calls.foldl (fun (a : State) n =>
      match FMap.find a.calls n with
      | none => a
      | some c => (a.dropCall n).replyStatus c.req 1) s

/-- REFUSE (R368). -/
def execRefusePage (die part : Nat) (page : Word) (s : State) : Host.Outcome State Fault Refusal :=
  .next (if s.isCommand die 2 part page then (s.popCommand die).refuse die part (page.toNat / 2 ^ 21) else s)

/-- INVALIDATE: the page leaves the die's cache and the TLBs of its tiles; the reply waits for the accesses translated
before (R370). -/
def execInvalidatePage (die part : Nat) (page : Word) (reply : Nat) (s : State) : Host.Outcome State Fault Refusal :=
  let named := match s.headCommand die with | none => false | some (_, _, x) => fieldNat (x.word 2) 0 16 == reply
  if s.isCommand die 3 part page && named then
    let keep := fun (l : List XEntry) => l.filter (fun x => !x.covers part page.toNat)
    let s := (s.popCommand die).modDie die (fun x => { x with xcache := keep x.xcache })
    let s := { s with tiles := s.tiles.map (fun (e : Nat × Tile) => if dieOf e.1 = die then (e.1, { e.2 with tlb := keep e.2.tlb }) else e) }
    .next (s.send ⟨512 * die, 9⟩ 1 none (.invalidated die part page.toNat reply))
  else .next s

/-- What a flight reaches lies in translated space (R170). -/
def Kind.translated (k : Kind) : Bool :=
  match k with
  | .ewrite _ _ dst _ => (match dst.spot with | .hbm _ => true | .peer _ _ => true | _ => false)
  | _ => (match k.touches with | some (.hbm _, _) => true | some (.peer _ _ _, _) => true | _ => false)

/-- The die whose translation unit has translated what a flight reaches: an engine's own for its write (R365). -/
def Flight.unitDie (g : Flight) : Nat := match g.kind with | .ewrite e _ _ _ => e / 64 | _ => g.die

/-- An access of a die to device memory was issued before a flight was sent, and is not performed yet (R370). -/
def State.accessBefore (s : State) (d : Nat) (f : Flight) : Bool :=
  s.flights.any (fun g => decide (g.order < f.id) && g.unitDie == d && g.kind.translated)

/-- INVALIDATE_REPLY: once every access translated before has been performed, the page is pushed to the reply queue (R370). An
access that may have been translated through another page counts too (assumption 62). DESIGN CHOICE: at a queue that is not OPEN the reply is
dropped (assumption 129). -/
def execInvalidateReply (f : Nat) (s : State) : Host.Outcome State Fault Refusal :=
  match s.flight f with
  | some x =>
    match x.kind with
    | .invalidated d _ page reply =>
      if s.accessBefore d x then .next s
      else if (s.queue reply).state ≠ 1 then .next (s.dropFlight f)
      else if s.admits ⟨512 * d, 9⟩ reply 1 then
        .next ((s.dropFlight f).post ⟨512 * d, 9⟩ reply [{ header := itemHeader 1 0 false 0, words := [BitVec.ofNat 64 page] }])
      else .next s
    | _ => .next s
  | none => .next s

/-- UNKNOWN_TRANSLATION_COMMAND: discarded, and counted in partition 0's node (R340, R368). -/
def execUnknownTranslationCommand (die cmd : Nat) (s : State) : Host.Outcome State Fault Refusal :=
  match s.headCommand die with
  | some (c, _, _) =>
    if c = cmd ∧ (c = 0 ∨ 3 < c) then
      let s := s.popCommand die
      .next (match s.partNode 0 with | none => s | some a => s.modRcb a 14 (fun x => bumpField x 40 24 1))
    else .next s
  | none => .next s

/-! ### Ports of the services -/

/-- The CONSUMER port of a tile on a queue. -/
def State.portOn (s : State) (t q : Nat) : Option (Nat × Port) := (s.tile t).ports.find? (fun e => e.2.queue == q && e.2.consumer)

/-- A service takes the head item of its port and marks it done at once. -/
def State.serviceTake (s : State) (t pn : Nat) : State :=
  match s.port t pn with
  | none => s
  | some p => (s.popHead ⟨t, 0⟩ pn).modPort t pn (fun x => { x with outst := p.outst })

/-- A reply of a service to a queue; a queue that is not OPEN takes none. -/
def State.serviceReply (s : State) (t q : Nat) (words : List Word) : State :=
  if (s.queue q).state = 1 then s.post ⟨t, 0⟩ q [{ header := itemHeader words.length 0 false 0, words := words }] else s

/-- A reply has room, or nobody takes it. -/
def State.replyRoom (s : State) (t q : Nat) : Bool := (s.queue q).state != 1 || s.admits ⟨t, 0⟩ q 1

/-! ### The pager (R366 to R370) -/

/-- The registered range around a page. -/
def State.rangeOf (s : State) (part va : Nat) : Option Registered :=
  s.registered.find? (fun r => r.part == part && decide (r.base ≤ va) && decide (va < r.base + r.len))

/-- The pager answers a fault: it maps a lazy page to a free frame and answers MAP_DONE, or REFUSE where there is no frame; a
table entry in error is restored, or the page refused, which is open (R366, R368, R408, assumption 3). -/
def State.pageIn (s : State) (d part va : Nat) : State :=
  let cmd := fun (c : Nat) =>
    ({ header := itemHeader 2 0 false 0, words := [BitVec.ofNat 64 (c + part * 16), BitVec.ofNat 64 va] } : Item)
  let answer := fun (b : State) (c : Nat) => b.modDie d (fun x => { x with outgoing := x.outgoing ++ [cmd c] })
  match s.walk part va with
  | .lazy none =>
    match s.rangeOf part va with
    | none => answer s 1
    | some r =>
      match s.mapPage part va r.write with
      | some t => answer t 1
      | none => answer s 2
  | .lazy (some a) =>
    let (c, s) := s.choose 2
    if c = 0 then answer s 2 else answer { s with hbmPoison := FMap.put false s.hbmPoison (a / 8) false } 1
  | _ => answer s 1

/-- A reply to an INVALIDATE has come for a page (R370). -/
def Call.replied (c : Call) (page : Nat) : Call :=
  match c.kind with
  | .unregister ws fs =>
    match ws.findIdx? (fun e => e.1 == page) with
    | some i => { c with kind := .unregister (ws.eraseIdx i) fs }
    | none => c
  | _ => c

/-- The first call that waits for a page's reply takes it. -/
def takeReply (page : Nat) : FMap Call → FMap Call
  | [] => []
  | (n, c) :: r => if c.replied page = c then (n, c) :: takeReply page r else (n, c.replied page) :: r

/-- The pager of a die does one thing: it pushes what it has to say, takes an INVALIDATE reply, or answers a fault item. -/
def State.pagerStep (s : State) (d : Nat) : State :=
  let t := 512 * d + 1
  let out := match (s.die d).outgoing, (s.die d).xlateQueue with
    | x :: r, some q => if s.admits ⟨t, 0⟩ q 1 then some ((s.post ⟨t, 0⟩ q [x]).modDie d (fun y => { y with outgoing := r })) else none
    | _, _ => none
  let rep := match (s.die d).replyQueue.bind (s.portOn t) with
    | some (pn, p) =>
      match p.items with
      | x :: _ => some ((s.serviceTake t pn), (x.item.word 0).toNat)
      | [] => none
    | none => none
  let fault := match (s.die d).faultQueue.bind (s.portOn t) with
    | some (pn, p) =>
      match p.items with
      | x :: _ => some (s.serviceTake t pn, fieldNat (x.item.word 0) 0 6, (x.item.word 1).toNat)
      | [] => none
    | none => none
  match out, rep, fault with
  | some s, _, _ => s
  | none, some (s, page), _ => { s with calls := takeReply page s.calls }
  | none, none, some (s, part, va) => s.pageIn d part va
  | none, none, none => s

/-- The pager of a die has something to do. -/
def State.pagerReady (s : State) (d : Nat) : Bool :=
  let t := 512 * d + 1
  (match (s.die d).outgoing, (s.die d).xlateQueue with | _ :: _, some q => s.admits ⟨t, 0⟩ q 1 | _, _ => false) ||
    (match (s.die d).replyQueue.bind (s.portOn t) with | some (_, p) => !p.items.isEmpty | none => false) ||
    (match (s.die d).faultQueue.bind (s.portOn t) with | some (_, p) => !p.items.isEmpty | none => false)

/-! ### Requests that are tried again (R377, R380) -/

/-- An operation of a code, for a request that waited for a page. -/
def State.perform_ (s : State) (r : Req) : State :=
  match r.frame.op with
  | 4 => s.doPlace r
  | 5 => s.doBeacon r
  | 6 => s.doRead r
  | 7 => s.doWrite r
  | _ => s

/-- A waiting request can go on. A reply to an INVALIDATE names the page alone, so that frames are freed once no reply is
awaited any more (R368, R370). -/
def State.callReady (s : State) (c : Call) : Bool :=
  match c.kind with
  | .page part page =>
    match (s.die (dieOf (s.serviceTile c.req))).merge.find? (fun m => m.isFor part page) with
    | none => true
    | some _ => false
  | .push q _ _ => !s.pushLate c && (s.admits ⟨s.serviceTile c.req, 0⟩ q 1 || (s.queue q).state != 1)
  | .ending l => (s.unended l).isEmpty
  | .unregister _ _ => s.calls.all (fun e => match e.2.kind with | .unregister ws _ => ws.isEmpty | _ => true)
  | .periscope _ _ _ => false
  | .window _ _ => false

/-- A waiting request is tried again. -/
def State.retryCall (s : State) (n : Nat) : State :=
  match FMap.find s.calls n with
  | none => s
  | some c =>
    if !s.callReady c then s
    else
      let s := s.dropCall n
      let r := c.req
      match c.kind with
      | .page _ _ => s.perform_ r
      | .push q x _ =>
        let w : Who := ⟨s.serviceTile r, 0⟩
        if (s.queue q).state = 1 then (s.post w q [x]).replyStatus r 0 else s.replyStatus r 3
      | .ending _ => s.replyStatus r 0
      | .unregister _ fs => (s.freeFrames fs).replyStatus r 0
      | .periscope _ _ _ => s
      | .window _ _ => s

/-! ### The allocator (R372) -/

/-- An allocator request: its operation, its reply queue and its words. -/
def allocOp (w : List Word) : Nat := fieldNat (w.getD 0 0) 0 2

/-- The reply queue of a request to a service. -/
def replyOf (w : List Word) : Nat := fieldNat (w.getD 0 0) 2 16

/-- The request stands at the head of the allocator's port. -/
def State.allocAt (s : State) (die queue ordinal : Nat) (w : List Word) : Option Nat :=
  match s.portOn (512 * die + 2) queue with
  | none => none
  | some (pn, p) =>
    match p.items with
    | [] => none
    | x :: _ => if x.ordinal = ordinal ∧ x.item.words = w ∧ (s.die die).allocQueue = some queue then some pn else none

/-- ALLOC: status, handle and the state (R372). The partition is that of the reply queue (assumption 63). -/
def State.alloc (s : State) (part : Nat) (w : List Word) : Nat × Nat × State :=
  let bytes := (w.getD 1 0).toNat
  let n := fieldNat (w.getD 2 0) 0 6
  if bytes = 0 ∨ 30 < n then (2, 0, s)
  else
    match s.partNode part with
    | none => (1, 0, s)
    | some a =>
      let len := wholePages bytes
      if !s.withinHbm a len then (1, 0, s)
      else
        match s.newRange part bytes n with
        | none => (1, 0, s)
        | some (b, s) => (0, b, ({ s with handles := s.handles ++ [{ part := part, base := b, len := len }] } : State).chargeHbm a len)

/-- FREE: status and the state (R372). -/
def State.free (s : State) (part : Nat) (w : List Word) : Nat × State :=
  let h := (w.getD 1 0).toNat
  match s.handles.find? (fun x => x.part == part && x.base == h) with
  | none => (2, s)
  | some x =>
    let s := (s.dropRange part x.base x.len)
    let s := { s with handles := s.handles.filter (· != x) }
    (0, match s.partNode part with | none => s | some a => s.dischargeHbm a x.len)

/-- ALLOC_REQUEST: the allocator answers a request; an operation that is neither ALLOC nor FREE is INVALID (R372). -/
def execAllocRequest (die queue ordinal : Nat) (w : List Word) (s : State) : Host.Outcome State Fault Refusal :=
  let t := 512 * die + 2
  match s.allocAt die queue ordinal w with
  | none => .next s
  | some pn =>
    if allocOp w = 2 ∨ !s.replyRoom t (replyOf w) then .next s
    else
      let (st, h, s) := if allocOp w = 1 then s.alloc (s.queue (replyOf w)).part w else (2, 0, s)
      .next ((s.serviceTake t pn).serviceReply t (replyOf w) [BitVec.ofNat 64 st, BitVec.ofNat 64 h, w.getD 3 0])

/-- FREE_REQUEST (R372); the reply's handle is the null handle. -/
def execFreeRequest (die queue ordinal : Nat) (w : List Word) (s : State) : Host.Outcome State Fault Refusal :=
  let t := 512 * die + 2
  match s.allocAt die queue ordinal w with
  | none => .next s
  | some pn =>
    if allocOp w ≠ 2 ∨ !s.replyRoom t (replyOf w) then .next s
    else
      let (st, s) := s.free (s.queue (replyOf w)).part w
      .next ((s.serviceTake t pn).serviceReply t (replyOf w) [BitVec.ofNat 64 st, 0, w.getD 3 0])

/-! ### The restart of a service (R373) -/

/-- The RPC ports of a tile with a stored request. -/
def State.rpcPorts (s : State) (t : Nat) : List Nat :=
  ((s.tile t).ports.filter (fun e => e.2.consumer && (s.queue e.2.queue).type == 3 && !e.2.items.isEmpty)).map (·.1)

/-- A restarted pager cannot read back the region table: REFUSE for every entry of its die's merge table that has asked for its page;
whether it can is open (R373, assumption 3). -/
def State.restartPager (s : State) (t : Nat) : State :=
  if t % 512 ≠ 1 then s
  else
    let (c, s) := s.choose 2
    if c = 0 then s
    else s.modDie (dieOf t) (fun x =>
      { x with outgoing := x.outgoing ++ (x.merge.filter (fun m => !m.walking)).map (fun m =>
          ({ header := itemHeader 2 0 false 0, words := [BitVec.ofNat 64 (2 + m.part * 16), BitVec.ofNat 64 (m.page * 2 ^ 21)] } : Item)) })

/-- The strands of a reserved tile are system strands, and run (R7, R371). Their programs are not in the spec: what the services do is in
the moves of the pager, the allocator, the network service and the supervisor, and no slot of theirs issues a bundle (assumption
109). -/
def serviceStrands : FMap Strand :=
  (List.range 8).map (fun i => (i, { Strand.fresh i with system := true, running := true, startAt := 2 ^ 64 }))

/-- The registers of a tile in parity error (R49). -/
def Tile.badRegs (y : Tile) (t : Nat) : List AnyReg :=
  (y.c.filter (fun e => e.2.now.bad)).map (fun e => .reg (.c t e.1)) ++
    y.strands.flatMap (fun x =>
      let w : Who := ⟨t, x.1⟩
      (x.2.g.filter (fun e => e.2.bad)).map (fun e => .reg (.g w e.1)) ++ (x.2.v.filter (fun e => e.2.bad)).map (fun e => .reg (.v w e.1)) ++
        (x.2.k.filter (fun e => e.2.bad)).map (fun e => .reg (.k w e.1)) ++ (x.2.p.filter (fun e => e.2.bad)).map (fun e => .p w e.1))

/-- An uncorrectable error stands in a system tile's data or registers. -/
def State.serviceBroken (s : State) (t : Nat) : Bool :=
  s.reserved t && (!(s.tile t).poison.isEmpty || !((s.tile t).badRegs t).isEmpty)

/-- The errors that end a service instance are counted and recorded (R373, R407). -/
def State.noteTile (s : State) (t : Nat) : State :=
  let y := s.tile t
  let s := (y.poison.filter (·.2)).foldl (fun (a : State) e =>
    a.noteError (dieOf t) 1 t e.1 t 0 (BitVec.ofNat 64 (8 * e.1)) (s.partNode 0)) s
  (y.badRegs t).foldl (fun (a : State) r => a.noteError (dieOf t) 0 t r.errKey t 0 0 (s.partNode 0)) s

/-- The reserved tile of a service without its data and registers: its ports and their items stay, its strands are system strands
(R7, R373). -/
def Tile.restartService (y : Tile) : Tile :=
  { y with poison := [], c := [], strands := serviceStrands }

/-- SERVICE_RESTART: the requests stored at the lost instance's RPC ports are answered SERVICE_LOST one by one; then the
instance starts anew, a pager refuses what it cannot serve, and the lantern keeps a record whose details are not stated (R373,
R405, assumption 4). -/
def execServiceRestart (tile : Nat) (s : State) : Host.Outcome State Fault Refusal :=
  if !s.serviceBroken tile then .next s
  else
    match s.rpcPorts tile with
    | pn :: _ =>
      match s.port tile pn with
      | some p =>
        match p.items with
        | x :: _ =>
          let q := replyOf x.item.words
          if s.replyRoom tile q then
            .next ((s.serviceTake tile pn).serviceReply tile q [3, 0, x.item.word 3])
          else .next s
        | [] => .next s
      | none => .next s
    | [] =>
      let (a, s) := s.freeWord
      let (b, s) := s.freeWord
      .next ((((s.noteTile tile).modTile tile Tile.restartService).restartPager tile).record (dieOf tile) 8 0 tile 0 a b)

/-! ### Meanings -/
-- BEGIN
-- END

end Sys2Proof.Machine
end

