-- ==== Sys2Proof/Machine/Trace.lean ====
section
/-!
DEFINITION. The TRACE operation of the host: counters, digests, records, the periscope, breakpoints, the debugger
(R388 to R398).
-/
namespace Sys2Proof.Machine

/-! ### Requests (R378, R398) -/

/-- The tile, the port or index, and the operands of a TRACE request (R378). -/
def Req.tile (r : Req) : Nat := leAt r.payload 2 2

/-- The port, or the watchpoint index. -/
def Req.port (r : Req) : Nat := leAt r.payload 4 1

/-- The first operand. -/
def Req.first (r : Req) : Nat := leAt r.payload 8 8

/-- The second operand. -/
def Req.second (r : Req) : Nat := leAt r.payload 16 8

/-- The layout of a TRACE request: the fields that the selector does not use are zero (R378). -/
def Req.traceOk (r : Req) (flags port first second : Bool) : Bool :=
  let l := r.payload
  l.length == 24 && (flags || zeroAt l 1 2) && (port || zeroAt l 4 5) && zeroAt l 5 8 && (first || zeroAt l 8 16) && (second || zeroAt l 16 24)

/-- A session may name tiles of its own partition; partition 0's any (R398). -/
def State.mayTrace (s : State) (r : Req) (t : Nat) : Bool :=
  validTile t && (r.part == 0 || ((s.tile t).place.isSome && (s.tile t).part == r.part))

/-- A TRACE request on a tile: INVALID for its layout, DENIED for its target, else what the selector does. -/
def State.traceOn (s : State) (r : Req) (ok : Bool) (go : State → State) : State :=
  if !ok then s.replyStatus r 3 else if !s.mayTrace r r.tile then s.replyStatus r 2 else go s

/-- COUNTERS (R388). -/
def State.doCounters (s : State) (r : Req) : State :=
  s.traceOn r (r.traceOk false true false false) (fun s =>
    match s.port r.tile r.port with
    | none => s.replyStatus r 3
    | some p => s.reply r (zeros 1 ++ leBytes p.full 8 ++ leBytes p.empty 8 ++ leBytes p.moving 8))

/-- TRACE_COUNTERS. -/
def execTraceCounters (fr : Frame) (s : State) : Host.Outcome State Fault Refusal :=
  .next (if fr.op == 10 && fr.selector == 1 then s.serve fr State.doCounters else s)

/-- DIGEST (R391). -/
def State.doDigest (s : State) (r : Req) : State :=
  s.traceOn r (r.traceOk false true false false) (fun s =>
    match s.port r.tile r.port with
    | none => s.replyStatus r 3
    | some p => s.reply r (zeros 1 ++ leBytes p.digest.toNat 8 ++ leBytes p.pops 8))

/-- TRACE_DIGEST. -/
def execTraceDigest (fr : Frame) (s : State) : Host.Outcome State Fault Refusal :=
  .next (if fr.op == 10 && fr.selector == 2 then s.serve fr State.doDigest else s)

/-- MASK (R390). -/
def State.doMask (s : State) (r : Req) : State :=
  s.traceOn r (r.traceOk false false true false && decide (r.first < 2 ^ 32)) (fun s =>
    (s.modTile r.tile (fun y => { y with traceMask := BitVec.ofNat 32 r.first })).replyStatus r 0)

/-- TRACE_MASK. -/
def execTraceMask (fr : Frame) (s : State) : Host.Outcome State Fault Refusal :=
  .next (if fr.op == 10 && fr.selector == 3 then s.serve fr State.doMask else s)

/-- The records of a tile's trace buffer, oldest first (R390). -/
def Tile.traceBytes (y : Tile) (n : Nat) : List Byte :=
  (List.range n).flatMap (fun i =>
    let a := 14 * 4096 + 32 * ((y.traceNext - y.traceLen + i) % 256)
    (List.range 32).map (fun j => y.byte (a + j)))

/-- RECORDS: up to 255 records; the buffer is emptied (R398). The version of the trace record format is needed (R375). -/
def State.doRecords (s : State) (r : Req) : State :=
  if ((FMap.find s.sessions r.session).bind (fun k => k.version 4)).isNone then s.replyStatus r 6
  else
    s.traceOn r (r.traceOk false false false false) (fun s =>
      let y := s.tile r.tile
      (s.modTile r.tile (fun y => { y with traceLen := 0 })).reply r (zeros 1 ++ y.traceBytes (Nat.min y.traceLen 255)))

/-- TRACE_RECORDS. -/
def execTraceRecords (fr : Frame) (s : State) : Host.Outcome State Fault Refusal :=
  .next (if fr.op == 10 && fr.selector == 4 then s.serve fr State.doRecords else s)

/-! ### The periscope (R389) -/

/-- The counters of every port of the placements of a region. -/
def State.snapshot (s : State) (rgn : Nat) : List PortSnap :=
  (s.placementsIn rgn).flatMap (fun a =>
    match FMap.find s.nodes a with
    | none => []
    | some n => n.tiles.flatMap (fun t => (s.tile t).ports.map (fun e =>
        { tile := t, port := e.1, full := e.2.full, empty := e.2.empty, moving := e.2.moving, cycle := s.now t })))

/-- PERISCOPE: the first snapshot; the walk waits (R389). -/
def State.doPeriscope (s : State) (r : Req) : State :=
  s.traceOn r (r.traceOk false true false false) (fun s =>
    match s.port r.tile r.port, (s.tile r.tile).place with
    | some _, some _ => s.wait r (.periscope r.tile r.port (s.snapshot (s.regionOf r.tile)))
    | _, _ => s.replyStatus r 3)

/-- TRACE_PERISCOPE. -/
def execTracePeriscope (fr : Frame) (s : State) : Host.Outcome State Fault Refusal :=
  .next (if fr.op == 10 && fr.selector == 5 then s.serve fr State.doPeriscope else s)

/-- The differences f, e and m of a port that was snapshotted. -/
structure Diff where
  tile : Nat
  port : Nat
  queue : Nat
  consumer : Bool
  f : Nat
  e : Nat
  m : Nat
  deriving DecidableEq, Repr

/-- The differences of the second snapshot against the first. -/
def State.diffs (s : State) (l : List PortSnap) : List Diff :=
  l.filterMap (fun x =>
    match s.port x.tile x.port, x.after with
    | some p, some (f, e, m) =>
      some { tile := x.tile, port := x.port, queue := p.queue, consumer := p.consumer, f := f - x.full, e := e - x.empty, m := m - x.moving }
    | _, _ => none)

/-- The port of a list with the largest value of a function, the first among equals. -/
def largest (g : Diff → Nat) : List Diff → Option Diff
  | [] => none
  | x :: r =>
    match largest g r with
    | none => some x
    | some y => if g x < g y then some y else some x

/-- Where a walk stops: 0 TILE, 1 ENGINE, 2 OUTSIDE, 3 LOOP, with the tile or the engine. -/
structure Limit where
  kind : Nat
  id : Nat
  deriving DecidableEq, Repr

/-- The producer ports of a queue inside the region. -/
def producersOf (ds : List Diff) (q : Nat) : List Diff := ds.filter (fun d => d.queue == q && !d.consumer)

/-- An endpoint of a queue, or a producer of it, lies outside the region (R389). -/
def State.leaves (s : State) (ds : List Diff) (q : Nat) (ends : Bool) : Bool :=
  if ends then (s.queue q).eps.any (fun e => !ds.any (fun x => x.tile == e.1 && x.port == e.2))
  else s.tiles.any (fun y => y.2.ports.any (fun p =>
    p.2.queue == q && !p.2.consumer && !ds.any (fun x => x.tile == y.1 && x.port == p.1)))

/-- One step of a walk at a port: the ports it goes on through, or where it stops (R389). The port at the other end of the
queue is a hop of its own; the next port is the one behind it on its tile (assumption 64). -/
def State.scopeStep (s : State) (ds : List Diff) (seen : List Diff) (d : Diff) : List Diff × Option Limit :=
  let q := s.queue d.queue
  let go := fun (mid : Option Diff) (next : Diff → Option Diff) (g : Diff → Nat) =>
    match mid with
    | none => (([], some ⟨2, d.tile⟩) : List Diff × Option Limit)
    | some x =>
      if seen.contains x then ([], some ⟨3, d.tile⟩)
      else
        match next x with
        | none => ([x], some ⟨0, x.tile⟩)
        | some y =>
          if seen.contains y then ([x], some ⟨3, x.tile⟩)
          else if g y < 32768 then ([x], some ⟨0, x.tile⟩)
          else ([x, y], none)
  let back := !d.consumer && decide (d.m < d.f)
  if !back && !(d.consumer && decide (d.m < d.e)) then ([], some ⟨0, d.tile⟩)
  else if q.type = 2 then ([], some ⟨1, (q.eps.map (·.1)).headD 0⟩)
  else if s.leaves ds d.queue back then ([], some ⟨2, d.tile⟩)
  else if back then
    go (largest (·.f) (ds.filter (fun x => x.queue == d.queue && x.consumer)))
      (fun x => largest (·.f) (ds.filter (fun y => y.tile == x.tile && !y.consumer))) (·.f)
  else
    go (largest (fun x => 2 ^ 48 - x.m) (producersOf ds d.queue))
      (fun x => largest (·.e) (ds.filter (fun y => y.tile == x.tile && y.consumer))) (·.e)

/-- The walk of the periscope: at most 16 hops (R389). -/
def State.scopeWalk (s : State) (ds : List Diff) : Nat → List Diff → Diff → List Diff × Limit
  | 0, seen, d => (seen, ⟨0, d.tile⟩)
  | n + 1, seen, d =>
    match s.scopeStep ds seen d with
    | (hops, some l) => ((seen ++ hops).take 16, l)
    | (hops, none) =>
      if 16 ≤ (seen ++ hops).length then ((seen ++ hops).take 16, ⟨0, d.tile⟩)
      else s.scopeWalk ds n (seen ++ hops) ((hops.getLast?).getD d)

/-- A hop in the reply. -/
def Diff.bytes (d : Diff) : List Byte :=
  leBytes d.tile 2 ++ leBytes d.port 1 ++ zeros 1 ++ leBytes d.queue 2 ++ zeros 2 ++ leBytes d.f 8 ++ leBytes d.e 8 ++ leBytes d.m 8

/-- PERISCOPE_SNAPSHOT_END: every port has its second snapshot, and the walk is replied (R389). -/
def execPeriscopeSnapshotEnd (f : Nat) (s : State) : Host.Outcome State Fault Refusal :=
  match FMap.find s.calls f with
  | some c =>
    match c.kind with
    | .periscope t p snap =>
      if !snap.all (fun x => x.after.isSome) then .next s
      else
        let ds := s.diffs snap
        let s := s.dropCall f
        match ds.find? (fun d => d.tile == t && d.port == p) with
        | none => .next (s.replyStatus c.req 3)
        | some d =>
          let (hops, l) := s.scopeWalk ds 16 [d] d
          .next (s.reply c.req (zeros 1 ++ leBytes hops.length 1 ++ hops.flatMap Diff.bytes ++ leBytes l.kind 1 ++ leBytes l.id 2))
    | _ => .next s
  | none => .next s

/-! ### Breakpoints, claims, watchpoints (R393, R395, R397) -/

/-- BREAK: an ordinal of all ones disarms; an ordinal that the port has accepted is INVALID (R393). -/
def State.doBreak (s : State) (r : Req) : State :=
  s.traceOn r (r.traceOk false true true true) (fun s =>
    match s.port r.tile r.port with
    | none => s.replyStatus r 3
    | some p =>
      if !p.consumer then s.replyStatus r 3
      else if r.first = 2 ^ 64 - 1 then (s.modPort r.tile r.port (fun p => { p with breakAt := none })).replyStatus r 0
      else if r.first < p.ordinal ∨ 2 ^ 32 ≤ r.second then s.replyStatus r 3
      else (s.modPort r.tile r.port (fun p => { p with breakAt := some (r.first, r.second) })).replyStatus r 0)

/-- TRACE_BREAK. -/
def execTraceBreak (fr : Frame) (s : State) : Host.Outcome State Fault Refusal :=
  .next (if fr.op == 10 && fr.selector == 6 then s.serve fr State.doBreak else s)

/-- CLAIM: a tile that another session claims is DENIED (R397, assumption 65). -/
def State.doClaim (s : State) (r : Req) : State :=
  s.traceOn r (r.traceOk false false false false) (fun s =>
    match (s.tile r.tile).claim with
    | some k => if k = r.session then s.replyStatus r 0 else s.replyStatus r 2
    | none => (s.modTile r.tile (fun y => { y with claim := some r.session })).replyStatus r 0)

/-- TRACE_CLAIM. -/
def execTraceClaim (fr : Frame) (s : State) : Host.Outcome State Fault Refusal :=
  .next (if fr.op == 10 && fr.selector == 7 then s.serve fr State.doClaim else s)

/-- A tile that the debugger froze goes on, unless a cut holds it. -/
def Tile.unstop (y : Tile) : Tile := { y with debugStop := none, frozen := y.cut.isSome }

/-- RELEASE: the claim ends, and with it the debugger's freeze (R398, assumption 65). -/
def State.doRelease (s : State) (r : Req) : State :=
  s.traceOn r (r.traceOk false false false false) (fun s =>
    if (s.tile r.tile).claim = some r.session then
      (s.modTile r.tile (fun y => { y.unstop with claim := none })).replyStatus r 0
    else s.replyStatus r 2)

/-- TRACE_RELEASE. -/
def execTraceRelease (fr : Frame) (s : State) : Host.Outcome State Fault Refusal :=
  .next (if fr.op == 10 && fr.selector == 8 then s.serve fr State.doRelease else s)

/-- WATCH: the fields shown as 0 are not written (R395). -/
def State.doWatch (s : State) (r : Req) : State :=
  s.traceOn r (r.traceOk false true true true && decide (r.port < 4)) (fun s =>
    (s.modTile r.tile (fun y =>
      { y with wpBase := FMap.put 0 y.wpBase r.port (BitVec.ofNat 64 r.first &&& wpBaseMask)
               wpMask := FMap.put 0 y.wpMask r.port (BitVec.ofNat 64 r.second) })).replyStatus r 0)

/-- TRACE_WATCH. -/
def execTraceWatch (fr : Frame) (s : State) : Host.Outcome State Fault Refusal :=
  .next (if fr.op == 10 && fr.selector == 9 then s.serve fr State.doWatch else s)

/-- STATUS: bit 0 frozen by the debugger, bit 1 by a cut; the cause: BREAKPOINT, WATCHPOINT or the beacon's kind (R398,
assumption 66). -/
def State.doTraceStatus (s : State) (r : Req) : State :=
  s.traceOn r (r.traceOk false false false false) (fun s =>
    let y := s.tile r.tile
    let cause := match y.debugStop, y.cut with
      | some i, _ => if i = 8 ∨ (s.strand ⟨r.tile, i⟩).struck ≠ [] then 0x11 else 0x10
      | none, some c => c.kind
      | none, none => 0
    s.reply r (zeros 1 ++ leBytes (natOfBool y.debugStop.isSome + 2 * natOfBool y.cut.isSome) 1 ++ leBytes cause 1))

/-- TRACE_STATUS. -/
def execTraceStatus (fr : Frame) (s : State) : Host.Outcome State Fault Refusal :=
  .next (if fr.op == 10 && fr.selector == 10 then s.serve fr State.doTraceStatus else s)

/-- A STOP cut of a region that is done; one that its energy cap has caused ends only once the cap is raised or removed (R394, R403). -/
def State.stopDone (s : State) (rgn : Nat) : Bool :=
  match s.cutOf rgn with
  | none => false
  | some c => c.kind == 3 && c.done && !(c.energy && s.capReached rgn)

/-- A tile goes on after the debugger; with IGNORE_ONCE the trapping strand's next bundle is exempt from BRK and watchpoints (R397). -/
def State.resumeTile (s : State) (t i : Nat) (ignore : Bool) : State :=
  let s := s.modTile t Tile.unstop
  if i < 8 then s.modStrand ⟨t, i⟩ (fun x => { x with ignoreOnce := ignore, struck := x.struck.filter (fun y => !(s.tile t).toDebugger y) }) else s

/-- RESUME of a tile, or of a region in a STOP cut (R394, R397, R398). -/
def State.doResume (s : State) (r : Req) : State :=
  let flags := leAt r.payload 1 1
  if flags.testBit 1 then
    let rgn := r.first
    if !r.traceOk true false true false ∨ 4 ≤ flags ∨ r.tile ≠ 0 then s.replyStatus r 3
    else if !s.mayName r rgn then s.replyStatus r 2
    else if !s.validNode rgn then s.replyStatus r 3
    else if s.stopDone rgn then (s.thawRegion rgn).replyStatus r 0
    else s.replyStatus r 3
  else
    s.traceOn r (r.traceOk true false false false && decide (flags < 4)) (fun s =>
      let y := s.tile r.tile
      match y.debugStop, y.place.bind s.cutAbove with
      | some i, _ => (s.resumeTile r.tile i (flags.testBit 0)).replyStatus r 0
      | none, some rgn => if s.stopDone rgn then (s.thawRegion rgn).replyStatus r 0 else s.replyStatus r 3
      | none, none => s.replyStatus r 3)

/-- TRACE_RESUME. -/
def execTraceResume (fr : Frame) (s : State) : Host.Outcome State Fault Refusal :=
  .next (if fr.op == 10 && fr.selector == 11 then s.serve fr State.doResume else s)

/-! ### Meanings -/
-- BEGIN
-- END

end Sys2Proof.Machine
end

