-- ==== Sys2Proof/Machine/Boot.lean ====
section
/-!
DEFINITION. Resets and secure boot, the boot of a pod, the Limis links and the all-reduce units (R10, R405 to R412, R414 to
R417).
-/
namespace Sys2Proof.Machine

/-! ### The reset of a compute die (R10) -/

/-- A compute die after its reset: its counters start anew. -/
def Die.restart (x : Die) : Die :=
  { x with clock := 0, resets := x.resets + 1, pwrStep := 0, pwrDue := none, xcache := [], merge := [], faultSeq := 0, refreshWait := [] }

/-- A system queue of a die's services: its endpoint is a tile and a port (R208). -/
def serviceQueue (type t p : Nat) : Queue := { type := type, scope := 4, system := true, cap := 64, window := 64, eps := [(t, p)] }

/-- A CONSUMER port of a service. -/
def servicePort (q : Nat) : Port := { queue := q, consumer := true }

/-- The reserved tiles of a die run their services: their strands, and their CONSUMER ports on the eight service queues from q0 on (R7, R371,
assumption 69). -/
def State.attachServices (s : State) (d q0 : Nat) : State :=
  let attach := fun (a : State) (c : Nat) (l : List Nat) => a.modTile (512 * d + c) (fun y =>
    { y with strands := serviceStrands, ports := (List.range l.length).map (fun i => (i, servicePort ((q0 + l.getD i 0) % 65536))) })
  attach (attach (attach (attach s 0 [4]) 1 [0, 1, 5]) 2 [3]) 3 [6, 7]

/-- The services of a die that has been reset start anew, if the package has booted (R7). -/
def State.restartServices (s : State) (d : Nat) : State :=
  match (s.die d).faultQueue with
  | some q => if s.boot.booted then s.attachServices d q else s
  | none => s

/-- COMPUTE_DIE_RESET: the tiles and the engines of the die are as after reset, with every TCYC a multiple of 8 of its own,
WS_PHASE, E_TILE and PWR_STEP zero, and what was in flight from the die is lost; the services of its reserved tiles start anew (R7, R10,
R42, R50, assumption 67). -/
def execComputeDieReset (die : Nat) (s : State) : Host.Outcome State Fault Refusal :=
  let s : State :=
    { s with tiles := s.tiles.filter (fun (e : Nat × Tile) => dieOf e.1 != die), engines := s.engines.filter (fun (e : Nat × Engine) => e.1 / 64 != die)
             flights := s.flights.filter (fun f => f.die != die) }
  .next ((s.modDie die Die.restart).restartServices die)

/-! ### Secure boot (R409, R410) -/

/-- The ROM takes copy A of stage 1, else copy B: the digest of the first whose signature holds (R409). -/
def stage1Digest : Option (List Byte) :=
  ([0, 1].map (fun i => (shake256 (Config.firmware i) 64, Config.firmwareSignature i))).findSome?
    (fun e => if Config.vendorVerifies e.1 e.2 then some e.1 else none)

/-- The bytes of the tree topology table (R411). -/
def topologyBytes (l : List Word) : List Byte := l.flatMap (fun x => leBytes x.toNat 8)

/-- A node of the region tree that boot creates; every field is set in it, with the largest budgets (R339 to R341, assumption
68). -/
def bootNode (kind depth part parent : Nat) : Node :=
  let words : FMap Word := [(0, BitVec.ofNat 64 (kind + depth * 2 ^ 2 + part * 2 ^ 5 + 7 * 2 ^ 29 + 0xFFF * 2 ^ 32))]
  let words := FMap.put 0 words 1 (BitVec.ofNat 64 parent)
  let words := FMap.put 0 words 4 (BitVec.ofNat 64 (1664 + 65536 * 2 ^ 11 + 256 * 2 ^ 28 + 0xFFFFF * 2 ^ 37))
  { words := FMap.put 0 words 5 (BitVec.ofNat 64 (2 ^ 39)) }

/-- The reserved tiles of a die, columns 0 to 3 of row 0, as a word of the root's block (R7, R340). -/
def reservedWord (die : Nat) : Word :=
  BitVec.ofNat 64 ((List.range 4).map (fun i => (512 * die + i + 2 ^ 15) * 2 ^ (16 * i))).sum

/-- The root of the region tree, and partition 0's node below it (R7, R339). DESIGN CHOICE: R7 and R340 give the layout of an entry
of the root's words 16 to 31, not which entry holds which reserved tile; word 16 + d holds those of die d, column i in entry i
(assumption 116). -/
def State.bootTree (s : State) : State :=
  let root := bootNode 0 0 0 0
  let root := { root with words := (List.range 4).foldl (fun m d => FMap.put 0 m (16 + d) (reservedWord d)) root.words }
  let s := { s with nodes := FMap.set s.nodes 0 root }
  let (a, s) := s.newRcb
  { s with nodes := FMap.set s.nodes a (bootNode 1 1 0 0) }

/-- The control block of a node that boot makes stands at its address; the root's, whose address is 0, at the start of the page of the
control blocks, because the boot status array stands at address 0 (R339, R412, assumption 73). -/
def bootHome (frame a : Nat) : Nat := frame * 2 ^ 21 + a % 2 ^ 21

/-- The first tables, and the pages of the boot status array at address 0 of partition 0, of the control blocks and of the descriptors
behind it, registered pinned (R208, R339, R361, R412). DESIGN CHOICE: the pages of the last two are open (assumption 73). -/
def State.bootTables (s : State) : State :=
  match s.firstTables.bind (fun s => s.mapRange 0 true (pageList 0 (2 ^ 23))) with
  | none => s
  | some s =>
    { s with
      registered := s.registered ++ [{ part := 0, base := 0, len := 2 ^ 23, lazy := false, write := true }]
      nodes := s.nodes.map (fun e => (e.1, { e.2 with home := (s.frameOf 0 (2 ^ 21)).map (bootHome · e.1) }))
      descHome := [2 ^ 22, 3 * 2 ^ 21].filterMap (s.frameOf 0) }

/-- The system programs of a die attach their queues: the pager's fault items and INVALIDATE replies, the translation
queue, and the RPC queues of the allocator, the supervisor, the pager, the network service and the logger; their ids, their
ports and their capacities are open (R366 to R372, assumptions 3 and 69). -/
def State.bootServices (s : State) (d base : Nat) : State :=
  let q := fun (i : Nat) => (base + 8 * d + i) % 65536
  let rpc := fun (i c p : Nat) => (q i, serviceQueue 3 (512 * d + c) p)
  let s := { s with queues := [(q 0, serviceQueue 0 (512 * d + 1) 0), (q 1, serviceQueue 0 (512 * d + 1) 1),
                               (q 2, serviceQueue 0 (512 * d + 511) 0), rpc 3 2 0, rpc 4 0 0, rpc 5 1 2, rpc 6 3 0, rpc 7 3 1].foldl
                                 (fun (m : FMap Queue) (e : Nat × Queue) => FMap.set m e.1 e.2) s.queues }
  (s.attachServices d (base + 8 * d)).modDie d (fun x => { x with faultQueue := some (q 0), replyQueue := some (q 1), xlateQueue := some (q 2), allocQueue := some (q 3) })

/-- A die's lantern of the last boot is dumped, and recording starts anew (R406). -/
def Die.dumpLantern (x : Die) : Die := { x with dump := x.lantern, lantern := [] }

/-- The status of a node is decided: the root writes it into the boot status array (R412). -/
def State.setNodeStatus (s : State) (i v : Nat) : State :=
  let s := { s with boot := { s.boot with status := FMap.set s.boot.status i v, since := FMap.set s.boot.since i (s.die 0).clock } }
  s.devWrite 0 i [BitVec.ofNat 8 v]

/-- The package and the parent of an entry of the tree topology table. -/
def entryPackage (x : Word) : Nat := fieldNat x 0 10

/-- The index of the node that serves it. -/
def entryParent (x : Word) : Nat := fieldNat x 16 10

/-- Entry i of the table is rejected (R411). -/
def rejected (l : List Word) (i : Nat) : Bool :=
  let x := l.getD i 0
  (if i = 0 then entryParent x != 0 else decide (i ≤ entryParent x)) || fieldNat x 10 6 != 0 || fieldNat x 26 38 != 0 ||
    ((l.take i).map entryPackage).contains (entryPackage x)

/-- The root checks every entry of its table in ascending index before it serves anything, and writes the status REJECTED (R411, R412). -/
def State.checkEntries (s : State) : State :=
  ((List.range s.boot.topology.length).filter (rejected s.boot.topology)).foldl (fun (a : State) i => a.setNodeStatus i 1) s

/-- Entry 0 is rejected, and no node boots: every other entry is rejected or has an unbooted parent (R411, R412). -/
def State.rejectAll (s : State) : State :=
  (List.range s.boot.topology.length).foldl (fun (a : State) i => a.setNodeStatus i (if rejected a.boot.topology i then 1 else 2)) s

/-- The images that stage 1 loads later hold against the keys that it carries: the system programs and the management firmware (R409). -/
def laterImagesHold : Bool :=
  Config.stage1Verifies (shake256 Config.systemImage 64) (Config.firmwareSignature 2) &&
    Config.stage1Verifies (shake256 Config.managementFirmware 64) (Config.firmwareSignature 3)

/-- The package boots: the ROM and stage 1 verify what they load, each stage extends the measurements, and the system
programs run; a root checks its table. A signature that fails leaves the package unbooted, with status SIGNATURE where it is the root,
and so does a table whose entry 0 is rejected (R409 to R412). -/
def State.bootUp (s : State) : State :=
  let fail := fun (a : State) => if a.boot.root then a.setNodeStatus 0 3 else a
  match stage1Digest with
  | none => fail s
  | some d =>
    let s := s.extend 0 d
    let table := s.boot.root && s.boot.topology != []
    if !laterImagesHold then fail s
    else if table && rejected s.boot.topology 0 then s.rejectAll
    else
      let s := s.extend 1 (shake256 Config.systemImage 64)
      let s := if table then s.extend 2 (shake256 (topologyBytes s.boot.topology) 64) else s
      let (base, s) := s.choose 65536
      let s := (List.range 4).foldl (fun (a : State) d => (a.bootServices d base).modDie d Die.dumpLantern) s.bootTree.bootTables
      let s := if table then s.checkEntries else s
      { s with boot := { s.boot with booted := true } }

/-- What a cold or warm reset keeps: what lies outside the package, the topology table and the root's role, the packages at
the links, the configuration of partition 0 and of the reduction groups; new ticket secrets are drawn (R234, R412,
assumption 68). -/
def State.afterReset (s : State) : State :=
  { State.reset with
    choices := s.choices + 1, boots := s.boots + 1, inbox := s.inbox, outbox := s.outbox, pkg := s.pkg, hostKeys := s.hostKeys
    groups := s.groups.map (fun (e : Nat × Group) => (e.1, { e.2 with arrived := [], taken := [], result := [] }))
    links := s.links.map (fun (e : Nat × Link) => (e.1, ({ peers := e.2.peers } : Link)))
    boot := { root := s.boot.root, topology := s.boot.topology }
    dies := (List.range 4).map (fun d => (d, ({ resets := (s.die d).resets + 1 } : Die))) }

/-- A root boots by itself; another package waits until its parent serves it (R412). -/
def State.bootRoot (s : State) : State := if s.boot.root then s.bootUp else s

/-- COLD_RESET (R234, R409, R410). -/
def execColdReset (s : State) : Host.Outcome State Fault Refusal := .next s.afterReset.bootRoot

/-- WARM_RESET: the lanterns survive (R405, R406); device memory and the weight stores keep their bytes, and their errors stay until a write
(R408, assumption 68). -/
def execWarmReset (s : State) : Host.Outcome State Fault Refusal :=
  let a := { s.afterReset with hbm := s.hbm, hbmPoison := s.hbmPoison }
  let a := (List.range 4).foldl (fun (b : State) d =>
    b.modDie d (fun x => { x with lantern := (s.die d).lantern, lanternSeq := (s.die d).lanternSeq, ws := (s.die d).ws, wsPoison := (s.die d).wsPoison })) a
  .next a.bootRoot

/-- POWER_REMOVAL: every lantern and all other volatile state is lost (R405). -/
def execPowerRemoval (s : State) : Host.Outcome State Fault Refusal :=
  .next { State.reset with
    choices := s.choices + 1, boots := s.boots, inbox := s.inbox, outbox := s.outbox, pkg := s.pkg, hostKeys := s.hostKeys, groups := s.groups.map (fun (e : Nat × Group) => (e.1, { e.2 with arrived := [], taken := [], result := [] }))
    links := s.links.map (fun (e : Nat × Link) => (e.1, ({ peers := e.2.peers } : Link)))
    boot := { root := s.boot.root, topology := s.boot.topology } }

/-! ### Pod boot (R411, R412) -/

/-- The status that a node takes now: none while its parent's is not decided; a node whose images are served verifies them
with its own keys, and what it finds is open (R411, R412, assumption 3). -/
def State.nodeStatus (s : State) (i : Nat) : Option Nat × State :=
  let l := s.boot.topology
  let x := l.getD i 0
  if rejected l i then (some 1, s)
  else if i = 0 then (some 0, s)
  else
    match FMap.find s.boot.status (entryParent x) with
    | none => (none, s)
    | some 0 =>
      if entryParent x = 0 ∧ !s.hasPath (entryPackage x) then (none, s)
      else
        let (c, s) := s.choose 2
        (some (if c = 0 then 0 else 3), s)
    | some _ => (some 2, s)

/-- POD_NODE_SERVE: on the root the status of a node is decided; on another package its parent serves it, and it boots (R412). -/
def execPodNodeServe (i : Nat) (s : State) : Host.Outcome State Fault Refusal :=
  if !s.boot.root then .next (if s.boot.booted ∨ s.boots = 0 then s else s.bootUp)
  else if !s.boot.booted ∨ s.boot.topology.length ≤ i ∨ (FMap.find s.boot.status i).isSome then .next s
  else
    match s.nodeStatus i with
    | (some v, s) => .next (s.setNodeStatus i v)
    | (none, _) => .next s

/-- A node that is not decided has had no path for 2 s, which are 8·10^9 cycles, since its parent has booted (R412). Whether there is a
path between two other packages is not of this package. -/
def State.unreachable (s : State) (i : Nat) : Bool :=
  let x := s.boot.topology.getD i 0
  s.boot.root && s.boot.booted && decide (i < s.boot.topology.length) && (FMap.find s.boot.status i).isNone && i != 0 &&
    !rejected s.boot.topology i && FMap.find s.boot.status (entryParent x) == some 0 &&
    decide (FMap.get 0 s.boot.since (entryParent x) + 8000000000 ≤ (s.die 0).clock) && (entryParent x != 0 || !s.hasPath (entryPackage x))

/-- UNREACHABLE (R412). -/
def execUnreachable (i : Nat) (s : State) : Host.Outcome State Fault Refusal := .next (if s.unreachable i then s.setNodeStatus i 4 else s)

/-! ### Limis links (R414, R417) -/

/-- Change a port. -/
def State.modLink (s : State) (port : Nat) (f : Link → Link) : State :=
  { s with links := FMap.set s.links port (f (FMap.get {} s.links port)) }

/-- What a peer's access does: a load, a store, an atomic or a compare and swap (R415). -/
def peerOp (kind op data expect : Nat) : AccOp :=
  match kind with
  | 0 => .load true
  | 1 => .store data
  | 2 => .amo op data
  | _ => .cas expect data

/-- A peer's access is performed at this package's memory slice, and what it returns goes back in a flit; it is an event of the
peer's agent (R301, R317, R415). An address outside the package's HBM, or a length that no access has, is not of the spec, and
the flit does nothing (assumption 8). -/
def State.peerAccess (s : State) (flit : BitVec 1024) : State :=
  match Config.peerRequest flit with
  | none => s
  | some (pkg, kind, op, pa, n, data, expect) =>
    if pa % n ≠ 0 ∨ 2 ^ 39 < pa + n ∨ !([1, 2, 4, 8].contains n) then s
    else
      let acc := peerOp kind op data expect
      let s := if acc.reads && s.hbmBad pa n then s.noteError (pa / 2 ^ 37) 8 0 (pa / 8) 0x7FF 0 (BitVec.ofNat 64 pa) none else s
      match s.perform acc (.hbm pa) n with
      | (s, some v) => s.putFlit pkg (Config.peerAnswer flit v.toNat)
      | (s, none) => s

/-- Lanes of an all-reduce that another package sends: a contribution of one of its contributors, with a word of padding where the count of
lanes is odd, or a part of a result (R416, assumption 8). -/
def State.reduceArrive (s : State) (flit : BitVec 1024) : State :=
  match Config.reducePart flit with
  | none => s
  | some (result, k, idx, lanes) =>
    match FMap.find s.groups k with
    | none => s
    | some g =>
      if result then { s with groups := FMap.set s.groups k { g with result := g.result ++ lanes } }
      else if g.members[idx]? = some none then
        let l := FMap.get [] g.arrived idx ++ lanes
        let l := if l.length % (g.words + g.words % 2) = g.words ∧ g.words % 2 = 1 then l ++ [0] else l
        { s with groups := FMap.set s.groups k { g with arrived := FMap.set g.arrived idx l } }
      else s

/-- FLIT_RECEIVE: every good flit is acknowledged, and delivered in order and once; a peer's access that it carries is performed
(R414, R415). -/
def execFlitReceive (port : Nat) (flit : Flit) (s : State) : Host.Outcome State Fault Refusal :=
  match FMap.find s.links port with
  | none => .next s
  | some x =>
    if !x.up ∨ !flit.crcOk ∨ x.expect < flit.seq then .next s
    else
      let s := if flit.seq = x.expect then
          (s.modLink port (fun x => { x with received := x.received ++ [flit.data], expect := x.expect + 1 })).peerAccess flit.data |>.reduceArrive flit.data
        else s
      .next { s with outbox := s.outbox ++ [.ack port flit.seq] }

/-- FLIT_ACK: the flit leaves the retry buffer (R414). -/
def execFlitAck (port seq : Nat) (s : State) : Host.Outcome State Fault Refusal :=
  match FMap.find s.links port with
  | none => .next s
  | some x =>
    let first := match x.retry with | e :: _ => e.1 == seq | [] => false
    .next (s.modLink port (fun x => { x with retry := x.retry.filter (fun e => e.1 != seq), fails := if first then 0 else x.fails }))

/-- A flit of a port that is down goes out on another port with a path to its package, where there is one. -/
def State.moveFlit (s : State) (e : Nat × Nat × BitVec 1024) : State × Bool :=
  match s.links.find? (fun l => l.2.up && l.2.peers.contains e.2.1) with
  | none => (s, false)
  | some (p, x) =>
    ({ s with links := FMap.set s.links p { x with retry := x.retry ++ [(x.nextSeq, e.2)], nextSeq := x.nextSeq + 1 }
              outbox := s.outbox ++ [.flit p x.nextSeq e.2.2] }, true)

/-- A path leads to what a flight reaches (R414). -/
def State.pathTo (s : State) (f : Flight) : Bool :=
  match f.kind with
  | .access _ t _ _ _ => s.targetPath t
  | .ewrite _ _ p _ => (match p.spot with | .peer k _ => s.hasPath k | _ => true)
  | .strip _ va _ => (match s.stripTarget f va with | .ok t => s.targetPath t | _ => true)
  | _ => true

/-- A port goes down: its traffic moves; the accesses that lose their last path with it wait from now on (R414). -/
def State.portDown (s : State) (port : Nat) : State :=
  let l := (FMap.get {} s.links port).retry
  let a := s.modLink port (fun x => { x with up := false, retry := [], fails := 0 })
  let a := l.foldl (fun (a : State) e =>
    let (b, moved) := a.moveFlit e
    if moved then b else b.modLink port (fun x => { x with retry := x.retry ++ [e] })) a
  { a with flights := a.flights.map (fun f => if s.pathTo f && !a.pathTo f then { f with lo := Nat.max f.lo (a.die f.die).clock } else f) }

/-- LINK_TRAINING: the partners choose a version; without a common major the link stays or goes down (R417). -/
def execLinkTraining (port : Nat) (peer : List (Nat × Nat)) (s : State) : Host.Outcome State Fault Refusal :=
  if port < 16 then
    let v := chooseVersion (Config.versions 1) peer
    let s := if v.isNone then s.portDown port else s
    .next (s.modLink port (fun x => { x with up := v.isSome, version := v, fails := 0 }))
  else .next s

/-- FLIT_RESEND: the flits from the first unacknowledged one on are sent again; after 8 failed resends the port goes down
(R414). -/
def execFlitResend (port : Nat) (s : State) : Host.Outcome State Fault Refusal :=
  match FMap.find s.links port with
  | none => .next s
  | some x =>
    if !x.up ∨ x.retry = [] then .next s
    else if x.fails = 8 then .next (s.portDown port)
    else
      .next ({ s with outbox := s.outbox ++ x.retry.map (fun e => Output.flit port e.1 e.2.2) : State }.modLink port
        (fun x => { x with fails := x.fails + 1 }))

/-- An access to another package has had no path for 10 µs, which are 40,000 cycles (R414). -/
def State.pathLost (s : State) (f : Flight) : Bool := !s.pathTo f && decide (f.lo + 40000 ≤ (s.die f.die).clock)

/-- PEER_NO_PATH: an access to another package that has had no path for 10 µs is taken as one to an unregistered address: of a strand, of
a strip, of a command (R170, R291, R414). -/
def execPeerNoPath (f : Nat) (s : State) : Host.Outcome State Fault Refusal :=
  match s.flight f with
  | none => .next s
  | some x =>
    if !s.pathLost x then .next s
    else
      match x.kind with
      | .access _ (.peer _ _ va) _ _ _ => .next ((s.dropFlight f).placementFatal x.owner (unregistered va) 0)
      | .strip _ va _ => .next ((s.dropFlight f).engineFatal (homeEngine x.owner.tile) x.owner va .unregistered)
      | .ewrite e c p _ => .next ((s.dropFlight f).engineFatal e c.who p.addr .unregistered)
      | _ => .next s

/-! ### The all-reduce (R416) -/

/-- Contributions are added in pairs of neighbours; an odd one goes on to the next level. -/
def pairUp : List (List Lane) → List (List Lane)
  | a :: b :: r => List.zipWith (fadd false 0 0) a b :: pairUp r
  | l => l

/-- The fixed pairwise tree over the contributors in ascending index (R416, assumption 70). -/
def pairTree : Nat → List (List Lane) → List Lane
  | 0, l => l.headD []
  | n + 1, l => if l.length ≤ 1 then l.headD [] else pairTree n (pairUp l)

/-- Lanes as the words of items. -/
def laneWords (l : List Lane) : List Word :=
  (List.range ((l.length + 1) / 2)).map (fun i => (l.getD (2 * i + 1) 0).setWidth 64 <<< 32 ||| (l.getD (2 * i) 0).setWidth 64)

/-- Words as items of eight words at most; tag and eod of the headers are not stated (assumption 4). -/
def State.resultItems (s : State) (l : List Word) : List Item × State :=
  (List.range ((l.length + 7) / 8)).foldl (fun (r, a) i =>
    let (x, a) := State.freeWord a
    let w := (l.drop (8 * i)).take 8
    (r ++ [({ header := itemHeader w.length (fieldNat x 8 3) false (x.setWidth 8), words := w } : Item)], a)) (([] : List Item), s)

/-- Lanes of a group go to another package, 16 lanes in a flit (R414, R416, assumption 8). -/
def State.sendLanes (s : State) (pkg : Nat) (result : Bool) (group idx : Nat) (l : List Lane) : State :=
  (List.range ((l.length + 15) / 16)).foldl (fun (a : State) i => a.putFlit pkg (Config.reduceFlit result group idx ((l.drop (16 * i)).take 16))) s

/-- The result of a group is pushed to every result queue of this package. -/
def State.pushLocal (s : State) (unit : Nat) (g : Group) (l : List Lane) : State :=
  let (items, s) := s.resultItems (laneWords l)
  g.results.foldl (fun (a : State) q => items.foldl (fun (b : State) x => b.post ⟨0, 11 + unit⟩ q [x]) a) s

/-- The result of a group goes to every contributor: to the result queues of this package, and to the other packages (R416). -/
def State.pushResult (s : State) (unit group : Nat) (g : Group) (l : List Lane) : State :=
  ((g.away.map (·.2)).dedup).foldl (fun (a : State) p => a.sendLanes p true group 0 l) (s.pushLocal unit g l)

/-- Every result queue has room for a result, and a path leads to every other package. -/
def State.resultRoom (s : State) (unit : Nat) (g : Group) : Bool :=
  g.results.all (fun q => s.admits ⟨0, 11 + unit⟩ q (((g.words + 1) / 2 + 7) / 8)) && g.away.all (fun e => s.hasPath e.2)

/-- ALLREDUCE_CONTRIBUTION: the unit takes what a contributor has pushed; where another package's unit adds, it goes on to that package;
the last one gives the sum to all (R416). -/
def execAllreduceContribution (unit group idx : Nat) (data : List Lane) (s : State) : Host.Outcome State Fault Refusal :=
  match FMap.find s.groups group with
  | none => .next s
  | some g =>
    let have_ := FMap.get [] g.arrived idx
    let need := g.words + g.words % 2
    if g.unit ≠ unit ∨ g.members.length ≤ idx ∨ g.words = 0 ∨ 64 < g.words ∨ have_.length < need ∨ data ≠ have_.take g.words ∨
        (FMap.find g.taken idx).isSome then .next s
    else
      let t := FMap.set g.taken idx data
      let h := { g with arrived := FMap.put [] g.arrived idx (have_.drop need), taken := t }
      match g.home with
      | some p =>
        if s.hasPath p then
          .next (({ s with groups := FMap.set s.groups group { h with taken := g.taken } } : State).sendLanes p false group idx data)
        else .next s
      | none =>
        if t.length < g.members.length then .next { s with groups := FMap.set s.groups group h }
        else if s.resultRoom unit g then
          .next (({ s with groups := FMap.set s.groups group { h with taken := [] } } : State).pushResult unit group g
            (pairTree g.members.length ((List.range g.members.length).map (fun i => FMap.get [] t i))))
        else .next s

/-- Lanes of a result that another package's unit has added are whole, and there is room for them (R416). -/
def State.resultWhole (s : State) (g : Group) : Bool :=
  decide (0 < g.words) && decide (g.words ≤ g.result.length) && s.resultRoom g.unit { g with away := [] }

/-- The result that another package's unit has added goes to the result queues of this package (R416). -/
def State.takeResult (s : State) (group : Nat) : State :=
  match FMap.find s.groups group with
  | none => s
  | some g =>
    if s.resultWhole g then
      ({ s with groups := FMap.set s.groups group { g with result := g.result.drop g.words } } : State).pushLocal g.unit g (g.result.take g.words)
    else s

/-! ### Meanings -/
-- BEGIN
-- END

end Sys2Proof.Machine
end

