-- ==== Sys2Proof/Machine/Cycle.lean ====
section
/-!
DEFINITION. What a tile and a die do at the end of each of their cycles: banks, the matrix path, the array, waiting fills, the
counters of the ports, the clock (R3, R9, R45, R163, R259, R266, R388, R389).
-/
namespace Sys2Proof.Machine

/-! ### Banks (R163) -/

/-- A request that waited for a bank of a tile takes effect on its unit (R163, R164). -/
def State.serveRequest (s : State) (t : Nat) (r : BankReq) : State :=
  match r.engine with
  | some e => s.readUnit e t r.unit
  | none =>
    match s.flight r.flight with
    | none => s
    | some f =>
      match f.kind with
      | .access _ _ _ _ _ => s.performFlight f
      | .redeem _ _ _ _ _ _ => s.deliverUnit f t r.unit
      | .fetch _ _ _ _ _ _ _ => s.fetchUnit f t r.unit
      | .strip _ _ _ => s.stripUnit f t r.unit
      | .ewrite _ _ _ _ => s.writeUnit f t r.unit
      | .host _ _ _ => s.hostUnit f
      | _ => s

/-- A request whose flight or whose element is no more. -/
def State.deadRequest (s : State) (r : BankReq) : Bool :=
  match r.engine with
  | some e => !(s.engine e).run.any (fun x => x.phase == .bank)
  | none => (s.flight r.flight).isNone

/-- A bank that a starving request takes is free of the strands in this cycle. -/
def Tile.yieldBanks (y : Tile) (now : Nat) : Tile :=
  { y with bankHeld := (List.range 3).map (fun b =>
      if y.bankTaken.contains b then Nat.min (y.bankHeld.getD b 0) now else y.bankHeld.getD b 0) }

/-- The request that a bank serves next: the oldest refused for 16 cycles, else the oldest. -/
def nextRequest (q : List BankReq) (b : Nat) : Option BankReq :=
  let l := q.filter (fun r => r.bank == b)
  match l.find? (fun r => decide (16 ≤ r.refused)) with
  | some r => some r
  | none => l.head?

/-- The other requests of a bank were refused in this cycle. -/
def refuseOthers (q : List BankReq) (b : Nat) : List BankReq :=
  q.map (fun r => if r.bank = b then { r with refused := r.refused + 1 } else r)

/-- A bank serves one request if no strand holds it; the others count a refusal. -/
def State.serveBank (s : State) (t b : Nat) : State :=
  match nextRequest (s.tile t).bankQ b with
  | none => s
  | some r =>
    if s.banksFree t [b] then
      let s := (s.takeBanks t [b]).modTile t (fun y => { y with bankQ := refuseOthers (y.bankQ.erase r) b })
      s.serveRequest t r
    else s.modTile t (fun y => { y with bankQ := refuseOthers y.bankQ b })

/-- The request at the head of the matrix path is starving. -/
def Tile.pathStarves (y : Tile) : Bool := match y.path with | [] => false | r :: _ => decide (16 ≤ r.refused)

/-- The banks and the matrix path of a tile in a cycle; the path goes before the others only when it starves (R163, R259,
assumption 71). -/
def State.bankCycle (s : State) (t : Nat) : State :=
  let s := s.modTile t (fun y => { y.yieldBanks (s.now t) with bankQ := y.bankQ.filter (fun r => !s.deadRequest r) })
  let serve := fun (a : State) => [0, 1, 2].foldl (fun (b : State) k => b.serveBank t k) a
  let s := if (s.tile t).pathStarves then serve (s.pathCycle t) else (serve s).pathCycle t
  s.modTile t (fun y => { y with bankTaken := [] })

/-! ### The counters of the ports (R388) -/

/-- A counter of 48 bits that saturates. -/
def up48 (n : Nat) : Nat := Nat.min (n + 1) (2 ^ 48 - 1)

/-- A push through a port waits for admission. -/
def Tile.pushParked (y : Tile) (pn : Nat) : Bool :=
  y.strands.any (fun e => e.2.running && (match e.2.park with | some p => p.kind == 2 && p.index == pn | none => false))

/-- One cycle of a port's counters. -/
def Port.count (p : Port) (cap : Nat) (waits : Bool) : Port :=
  let q := { p with moved := false }
  if p.moved then { q with moving := up48 p.moving }
  else if p.consumer then
    if p.held = cap then { q with full := up48 p.full }
    else if p.items = [] ∧ p.waiting ≠ [] then { q with empty := up48 p.empty }
    else q
  else if waits then { q with full := up48 p.full }
  else q

/-- The counters of a tile's ports; a frozen tile counts nothing. -/
def State.countPorts (s : State) (t : Nat) : State :=
  s.modTile t (fun y =>
    { y with ports := y.ports.map (fun e =>
        (e.1, if y.frozen then { e.2 with moved := false } else e.2.count (s.queue e.2.queue).cap (y.pushParked e.1))) })

/-- The end of a tile's cycle. -/
def State.endTile (s : State) (t : Nat) : State := (((s.bankCycle t).arrayCycle t).serveFills t).countPorts t

/-! ### The end of a die's cycle -/

/-- The second snapshot of a periscope, 65,536 cycles after the first by the tile's own cycles (R389). -/
def State.snapPort (s : State) (d : Nat) (x : PortSnap) : PortSnap :=
  if x.after.isNone ∧ dieOf x.tile = d ∧ x.cycle + 65536 ≤ s.now x.tile then
    { x with after := match s.port x.tile x.port with
        | some p => some (p.full, p.empty, p.moving)
        | none => some (x.full, x.empty, x.moving) }
  else x

/-- The second snapshots of the walks under way. -/
def State.snapCalls (s : State) (d : Nat) : State :=
  { s with calls := s.calls.map (fun e => (e.1, { e.2 with kind := match e.2.kind with
      | .periscope t p l => .periscope t p (l.map (s.snapPort d))
      | k => k })) }

/-- The clock of a die goes on; with a new fabric cycle a new throttle step takes effect (R3, R9, R399). -/
def Die.tick (x : Die) : Die :=
  let y := { x with clock := x.clock + 1 }
  if y.clock % 2 = 0 then { y with pwrStep := x.pwrDue.getD x.pwrStep, pwrDue := none } else y

/-- The next cycle of a die begins (R3, R9). -/
def State.endDie (s : State) (d : Nat) : State := ((s.modDie d Die.tick).snapCalls d).serveRoom

/-- One of the 8-byte words of a fetch or of a strip is bound (R251, R298). -/
def State.bind_ (s : State) (f i : Nat) : State :=
  match s.flight f with
  | none => s
  | some x =>
    match x.kind with
    | .strip _ _ _ => s.bindStrip f i
    | _ => s.bindWord f i

end Sys2Proof.Machine
end

