-- ==== Sys2Proof/Machine/VecOps.lean ====
section
/-!
DEFINITION. What the vector instructions share: their operands, the checks of the 4-byte words they touch, the lanes they
write, SR draws, SHORT and LONG results (R132 to R139).
-/
namespace Sys2Proof.Machine

/-! ### Words of scratchpad (R135, R139) -/

/-- The 4-byte words of n lanes from an address, modulo 2^20 (R135). -/
def wordsFrom (x n : Nat) : List Nat := (List.range n).map (fun i => (x + 4 * i) % 2 ^ 20)

/-- The address that a pointer register holds. -/
def State.ptr (s : State) (w : Who) (i : Nat) : Nat := ((s.strand w).readP i).addr.toNat

/-- The lowest of a list of addresses. -/
def lowest : List Nat → Option Nat
  | [] => none
  | x :: r =>
    match lowest r with
    | none => some x
    | some y => some (Nat.min x y)

/-- A write of the words of xs leaves half of the 8-byte word around x unwritten (R408). -/
def narrowIn (xs : List Nat) (x : Nat) : Bool := !(xs.contains (x / 8 * 8) && xs.contains (x / 8 * 8 + 4))

/-- The address traps of the words that an instruction names, over all of its operands: the lowest misaligned one, else the lowest
one that the strand may not access. A word that is read and written counts as read (R135, R158). -/
def State.spansFault (s : State) (w : Who) (reads writes : List Nat) : Option Cause :=
  let info := fun x => addrInfo x (natOfBool (!reads.contains x))
  match lowest ((reads ++ writes).filter (fun x => x % 4 ≠ 0)) with
  | some x => some { code := .misaligned, info := info x }
  | none => (lowest ((reads ++ writes).filter (fun x => (s.localPhys w x).isNone))).map (fun x => { code := .accessDenied, info := info x })

/-- Poison in the words that an operand reads, or in the words around those that it writes in part (R408). -/
def State.wordsPoison (s : State) (w : Who) (write : Bool) (touched : List Nat) : Option Cause :=
  (lowest (touched.filter (fun x =>
    (!write || narrowIn touched x) && (s.tile w.tile).poisoned (s.phys w x) 4))).map (fun x => eccCause 1 x w.tile (s.phys w x / 8))

/-- The 64-byte units of physical scratchpad that words lie in (R139). -/
def State.wordUnits (s : State) (w : Who) (xs : List Nat) : List Nat := (xs.map (fun x => s.phys w x / 64)).dedup

/-- The words of one operand as watchpoints see them: one access (R395, assumption 99). -/
def State.wordAccs (s : State) (w : Who) (write : Bool) (xs : List Nat) : List Acc :=
  xs.zipIdx.map (fun e => { pa := s.phys w e.1, n := 4, load := !write, store := write, more := decide (0 < e.2) })

/-- A 4-byte word of scratchpad at a local address. -/
def State.word4 (s : State) (w : Who) (x : Nat) : Lane := BitVec.ofNat 32 (s.readLocal w x 4)

/-- The active ones of the lanes 0 to n - 1. -/
def activeLanes (m : BitVec 32) (n : Nat) : List Nat := (List.range n).filter (fun i => bitAt m i)

/-- The value of the mask that a half names. -/
def State.maskVal (s : State) (w : Who) (k : BitVec 3) : BitVec 32 := ((s.strand w).readK k.toNat).val

/-- The words of an operand that a mask makes active. -/
def activeWords (m : BitVec 32) (xs : List Nat) : List Nat :=
  (activeLanes m 32).filterMap (fun i => xs[i]?)

/-! ### Operands (R132 to R134) -/

/-- Source a of a vector instruction. -/
def vSrcA (t : LTail) : Src := { loc := vLoc t.fa t.a, trap := t.ta, items := 2 }

/-- Source b of a vector instruction. -/
def vSrcB (t : LTail) : Src := { loc := vLoc t.fb t.b, trap := t.tb, isB := true, items := 2 }

/-- The destination of a vector instruction. -/
def vDst (t : LTail) : Loc := vLoc t.fd t.d

/-- d as a source of VFMA, VFMS, VFNMA and VIMAD; a pointer is incremented once, as the destination (R140, R142). -/
def vSrcD (t : LTail) : Src :=
  { loc := (match vDst t with | .m i _ => .m i false | l => l), isB := true, items := 2 }

/-- The 4-byte words of an operand in scratchpad (R135). -/
def State.spanOf (s : State) (w : Who) : Loc → List Nat
  | .m i _ => wordsFrom (s.ptr w i) 32
  | _ => []

/-- The words of a source in scratchpad that are read: all of them where the instruction moves values across lanes, else those of
the active lanes (R64, R135, assumption 21). -/
def State.lanesRead (s : State) (w : Who) (cross : Bool) (m : BitVec 32) (l : Loc) : List Nat :=
  if cross then s.spanOf w l else activeWords m (s.spanOf w l)

/-- The traps of vector sources beside those of their addresses, in order: pops, poison, strips. -/
def State.vecSrcsFault (s : State) (w : Who) (cross : Bool) (m : BitVec 32) : List Src → Option Cause
  | [] => none
  | r :: rs =>
    match r.loc with
    | .q i =>
      match s.popsFault w i r.items with
      | some c => some c
      | none => ((List.range r.items).foldl (fun (a : State) _ => (a.pop1 w i).2) s).vecSrcsFault w cross m rs
    | .m i post =>
      match s.wordsPoison w false (s.lanesRead w cross m (.m i post)) with
      | some c => some c
      | none => s.vecSrcsFault w cross m rs
    | .v i =>
      match s.stripFault w i with
      | some c => some c
      | none => (s.takeStrip w i).vecSrcsFault w cross m rs
    | _ => s.vecSrcsFault w cross m rs

/-- Take vector sources in order (R19 rule 2, R134). -/
def takeVectors (pre cur : State) (w : Who) : List Src → List VWord × State
  | [] => ([], cur)
  | r :: rs =>
    let (x, c1) := takeVector pre cur w r.loc r.items
    let (xs, c2) := takeVectors pre c1 w rs
    (x :: xs, c2)

/-- The first of a list of vectors. -/
def v0 (xs : List VWord) : VWord := xs.getD 0 0

/-- The second of a list of vectors. -/
def v1 (xs : List VWord) : VWord := xs.getD 1 0

/-- The third of a list of vectors. -/
def v2 (xs : List VWord) : VWord := xs.getD 2 0

/-- The active lanes of a mask below lane i. -/
def activeBelow (m : BitVec 32) (i : Nat) : Nat := (activeLanes m i).length

/-- The random number of lane i: the active lanes draw in ascending order from the state before the bundle (R121). -/
def State.laneDraw (s : State) (w : Who) (m : BitVec 32) (i : Nat) : Nat :=
  drawNth (s.strand w).rndSeed (activeBelow m i)

/-- The values of sources, where none of their pops would wait. -/
def State.peekVectors (s : State) (w : Who) (l : List Src) : Option (List VWord) :=
  match (s.srcsWait w l).1 with
  | some _ => none
  | none => some (takeVectors s s w l).1

/-! ### The shape of a vector instruction -/

/-- What a vector instruction is: its mask, sources and destination; the lanes it writes; whether it draws; the result
from the state before the bundle, the mask and the sources. -/
structure VecOp where
  k : BitVec 3
  srcs : List Src
  dst : Loc
  /-- The lanes written under a mask: the active ones, for most. -/
  lanes : List VWord → BitVec 32 → BitVec 32 := fun _ m => m
  /-- A destination in scratchpad is the word of this lane, and not all 128 bytes (R139, R154). -/
  only : Option (List VWord → Nat) := none
  /-- A lane of the result may come from another lane of a source, so that sources in scratchpad are read whole. -/
  cross : Bool := false
  sr : Bool := false
  f : State → Who → BitVec 32 → List VWord → VWord

/-- The pointers that an instruction post-increments: those of its sources, then that of its destination. -/
def VecOp.post (o : VecOp) : List Loc := o.srcs.map (·.loc) ++ [o.dst]

/-- The lanes that an instruction writes, where its pops would not wait. -/
def VecOp.written (o : VecOp) (s : State) (w : Who) : BitVec 32 :=
  match s.peekVectors w o.srcs with
  | some xs => o.lanes xs (s.maskVal w o.k)
  | none => 0

/-- The words of a destination in scratchpad that are written. -/
def VecOp.stores (o : VecOp) (s : State) (w : Who) : List Nat :=
  if o.dst.isM then activeWords (o.written s w) (s.spanOf w o.dst) else []

/-- The words that its sources in scratchpad are, whole, those of VINS too (R139; DEDUCED, assumption 87). -/
def VecOp.srcSpan (o : VecOp) (s : State) (w : Who) : List Nat := o.srcs.flatMap (fun r => s.spanOf w r.loc)

/-- The words that a destination in scratchpad is, whatever the mask. -/
def VecOp.dstSpan (o : VecOp) (s : State) (w : Who) : List Nat :=
  match o.only, s.peekVectors w o.srcs with
  | none, _ => s.spanOf w o.dst
  | some f, some xs => ((s.spanOf w o.dst)[f xs]?).toList
  | some _, none => []

/-- The traps of the destination beside those of its addresses: those of a push, or poison around the words written (R217, R408). -/
def VecOp.dstFault (o : VecOp) (s : State) (w : Who) : Option Cause :=
  match o.dst with
  | .q i => (s.afterPops w o.srcs).pushFault w i
  | .m _ _ => s.wordsPoison w true (o.stores s w)
  | _ => none

/-- The traps of an instruction: its addresses, then its sources in order, then its destination (R135, assumption 21). -/
def VecOp.fault (o : VecOp) (s : State) (w : Who) : Option Cause :=
  firstCause [s.spansFault w (o.srcSpan s w) (o.dstSpan s w), s.vecSrcsFault w o.cross (s.maskVal w o.k) o.srcs, o.dstFault s w]

/-- The units of the scratchpad operands of an instruction (R139). -/
def VecOp.units (o : VecOp) (s : State) (w : Who) : List Nat := s.wordUnits w (o.srcSpan s w ++ o.dstSpan s w)

/-- The accesses of the scratchpad operands of an instruction: inactive lanes are neither read nor written (R64, R133). -/
def VecOp.accs (o : VecOp) (s : State) (w : Who) : List Acc :=
  o.srcs.flatMap (fun r => s.wordAccs w false (s.lanesRead w o.cross (s.maskVal w o.k) r.loc)) ++ s.wordAccs w true (o.stores s w)

/-- It reads or writes scratchpad or a queue. -/
def VecOp.memory (o : VecOp) : Bool := o.post.any (fun l => l.isM || l.isQ)

/-- A SHORT vector instruction (R132 to R138). -/
def vecHalf (o : VecOp) : Half :=
  { vec := true, mask := o.k.toNat, srcs := o.srcs, dests := [o.dst]
    draws := fun s w => if o.sr then (activeLanes (s.maskVal w o.k) 32).length else 0
    privileged := fun s w => s.dstPrivileged w o.dst
    traps := o.fault
    waits := fun _ cur w => ioWait cur w o.srcs o.dst 2
    units := o.units
    accs := o.accs
    memory := o.memory
    effect := fun pre cur w =>
      let m := pre.maskVal w o.k
      let (xs, cur) := takeVectors pre cur w o.srcs
      (putVector pre cur w o.dst (o.lanes xs m) (o.f pre w m xs)).bumps w o.post }

/-- A LONG vector instruction: it writes a v register between lo and hi cycles later (R138). -/
def vecLong (o : VecOp) (lo hi : Nat) : Half :=
  { vecHalf o with
    waits := fun _ cur w => ioWait cur w o.srcs .none 1
    effect := fun pre cur w =>
      let m := pre.maskVal w o.k
      let (xs, cur) := takeVectors pre cur w o.srcs
      let old := pre.vector w o.dst
      (cur.bumps w o.post).sendLong w lo (some hi) (.long [.v (blend (o.lanes xs m) (o.f pre w m xs) old)]) (o.dst.ref w).toList }

/-! ### Instructions with words of their own (R154 to R157) -/

/-- A load or store of the vector class through a pointer that names other words than its 128 bytes: the pointer and how
much it is incremented by; the words whose addresses are checked and that count for R139; for each lane the word it
reads or writes, if any; for a load the value of a lane without a word; the operand that its addresses are computed from (R157). -/
structure VecMem where
  k : BitVec 3
  base : Nat
  post : Bool
  /-- The multiple of the stride that a post-increment adds (R156). -/
  step : Nat := 1
  store : Bool
  srcs : List Src
  dst : Loc
  span : State → Who → BitVec 32 → List VWord → List Nat
  word : State → Who → List VWord → Nat → Option Nat
  index : Loc := .none

/-- The words of the active lanes. -/
def VecMem.touched (o : VecMem) (s : State) (w : Who) (m : BitVec 32) (xs : List VWord) : List Nat :=
  (activeLanes m 32).filterMap (fun i => o.word s w xs i)

/-- A post-increment by a multiple of the stride, modulo 2^20 (R40, R156). -/
def Ptr.bumpBy (p : Ptr) (n : Nat) : Ptr := { p with addr := p.addr + BitVec.ofNat 20 n * p.stride.signExtend 20 }

/-- A value of the strand's scratchpad in the lanes that have a word, zero in the others. -/
def VecMem.loaded (o : VecMem) (s : State) (w : Who) (xs : List VWord) : VWord :=
  ofLanes (fun i => match o.word s w xs i with | some x => s.word4 w x | none => 0)

/-- The active lanes of a vector go to their words; where two name one word, the higher lane's value stands (R157). -/
def VecMem.stored (o : VecMem) (pre cur : State) (w : Who) (m : BitVec 32) (xs : List VWord) : State :=
  let ws := o.touched pre w m xs
  let s := (activeLanes m 32).foldl (fun (a : State) i =>
    match o.word pre w xs i with
    | some x => storeLocal pre a w x 4 (lane (v0 xs) i).toNat
    | none => a) cur
  ws.foldl (fun (a : State) x => if narrowIn ws x then a else a.modTile w.tile (fun t => t.cleanse (pre.phys w x))) s

/-- Its other operands as those of a vector instruction. -/
def VecMem.op (o : VecMem) : VecOp := { k := o.k, srcs := o.srcs, dst := o.dst, f := fun _ _ _ _ => 0 }

/-- The words whose addresses are checked and that count for R139. -/
def VecMem.whole (o : VecMem) (s : State) (w : Who) : List Nat :=
  match s.peekVectors w o.srcs with
  | some xs => o.span s w (s.maskVal w o.k) xs
  | none => []

/-- The words of active lanes, which are read or written (R64). -/
def VecMem.moved (o : VecMem) (s : State) (w : Who) : List Nat :=
  match s.peekVectors w o.srcs with
  | some xs => (o.touched s w (s.maskVal w o.k) xs).dedup
  | none => []

/-- Its own words, as far as their addresses can be formed: an index operand in scratchpad has to be readable (R135, R157). -/
def VecMem.formed (o : VecMem) (s : State) (w : Who) : List Nat :=
  if (s.spansFault w (s.spanOf w o.index) []).isSome then [] else o.whole s w

/-- The traps of such a load or store: the addresses of all its operands, its sources, its own words, its destination (R135). -/
def VecMem.fault (o : VecMem) (s : State) (w : Who) : Option Cause :=
  let own := o.formed s w
  firstCause [s.spansFault w (o.op.srcSpan s w ++ if o.store then [] else own) (o.op.dstSpan s w ++ if o.store then own else []),
    s.vecSrcsFault w false (s.maskVal w o.k) o.srcs, s.wordsPoison w o.store (o.moved s w), o.op.dstFault s w]

/-- The half of such a load or store. All are SHORT. -/
def vecMemHalf (o : VecMem) : Half :=
  { vec := true, mask := o.k.toNat, srcs := { loc := .m o.base false } :: o.srcs, dests := [o.dst, .m o.base o.post]
    privileged := fun s w => s.dstPrivileged w o.dst
    traps := o.fault
    waits := fun _ cur w => ioWait cur w o.srcs o.dst 2
    units := fun s w => (s.wordUnits w (o.whole s w) ++ o.op.units s w).dedup
    accs := fun s w => s.wordAccs w o.store (o.moved s w) ++ o.op.accs s w
    memory := true
    effect := fun pre cur w =>
      let m := pre.maskVal w o.k
      let (xs, cur) := takeVectors pre cur w o.srcs
      let cur := if o.store then o.stored pre cur w m xs else putVector pre cur w o.dst m (o.loaded pre w xs)
      let cur := cur.bumps w o.op.post
      if o.post then cur.modStrand w (fun y => y.writeP o.base ((y.readP o.base).bumpBy o.step)) else cur }

/-- A result lane by lane from the lanes of the sources. -/
def lanewise (f : Nat → Lane → Lane → Lane → Lane) (xs : List VWord) : VWord :=
  ofLanes (fun i => f i (lane (v0 xs) i) (lane (v1 xs) i) (lane (v2 xs) i))

end Sys2Proof.Machine
end

