-- ==== Sys2Proof/Machine/VecFloat.lean ====
section
/-!
DEFINITION. The vector instructions on FP32 lanes: arithmetic, comparison, classification, conversion, quantisation,
reductions, scans and top-k (R140, R141, R143, R144, R147, R149 to R153).
-/
namespace Sys2Proof.Machine

/-! ### Arithmetic (R140, R141) -/

/-- The rounding field, sub [2:0] (R118). -/
def roundOf (t : LTail) : Nat := fieldNat t.sub 0 3

/-- The random number of lane i where the mode is .sr, and 0 otherwise. -/
def State.rnd (s : State) (w : Who) (m : BitVec 32) (sr : Bool) (i : Nat) : Nat := if sr then s.laneDraw w m i else 0

/-- A rounded operation on lanes; f takes the mode, the random number and the lanes of a, b and d. -/
def roundOp (t : LTail) (srcs : List Src) (f : Nat → Nat → Lane → Lane → Lane → Lane) : VecOp :=
  let mode := roundOf t
  let sr := mode == 4
  { k := t.k, srcs := srcs, dst := vDst t, sr := sr
    f := fun s w m xs => lanewise (fun i => f mode (s.rnd w m sr i)) xs }

/-- A two-source operation that rounds. -/
def hVround2 (f : Nat → Nat → Lane → Lane → Lane) (t : LTail) : Half :=
  vecHalf (roundOp t [vSrcA t, vSrcB t] (fun mode r x y _ => f mode r x y))

/-- VADD (R140). -/
def hVadd : LTail → Half := hVround2 (fadd false)

/-- VSUB (R140). -/
def hVsub : LTail → Half := hVround2 (fadd true)

/-- VMUL (R140). -/
def hVmul : LTail → Half := hVround2 fmul

/-- VFMA, VFMS and VFNMA: the product is added to d, d is taken from it, or it is taken from d (R140). -/
def hVfma (np nz : Bool) (t : LTail) : Half :=
  vecHalf (roundOp t [vSrcA t, vSrcB t, vSrcD t] (ffma np nz))

/-- VDIV: LONG, 20 to 28 cycles (R140, R141). -/
def hVdiv (t : LTail) : Half := vecLong (roundOp t [vSrcA t, vSrcB t] (fun mode r x y _ => fdiv mode r x y)) 20 28

/-- VSQRT: LONG, 20 to 28 cycles (R140, R141). -/
def hVsqrt (t : LTail) : Half := vecLong (roundOp t [vSrcA t] (fun mode r x _ _ => fsqrt mode r x)) 20 28

/-- An operation on the lanes of a and b that draws nothing. -/
def plainOp (t : LTail) (srcs : List Src) (f : Lane → Lane → Lane) : VecOp :=
  { k := t.k, srcs := srcs, dst := vDst t, f := fun _ _ _ xs => lanewise (fun _ x y _ => f x y) xs }

/-- VRCP, VRSQ, VEXP2, VLOG2 and VTANH: LONG, 16 to 24 cycles (R140, R141). -/
def hVfun (f : Lane → Lane) (t : LTail) : Half := vecLong (plainOp t [vSrcA t] (fun x _ => f x)) 16 24

/-- VMIN and VMAX; sub 1 is .num (R140). -/
def hVpick (big : Bool) (t : LTail) : Half := vecHalf (plainOp t [vSrcA t, vSrcB t] (fpick big (bitAt t.sub 0)))

/-- VABS (R140). -/
def hVabs (t : LTail) : Half := vecHalf (plainOp t [vSrcA t] (fun x _ => x &&& 0x7FFFFFFF))

/-- VNEG (R140). -/
def hVneg (t : LTail) : Half := vecHalf (plainOp t [vSrcA t] (fun x _ => x ^^^ 0x80000000))

/-! ### Comparison and classification (R143, R144) -/

/-- The mask of the lanes on which a condition holds. -/
def laneMask (f : Lane → Lane → Bool) (x y : VWord) : BitVec 32 :=
  BitVec.ofNat 32 (((List.range 32).filter (fun i => f (lane x i) (lane y i))).map (2 ^ ·)).sum

/-- A comparison into a k register; bits of inactive lanes keep their values (R143). -/
def compareOp (t : LTail) (f : Lane → Lane → Bool) : VecOp :=
  { k := t.k, srcs := [vSrcA t, vSrcB t], dst := vDst t, f := fun _ _ _ xs => (laneMask f (v0 xs) (v1 xs)).setWidth 1024 }

/-- VCMP (R143). -/
def hVcmp (t : LTail) : Half := vecHalf (compareOp t (fcond (fieldNat t.sub 0 3)))

/-- VCLASS (R144). -/
def hVclass (t : LTail) : Half := vecHalf (plainOp t [vSrcA t] (fun x _ => fclass x))

/-! ### Conversion and quantisation (R147, R149, R150) -/

/-- VCVT: sub [2:0] mode, [6:3] format, [8:7] direction (R147). -/
def hVcvt (t : LTail) : Half :=
  let f := fieldNat t.sub 3 4
  vecHalf (roundOp t [vSrcA t] (fun mode r x _ _ =>
    if fieldNat t.sub 7 2 = 0 then narrow f mode r x else widen f mode r x))

/-- The formats of VQNT with their largest finite values as FP32 (R150). -/
def qntFmt (f : Nat) : Fmt × Lane :=
  match f with
  | 0 => (e4m3, 0x43E00000)
  | 1 => (e5m2, 0x47600000)
  | _ => (e2m1, 0x40C00000)

/-- VQNT: sub [4:3] the format, sub [5] the scale form (R150). -/
def hVqnt (t : LTail) : Half :=
  let (f, big) := qntFmt (fieldNat t.sub 3 2)
  if bitAt t.sub 5 then
    vecHalf (plainOp t [vSrcA t] (fun x _ => BitVec.ofNat 32 (s20Of (fdiv 0 0 x big))))
  else
    vecHalf (roundOp t [vSrcA t, vSrcB t] (fun mode r x y _ => BitVec.ofNat 32 (quantise f mode r x (y.toNat % 2 ^ 20))))

/-- The maximum or minimum of values in order: the first NaN, quietened, or the extreme value (R149, R151). -/
def extremeOf (big : Bool) (l : List Lane) : Lane :=
  match firstNan l with
  | some n => n
  | none =>
    match l with
    | [] => inf32 big
    | x :: r => r.foldl (fpick big false) x

/-- The members of a strand's gang row, west to east, or the strand alone (R149). -/
def State.rowMembers (s : State) (w : Who) : List Who := (s.members w).filter (fun x => rowOf x.tile == rowOf w.tile)

/-- VQXMAX: LONG, 12 to 24 cycles (R149). -/
def hVqxmax (t : LTail) : Half :=
  vecLong
    { k := t.k, srcs := [vSrcA t], dst := vDst t
      f := fun s w _ _ => ofLanes (fun i =>
        extremeOf true (((s.rowMembers w).filter (fun x => bitAt (s.maskVal x t.k) i)).map
          (fun x => lane (s.vector x (vSrcA t).loc) i))) } 12 24

/-! ### Reductions, scans and top-k (R151 to R153) -/

/-- The values of the active lanes in lane order. -/
def activeValues (m : BitVec 32) (x : VWord) : List Lane := (activeLanes m 32).map (lane x)

/-- The fixed tree of VRSUM: level n adds values 2^(n-1) lanes apart (R151). -/
def treeSum (op : Lane → Lane → Lane) (t : Nat → Lane) : Nat → Nat → Lane
  | 0, i => t i
  | n + 1, i => op (treeSum op t n i) (treeSum op t n (i + 2 ^ n))

/-- The FP32 sum of the active lanes; the others enter as −0 (R151). -/
def fpSum (mode : Nat) (m : BitVec 32) (x : VWord) : Lane :=
  treeSum (fadd false mode 0) (fun i => if bitAt m i then lane x i else 0x80000000) 5 0

/-- The larger or smaller of two integers. -/
def intPick (big unsigned : Bool) (x y : Lane) : Lane :=
  let less := if unsigned then x.ult y else x.slt y
  if less == big then y else x

/-- A maximum or minimum of integer lanes (R151). -/
def intExtreme (big unsigned : Bool) (l : List Lane) : Lane :=
  match l with
  | [] => 0
  | x :: r => r.foldl (intPick big unsigned) x

/-- A reduction whose result goes to every active lane. -/
def reduceOp (t : LTail) (f : BitVec 32 → VWord → Lane) : VecOp :=
  { k := t.k, srcs := [vSrcA t], dst := vDst t, f := fun _ _ m xs => ofLanes (fun _ => f m (v0 xs)) }

/-- VRSUM: sub [1:0] mode, sub [2] .i (R151). -/
def hVrsum (t : LTail) : Half :=
  vecHalf (reduceOp t (fun m x =>
    if bitAt t.sub 2 then (activeValues m x).foldl (· + ·) 0 else fpSum (fieldNat t.sub 0 2) m x))

/-- VRMAX and VRMIN: sub [2] .i, sub [3] .u (R151). -/
def hVrpick (big : Bool) (t : LTail) : Half :=
  vecHalf (reduceOp t (fun m x =>
    if bitAt t.sub 2 then intExtreme big (bitAt t.sub 3) (activeValues m x) else extremeOf big (activeValues m x)))

/-- The operations of VSCAN: the first value, one step, and what .ex delivers first (R152). -/
def scanOp (op mode : Nat) : (Lane → Lane) × (Lane → Lane → Lane) × Lane :=
  let first := fun x => if isNan x then quieten x else x
  match op with
  | 0 => (first, fadd false mode 0, 0)
  | 1 => (id, (· + ·), 0)
  | 2 => (first, fpick true false, 0xFF800000)
  | _ => (id, intPick true false, 0x80000000)

/-- The running result behind the first n lanes, none before the first active lane (R152). -/
def scanTo (op : (Lane → Lane) × (Lane → Lane → Lane) × Lane) (m : BitVec 32) (x : VWord) : Nat → Option Lane
  | 0 => none
  | n + 1 =>
    let r := scanTo op m x n
    if bitAt m n then
      match r with
      | none => some (op.1 (lane x n))
      | some y => some (op.2.1 y (lane x n))
    else r

/-- VSCAN: sub [1:0] mode, [3:2] op, [4] .ex (R152). -/
def hVscan (t : LTail) : Half :=
  let op := scanOp (fieldNat t.sub 2 2) (fieldNat t.sub 0 2)
  vecHalf
    { k := t.k, srcs := [vSrcA t], dst := vDst t
      f := fun _ _ m xs => ofLanes (fun i =>
        (scanTo op m (v0 xs) (if bitAt t.sub 4 then i else i + 1)).getD op.2.2) }

/-- The rank of a value in VTOPK: every NaN below −∞ (R153). -/
def topRank (x : Lane) : Int := if isNan x then -(2 ^ 40) else rank32 x

/-- Put a lane into a list of lanes in descending rank, behind its equals. -/
def rankInsert (x : VWord) (i : Nat) : List Nat → List Nat
  | [] => [i]
  | j :: r => if topRank (lane x j) < topRank (lane x i) then i :: j :: r else j :: rankInsert x i r

/-- The active lanes by descending value, lower lanes first among equals (R153). -/
def ranking (m : BitVec 32) (x : VWord) : List Nat := (activeLanes m 32).foldl (fun l i => rankInsert x i l) []

/-- VTOPK: sub 1 is the index form; every lane is written (R153). -/
def hVtopk (t : LTail) : Half :=
  let idx := bitAt t.sub 0
  vecHalf
    { k := t.k, srcs := if idx then [vSrcA t, vSrcB t] else [vSrcA t], dst := vDst t
      lanes := fun _ _ => 0xFFFFFFFF
      f := fun _ _ m xs =>
        let order := ranking m (v0 xs)
        ofLanes (fun j =>
          match order[j]? with
          | some i => lane (if idx then v1 xs else v0 xs) i
          | none => if idx then 0xFFFFFFFF else 0x7FC00000) }

-- BEGIN
/-- R140: S form: FP32 add per lane. -/
def execVadd (t : STail) (s : State) : Host.Outcome State Fault Refusal := run1 (hVadd t.toL) s

/-- R140: L form of VADD. -/
def execVaddL (t : LTail) (s : State) : Host.Outcome State Fault Refusal := run1 (hVadd t) s

/-- R140: S form: FP32 subtract. -/
def execVsub (t : STail) (s : State) : Host.Outcome State Fault Refusal := run1 (hVsub t.toL) s

/-- R140: L form of VSUB. -/
def execVsubL (t : LTail) (s : State) : Host.Outcome State Fault Refusal := run1 (hVsub t) s

/-- R140: S form: FP32 multiply. -/
def execVmul (t : STail) (s : State) : Host.Outcome State Fault Refusal := run1 (hVmul t.toL) s

/-- R140: L form of VMUL. -/
def execVmulL (t : LTail) (s : State) : Host.Outcome State Fault Refusal := run1 (hVmul t) s

/-- R140: S form: fused x × y + z. -/
def execVfma (t : STail) (s : State) : Host.Outcome State Fault Refusal := run1 (hVfma false false t.toL) s

/-- R140: L form of VFMA. -/
def execVfmaL (t : LTail) (s : State) : Host.Outcome State Fault Refusal := run1 (hVfma false false t) s

/-- R140: S form: fused x × y - z. -/
def execVfms (t : STail) (s : State) : Host.Outcome State Fault Refusal := run1 (hVfma false true t.toL) s

/-- R140: L form of VFMS. -/
def execVfmsL (t : LTail) (s : State) : Host.Outcome State Fault Refusal := run1 (hVfma false true t) s

/-- R140: S form: fused z - x × y. -/
def execVfnma (t : STail) (s : State) : Host.Outcome State Fault Refusal := run1 (hVfma true false t.toL) s

/-- R140: L form of VFNMA. -/
def execVfnmaL (t : LTail) (s : State) : Host.Outcome State Fault Refusal := run1 (hVfma true false t) s

/-- R140: S form: FP32 minimum. -/
def execVmin (t : STail) (s : State) : Host.Outcome State Fault Refusal := run1 (hVpick false t.toL) s

/-- R140: L form of VMIN. -/
def execVminL (t : LTail) (s : State) : Host.Outcome State Fault Refusal := run1 (hVpick false t) s

/-- R140: S form: FP32 maximum. -/
def execVmax (t : STail) (s : State) : Host.Outcome State Fault Refusal := run1 (hVpick true t.toL) s

/-- R140: L form of VMAX. -/
def execVmaxL (t : LTail) (s : State) : Host.Outcome State Fault Refusal := run1 (hVpick true t) s

/-- R140: S form: clears the sign bit. -/
def execVabs (t : STail) (s : State) : Host.Outcome State Fault Refusal := run1 (hVabs t.toL) s

/-- R140: L form of VABS. -/
def execVabsL (t : LTail) (s : State) : Host.Outcome State Fault Refusal := run1 (hVabs t) s

/-- R140: S form: inverts the sign bit. -/
def execVneg (t : STail) (s : State) : Host.Outcome State Fault Refusal := run1 (hVneg t.toL) s

/-- R140: L form of VNEG. -/
def execVnegL (t : LTail) (s : State) : Host.Outcome State Fault Refusal := run1 (hVneg t) s

/-- R140: S form: LONG FP32 division. -/
def execVdiv (t : STail) (s : State) : Host.Outcome State Fault Refusal := run1 (hVdiv t.toL) s

/-- R140: L form of VDIV. -/
def execVdivL (t : LTail) (s : State) : Host.Outcome State Fault Refusal := run1 (hVdiv t) s

/-- R140: S form: LONG square root. -/
def execVsqrt (t : STail) (s : State) : Host.Outcome State Fault Refusal := run1 (hVsqrt t.toL) s

/-- R140: L form of VSQRT. -/
def execVsqrtL (t : LTail) (s : State) : Host.Outcome State Fault Refusal := run1 (hVsqrt t) s

/-- R140: S form: LONG reciprocal. -/
def execVrcp (t : STail) (s : State) : Host.Outcome State Fault Refusal := run1 (hVfun frcp t.toL) s

/-- R140: L form of VRCP. -/
def execVrcpL (t : LTail) (s : State) : Host.Outcome State Fault Refusal := run1 (hVfun frcp t) s

/-- R140: S form: LONG reciprocal square root. -/
def execVrsq (t : STail) (s : State) : Host.Outcome State Fault Refusal := run1 (hVfun frsq t.toL) s

/-- R140: L form of VRSQ. -/
def execVrsqL (t : LTail) (s : State) : Host.Outcome State Fault Refusal := run1 (hVfun frsq t) s

/-- R140: S form: LONG 2^x. -/
def execVexp2 (t : STail) (s : State) : Host.Outcome State Fault Refusal := run1 (hVfun fexp2 t.toL) s

/-- R140: L form of VEXP2. -/
def execVexp2L (t : LTail) (s : State) : Host.Outcome State Fault Refusal := run1 (hVfun fexp2 t) s

/-- R140: S form: LONG log2. -/
def execVlog2 (t : STail) (s : State) : Host.Outcome State Fault Refusal := run1 (hVfun flog2 t.toL) s

/-- R140: L form of VLOG2. -/
def execVlog2L (t : LTail) (s : State) : Host.Outcome State Fault Refusal := run1 (hVfun flog2 t) s

/-- R140: S form: LONG tanh. -/
def execVtanh (t : STail) (s : State) : Host.Outcome State Fault Refusal := run1 (hVfun ftanh t.toL) s

/-- R140: L form of VTANH. -/
def execVtanhL (t : LTail) (s : State) : Host.Outcome State Fault Refusal := run1 (hVfun ftanh t) s

/-- R143: FP32 compare into a k register. -/
def execVcmp (t : LTail) (s : State) : Host.Outcome State Fault Refusal := run1 (hVcmp t) s

/-- R144: Classifies FP32 lanes. -/
def execVclass (t : LTail) (s : State) : Host.Outcome State Fault Refusal := run1 (hVclass t) s

/-- R147: Converts lanes between FP32 and another format. -/
def execVcvt (t : LTail) (s : State) : Host.Outcome State Fault Refusal := run1 (hVcvt t) s

/-- R150: Computes an S20 block scale or quantised codes. -/
def execVqnt (t : LTail) (s : State) : Host.Outcome State Fault Refusal := run1 (hVqnt t) s

/-- R149: LONG lane maximum across the gang row. -/
def execVqxmax (t : LTail) (s : State) : Host.Outcome State Fault Refusal := run1 (hVqxmax t) s

/-- R151: S form: tree sum of active lanes. -/
def execVrsum (t : STail) (s : State) : Host.Outcome State Fault Refusal := run1 (hVrsum t.toL) s

/-- R151: L form of VRSUM, including integer sum. -/
def execVrsumL (t : LTail) (s : State) : Host.Outcome State Fault Refusal := run1 (hVrsum t) s

/-- R151: S form: maximum of active lanes. -/
def execVrmax (t : STail) (s : State) : Host.Outcome State Fault Refusal := run1 (hVrpick true t.toL) s

/-- R151: L form of VRMAX. -/
def execVrmaxL (t : LTail) (s : State) : Host.Outcome State Fault Refusal := run1 (hVrpick true t) s

/-- R151: S form: minimum of active lanes. -/
def execVrmin (t : STail) (s : State) : Host.Outcome State Fault Refusal := run1 (hVrpick false t.toL) s

/-- R151: L form of VRMIN. -/
def execVrminL (t : LTail) (s : State) : Host.Outcome State Fault Refusal := run1 (hVrpick false t) s

/-- R152: Running sum or maximum along the lanes. -/
def execVscan (t : LTail) (s : State) : Host.Outcome State Fault Refusal := run1 (hVscan t) s

/-- R153: Ranks participating lanes by value, writing values or indices. -/
def execVtopk (t : LTail) (s : State) : Host.Outcome State Fault Refusal := run1 (hVtopk t) s
-- END
end Sys2Proof.Machine
end

