-- ==== Sys2Proof/Machine/VecInt.lean ====
section
/-!
DEFINITION. The vector instructions on integer lanes and on masks: arithmetic, logic, shifts, comparison, k-register logic,
counting, lane numbers, packing (R142, R143, R145, R146, R148).
-/
namespace Sys2Proof.Machine

/-- A value between the bounds of a saturating operation (R142). -/
def clamp (lo hi x : Int) : Int := if x < lo then lo else if hi < x then hi else x

/-- VIADD and VISUB: wrapping, .ss or .us (R142). -/
def saturating (sub : Nat) (f : Int → Int → Int) (x y : Lane) : Lane :=
  BitVec.ofInt 32 (
    match sub with
    | 0 => f x.toInt y.toInt
    | 1 => clamp (-(2 ^ 31)) (2 ^ 31 - 1) (f x.toInt y.toInt)
    | _ => clamp 0 (2 ^ 32 - 1) (f x.toNat y.toNat))

/-- VIADD (R142). -/
def hViadd (t : LTail) : Half := vecHalf (plainOp t [vSrcA t, vSrcB t] (saturating t.sub.toNat (· + ·)))

/-- VISUB (R142). -/
def hVisub (t : LTail) : Half := vecHalf (plainOp t [vSrcA t, vSrcB t] (saturating t.sub.toNat (· - ·)))

/-- VIMUL: the low 32 bits, the high 32 bits signed, or unsigned (R142). -/
def vimulLane (sub : Nat) (x y : Lane) : Lane :=
  match sub with
  | 0 => x * y
  | 1 => BitVec.ofInt 32 (x.toInt * y.toInt / 2 ^ 32)
  | _ => BitVec.ofNat 32 (x.toNat * y.toNat / 2 ^ 32)

/-- VIMUL (R142). -/
def hVimul (t : LTail) : Half := vecHalf (plainOp t [vSrcA t, vSrcB t] (vimulLane t.sub.toNat))

/-- VIMAD (R142). -/
def hVimad (t : LTail) : Half :=
  vecHalf
    { k := t.k, srcs := [vSrcA t, vSrcB t, vSrcD t], dst := vDst t
      f := fun _ _ _ xs => lanewise (fun _ x y z => x * y + z) xs }

/-- A two-source operation of R72 on 32-bit lanes: logic and shifts (R142). -/
def hValu (op : AluOp) (t : LTail) : Half := vecHalf (plainOp t [vSrcA t, vSrcB t] op.run)

/-- VIMIN and VIMAX; sub 1 is .u (R142). -/
def hVipick (big : Bool) (t : LTail) : Half := vecHalf (plainOp t [vSrcA t, vSrcB t] (intPick big (bitAt t.sub 0)))

/-- VICMP (R143). -/
def hVicmp (t : LTail) : Half := vecHalf (compareOp t (cond (fieldNat t.sub 0 3)))

/-- VSELK: the k register selects in every lane and does not mask (R145). -/
def hVselk (t : LTail) : Half :=
  vecHalf
    { k := 0, srcs := [vSrcA t, vSrcB t, { loc := .k t.k.toNat }], dst := vDst t
      f := fun _ _ _ xs => blend ((v2 xs).setWidth 32) (v0 xs) (v1 xs) }

/-- KOP by sub [2:0] (R146). -/
def kopOf (op : Nat) (x y : BitVec 32) : BitVec 32 :=
  match op with
  | 0 => x &&& y
  | 1 => x ||| y
  | 2 => x ^^^ y
  | 3 => x &&& ~~~y
  | 4 => ~~~x
  | _ => x

/-- KOP; .not and .mov read a alone (R146). -/
def hKop (t : LTail) : Half :=
  let op := fieldNat t.sub 0 3
  vecHalf
    { k := t.k, srcs := if op < 4 then [vSrcA t, vSrcB t] else [vSrcA t], dst := vDst t
      f := fun _ _ _ xs => (kopOf op ((v0 xs).setWidth 32) ((v1 xs).setWidth 32)).setWidth 1024 }

/-- KCNT: the number of set bits, the lowest or the highest one, 32 if there is none (R146). -/
def kcntOf (op : Nat) (x : BitVec 32) : Nat :=
  match op with
  | 0 => countOnes x.toNat 32
  | 1 => countTrail x.toNat 0 32
  | _ => if x = 0 then 32 else 31 - countLead x.toNat 32

/-- KCNT (R146). -/
def hKcnt (t : LTail) : Half :=
  vecHalf
    { k := t.k, srcs := [vSrcA t], dst := vDst t
      f := fun _ _ _ xs => ofLanes (fun _ => BitVec.ofNat 32 (kcntOf t.sub.toNat ((v0 xs).setWidth 32))) }

/-- VIOTA: the lane number (R146). -/
def hViota (t : LTail) : Half :=
  vecHalf { k := t.k, srcs := [], dst := vDst t, f := fun _ _ _ _ => ofLanes (BitVec.ofNat 32) }

/-- VIOTA.K: the set bits of kA below the lane (R146). -/
def hViotaK (t : LTail) : Half :=
  vecHalf
    { k := t.k, srcs := [vSrcA t], dst := vDst t
      f := fun _ _ _ xs => ofLanes (fun i => BitVec.ofNat 32 (countOnes (v0 xs).toNat i)) }

/-- The element width of VPACK and VUNPK by sub [1:0] (R148). -/
def packWidth (t : LTail) : Nat := 16 / 2 ^ fieldNat t.sub 0 2

/-- The low W bits of 32 lanes, one behind the other (R148). -/
def packed (width : Nat) (x : VWord) : Nat :=
  ((List.range 32).map (fun j => (lane x j).toNat % 2 ^ width * 2 ^ (width * j))).sum

/-- VPACK (R148). -/
def hVpack (t : LTail) : Half :=
  let n := packWidth t
  vecHalf
    { k := 0, srcs := [vSrcA t, vSrcB t], dst := vDst t
      f := fun _ _ _ xs => BitVec.ofNat 1024 (packed n (v0 xs) + packed n (v1 xs) * 2 ^ (32 * n)) }

/-- A packed element, zero- or sign-extended to 32 bits (R148). -/
def unpacked (width : Nat) (signed : Bool) (x : VWord) (j : Nat) : Lane :=
  let v := fieldNat x (width * j) width
  if signed && v.testBit (width - 1) then BitVec.ofInt 32 ((v : Int) - 2 ^ width) else BitVec.ofNat 32 v

/-- VUNPK: sub [2] .s, sub [5:3] the part (R148). -/
def hVunpk (t : LTail) : Half :=
  vecHalf
    { k := 0, srcs := [vSrcA t], dst := vDst t
      f := fun _ _ _ xs => ofLanes (fun i =>
        unpacked (packWidth t) (bitAt t.sub 2) (v0 xs) (32 * fieldNat t.sub 3 3 + i)) }

-- BEGIN
/-- R142: S form: integer add, wrapping or saturating. -/
def execViadd (t : STail) (s : State) : Host.Outcome State Fault Refusal := run1 (hViadd t.toL) s

/-- R142: L form of VIADD. -/
def execViaddL (t : LTail) (s : State) : Host.Outcome State Fault Refusal := run1 (hViadd t) s

/-- R142: S form: integer subtract. -/
def execVisub (t : STail) (s : State) : Host.Outcome State Fault Refusal := run1 (hVisub t.toL) s

/-- R142: L form of VISUB. -/
def execVisubL (t : LTail) (s : State) : Host.Outcome State Fault Refusal := run1 (hVisub t) s

/-- R142: S form: integer multiply, low or high. -/
def execVimul (t : STail) (s : State) : Host.Outcome State Fault Refusal := run1 (hVimul t.toL) s

/-- R142: L form of VIMUL. -/
def execVimulL (t : LTail) (s : State) : Host.Outcome State Fault Refusal := run1 (hVimul t) s

/-- R142: S form: integer multiply-add into d. -/
def execVimad (t : STail) (s : State) : Host.Outcome State Fault Refusal := run1 (hVimad t.toL) s

/-- R142: L form of VIMAD. -/
def execVimadL (t : LTail) (s : State) : Host.Outcome State Fault Refusal := run1 (hVimad t) s

/-- R142: S form: lane AND. -/
def execVand (t : STail) (s : State) : Host.Outcome State Fault Refusal := run1 (hValu .and t.toL) s

/-- R142: L form of VAND. -/
def execVandL (t : LTail) (s : State) : Host.Outcome State Fault Refusal := run1 (hValu .and t) s

/-- R142: S form: lane OR. -/
def execVor (t : STail) (s : State) : Host.Outcome State Fault Refusal := run1 (hValu .or t.toL) s

/-- R142: L form of VOR. -/
def execVorL (t : LTail) (s : State) : Host.Outcome State Fault Refusal := run1 (hValu .or t) s

/-- R142: S form: lane XOR. -/
def execVxor (t : STail) (s : State) : Host.Outcome State Fault Refusal := run1 (hValu .xor t.toL) s

/-- R142: L form of VXOR. -/
def execVxorL (t : LTail) (s : State) : Host.Outcome State Fault Refusal := run1 (hValu .xor t) s

/-- R142: S form: lane shift left. -/
def execVshl (t : STail) (s : State) : Host.Outcome State Fault Refusal := run1 (hValu .shl t.toL) s

/-- R142: L form of VSHL. -/
def execVshlL (t : LTail) (s : State) : Host.Outcome State Fault Refusal := run1 (hValu .shl t) s

/-- R142: S form: lane logical shift right. -/
def execVshr (t : STail) (s : State) : Host.Outcome State Fault Refusal := run1 (hValu .shr t.toL) s

/-- R142: L form of VSHR. -/
def execVshrL (t : LTail) (s : State) : Host.Outcome State Fault Refusal := run1 (hValu .shr t) s

/-- R142: S form: lane arithmetic shift right. -/
def execVsar (t : STail) (s : State) : Host.Outcome State Fault Refusal := run1 (hValu .sar t.toL) s

/-- R142: L form of VSAR. -/
def execVsarL (t : LTail) (s : State) : Host.Outcome State Fault Refusal := run1 (hValu .sar t) s

/-- R142: S form: integer minimum. -/
def execVimin (t : STail) (s : State) : Host.Outcome State Fault Refusal := run1 (hVipick false t.toL) s

/-- R142: L form of VIMIN. -/
def execViminL (t : LTail) (s : State) : Host.Outcome State Fault Refusal := run1 (hVipick false t) s

/-- R142: S form: integer maximum. -/
def execVimax (t : STail) (s : State) : Host.Outcome State Fault Refusal := run1 (hVipick true t.toL) s

/-- R142: L form of VIMAX. -/
def execVimaxL (t : LTail) (s : State) : Host.Outcome State Fault Refusal := run1 (hVipick true t) s

/-- R143: Integer compare into a k register. -/
def execVicmp (t : LTail) (s : State) : Host.Outcome State Fault Refusal := run1 (hVicmp t) s

/-- R145: Selects lanes from a or b by a k register. -/
def execVselk (t : LTail) (s : State) : Host.Outcome State Fault Refusal := run1 (hVselk t) s

/-- R148: Packs lanes into narrow elements. -/
def execVpack (t : LTail) (s : State) : Host.Outcome State Fault Refusal := run1 (hVpack t) s

/-- R148: Unpacks narrow elements into lanes. -/
def execVunpk (t : LTail) (s : State) : Host.Outcome State Fault Refusal := run1 (hVunpk t) s

/-- R146: Combines k registers bit by bit. -/
def execKop (t : LTail) (s : State) : Host.Outcome State Fault Refusal := run1 (hKop t) s

/-- R146: Counts or locates set bits of a k register. -/
def execKcnt (t : LTail) (s : State) : Host.Outcome State Fault Refusal := run1 (hKcnt t) s

/-- R146: S form: writes lane indices. -/
def execViota (t : STail) (s : State) : Host.Outcome State Fault Refusal := run1 (hViota t.toL) s

/-- R146: L form of VIOTA. -/
def execViotaL (t : LTail) (s : State) : Host.Outcome State Fault Refusal := run1 (hViota t) s

/-- R146: Writes per lane the count of set k bits below it. -/
def execViotaK (t : LTail) (s : State) : Host.Outcome State Fault Refusal := run1 (hViotaK t) s
-- END
end Sys2Proof.Machine
end

