-- ==== Sys2Proof/Machine/VecMove.lean ====
section
/-!
DEFINITION. The moves and permutations of the vector class, and its loads and stores of scratchpad (R154 to R157).
-/
namespace Sys2Proof.Machine

/-- A move whose lanes come from the lanes of its sources. -/
def moveOp (k : BitVec 3) (srcs : List Src) (d : Loc) (f : BitVec 32 → List VWord → Nat → Lane) : VecOp :=
  { k := k, srcs := srcs, dst := d, f := fun _ _ m xs => ofLanes (f m xs) }

/-- VMOV (R154). -/
def hVmov (t : LTail) : Half := vecHalf (moveOp t.k [vSrcA t] (vDst t) (fun _ xs => lane (v0 xs)))

/-- A W-form vector source a. -/
def vSrcW (t : WTail) : Src := { loc := vLoc t.fa t.a, trap := t.ta, items := 2 }

/-- VBCAST: a lane of a v source, the word at a pointer, word 0 of one popped item, a k register, or an immediate
(R154). -/
def hVbcast : LWTail → Half
  | .w t => vecHalf (moveOp t.k [] (.v t.d.toNat) (fun _ _ _ => t.imm))
  | .l t =>
    match (vSrcA t).loc with
    | .m i post =>
      vecMemHalf
        { k := t.k, base := i, post := post, store := false, srcs := [], dst := vDst t
          span := fun s w _ _ => [s.ptr w i], word := fun s w _ _ => some (s.ptr w i) }
    | l =>
      vecHalf (moveOp t.k [{ vSrcA t with items := 1 }] (vDst t) (fun _ xs _ =>
        lane (v0 xs) (match l with | .v _ => fieldNat t.sub 0 5 | _ => 0)))

/-- VSHUF (R154). -/
def hVshuf (t : LTail) : Half :=
  vecHalf { moveOp t.k [vSrcA t, vSrcB t] (vDst t) (fun _ xs i =>
    let b := lane (v1 xs) i
    if bitAt b 5 then 0 else lane (v0 xs) (fieldNat b 0 5)) with cross := true }

/-- An instruction with a lane index n: b_0 [4:0] in the L form, imm32 [4:0] in the W form (R154). -/
def indexed (t : LWTail) (f : Nat → VWord → Nat → Lane) : VecOp :=
  { (match t with
     | .l t => moveOp t.k [vSrcA t, vSrcB t] (vDst t) (fun _ xs => f (fieldNat (lane (v1 xs) 0) 0 5) (v0 xs))
     | .w t => moveOp t.k [vSrcW t] (.v t.d.toNat) (fun _ xs => f (fieldNat t.imm 0 5) (v0 xs))) with cross := true }

/-- VROT (R154). -/
def hVrot (t : LWTail) : Half := vecHalf (indexed t (fun n x i => lane x ((i + n) % 32)))

/-- VEXTR (R154). -/
def hVextr (t : LWTail) : Half := vecHalf (indexed t (fun n x _ => lane x n))

/-- The lane that VINS writes. -/
def insertAt (t : LWTail) (xs : List VWord) : Nat :=
  match t with
  | .l _ => fieldNat (lane (v1 xs) 0) 0 5
  | .w t => fieldNat t.imm 0 5

/-- VINS: lane n alone is written, where it is active (R154). DEDUCED: a q destination receives zero in every other lane, active or
not, as R133 has a push carry zero where no lane is written (assumption 100). -/
def hVins (t : LWTail) : Half :=
  vecHalf
    { indexed t (fun _ x _ => lane x 0) with
      only := some (insertAt t)
      lanes := fun xs m => m &&& BitVec.ofNat 32 (2 ^ insertAt t xs) }

/-- VCOMP: the active lanes of a, in order, then zeros; every lane is written (R154). -/
def hVcomp (t : LTail) : Half :=
  vecHalf
    { moveOp t.k [vSrcA t] (vDst t) (fun m xs i =>
        match (activeLanes m 32)[i]? with
        | some j => lane (v0 xs) j
        | none => 0) with
      lanes := fun _ _ => 0xFFFFFFFF }

/-- VEXPD (R154). -/
def hVexpd (t : LTail) : Half :=
  vecHalf { moveOp t.k [vSrcA t] (vDst t) (fun m xs i => lane (v0 xs) (activeBelow m i)) with cross := true }

/-! ### Loads and stores (R155 to R157) -/

/-- The lanes of a size: 32, 16 or 8 (R155). -/
def lanesOfSize (n : Nat) : Nat := 32 / 2 ^ n

/-- n lanes from an address through a pointer. -/
def blockMem (k : BitVec 3) (base : Nat) (post store : Bool) (srcs : List Src) (dst : Loc) (n : Nat) (off : Nat) : VecMem :=
  { k := k, base := base, post := post, store := store, srcs := srcs, dst := dst
    span := fun s w _ _ => wordsFrom (s.ptr w base + off) n
    word := fun s w _ i => if i < n then some ((s.ptr w base + off + 4 * i) % 2 ^ 20) else none }

/-- An offset of a W form, modulo 2^20 (R155). -/
def offset20 (t : WTail) : Nat := (t.imm.signExtend 64).toNat % 2 ^ 20

/-- VLD: active lanes beyond the size are written zero (R155). -/
def hVld : LWTail → Half
  | .l t =>
    vecMemHalf (blockMem t.k (t.a.toNat % 8) (!bitAt t.a 3) false [] (.v t.d.toNat) (lanesOfSize (fieldNat t.sub 0 2)) 0)
  | .w t =>
    vecMemHalf (blockMem t.k (t.a.toNat % 8) false false [] (.v t.d.toNat) (lanesOfSize (fieldNat t.sub 0 2)) (offset20 t))

/-- VST (R155). -/
def hVst : LWTail → Half
  | .l t =>
    vecMemHalf (blockMem t.k (t.d.toNat % 8) (!bitAt t.d 3) true [vSrcA t] .none (lanesOfSize (fieldNat t.sub 0 2)) 0)
  | .w t =>
    vecMemHalf (blockMem t.k (t.d.toNat % 8) false true [vSrcW t] .none (lanesOfSize (fieldNat t.sub 0 2)) (offset20 t))

/-- The words of the active lanes. -/
def activeOnly (m : BitVec 32) (f : Nat → Nat) : List Nat := (activeLanes m 32).map f

/-- VLDS: lane i from addr + i × stride; a post-increment adds 32 × stride (R156). -/
def hVlds (t : LTail) : Half :=
  let i := t.a.toNat % 8
  let at_ := fun (s : State) (w : Who) (j : Nat) =>
    (((s.strand w).readP i).addr + BitVec.ofNat 20 j * ((s.strand w).readP i).stride.signExtend 20).toNat
  vecMemHalf
    { k := t.k, base := i, post := !bitAt t.a 3, step := 32, store := false, srcs := [], dst := vDst t
      span := fun s w m _ => activeOnly m (at_ s w), word := fun s w _ j => some (at_ s w j) }

/-- The address of lane j of a gather or scatter (R157). -/
def scattered (s : State) (w : Who) (i : Nat) (b : VWord) (j : Nat) : Nat :=
  (s.ptr w i + fieldNat (lane b j) 0 20) % 2 ^ 20

/-- VGATH (R157). -/
def hVgath (t : LTail) : Half :=
  let i := t.a.toNat % 8
  vecMemHalf
    { k := t.k, base := i, post := false, store := false, srcs := [vSrcB t], dst := vDst t
      span := fun s w m xs => activeOnly m (scattered s w i (v0 xs)), word := fun s w xs j => some (scattered s w i (v0 xs) j)
      index := (vSrcB t).loc }

/-- VSCAT (R157). -/
def hVscat (t : LTail) : Half :=
  let i := t.d.toNat % 8
  vecMemHalf
    { k := t.k, base := i, post := false, store := true, srcs := [vSrcA t, vSrcB t], dst := .none
      span := fun s w m xs => activeOnly m (scattered s w i (v1 xs)), word := fun s w xs j => some (scattered s w i (v1 xs) j)
      index := (vSrcB t).loc }

-- BEGIN
/-- R154: S form: copies lanes. -/
def execVmov (t : STail) (s : State) : Host.Outcome State Fault Refusal := run1 (hVmov t.toL) s

/-- R154: L form of VMOV, through pointers and queues. -/
def execVmovL (t : LTail) (s : State) : Host.Outcome State Fault Refusal := run1 (hVmov t) s

/-- R154: Broadcasts a lane, word, item word, k value or immediate. -/
def execVbcast (t : LWTail) (s : State) : Host.Outcome State Fault Refusal := run1 (hVbcast t) s

/-- R154: Permutes lanes by an index vector. -/
def execVshuf (t : LTail) (s : State) : Host.Outcome State Fault Refusal := run1 (hVshuf t) s

/-- R154: Rotates lanes. -/
def execVrot (t : LWTail) (s : State) : Host.Outcome State Fault Refusal := run1 (hVrot t) s

/-- R154: Broadcasts lane n. -/
def execVextr (t : LWTail) (s : State) : Host.Outcome State Fault Refusal := run1 (hVextr t) s

/-- R154: Inserts a_0 into lane n. -/
def execVins (t : LWTail) (s : State) : Host.Outcome State Fault Refusal := run1 (hVins t) s

/-- R154: Compresses active lanes to the front. -/
def execVcomp (t : LTail) (s : State) : Host.Outcome State Fault Refusal := run1 (hVcomp t) s

/-- R154: Expands lanes into active positions. -/
def execVexpd (t : LTail) (s : State) : Host.Outcome State Fault Refusal := run1 (hVexpd t) s

/-- R155: Loads 128, 64 or 32 bytes of scratchpad into a register. -/
def execVld (t : LWTail) (s : State) : Host.Outcome State Fault Refusal := run1 (hVld t) s

/-- R155: Stores active lanes to scratchpad. -/
def execVst (t : LWTail) (s : State) : Host.Outcome State Fault Refusal := run1 (hVst t) s

/-- R156: Strided load of lanes. -/
def execVlds (t : LTail) (s : State) : Host.Outcome State Fault Refusal := run1 (hVlds t) s

/-- R157: Gathers lanes by offsets. -/
def execVgath (t : LTail) (s : State) : Host.Outcome State Fault Refusal := run1 (hVgath t) s

/-- R157: Scatters lanes by offsets. -/
def execVscat (t : LTail) (s : State) : Host.Outcome State Fault Refusal := run1 (hVscat t) s
-- END
end Sys2Proof.Machine
end

