-- ==== Sys2Proof/Machine/Dispatch.lean ====
section
/-!
DEFINITION. One arm per constructor of Instr: the instruction's meaning, or its rejection by name.
-/
namespace Sys2Proof.Machine

def exec (i : Instr) (s : State) : Host.Outcome State Fault Refusal :=
  match i with
  | .nop => Sys2Proof.Machine.execNop s
  | .mov t => Sys2Proof.Machine.execMov t s
  | .movL t => Sys2Proof.Machine.execMovL t s
  | .movE t => Sys2Proof.Machine.execMovE t s
  | .movEL t => Sys2Proof.Machine.execMovEL t s
  | .movi t => Sys2Proof.Machine.execMovi t s
  | .add t => Sys2Proof.Machine.execAdd t s
  | .addL t => Sys2Proof.Machine.execAddL t s
  | .sub t => Sys2Proof.Machine.execSub t s
  | .subL t => Sys2Proof.Machine.execSubL t s
  | .addi t => Sys2Proof.Machine.execAddi t s
  | .mul t => Sys2Proof.Machine.execMul t s
  | .mulL t => Sys2Proof.Machine.execMulL t s
  | .mulh t => Sys2Proof.Machine.execMulh t s
  | .mulhL t => Sys2Proof.Machine.execMulhL t s
  | .div t => Sys2Proof.Machine.execDiv t s
  | .divL t => Sys2Proof.Machine.execDivL t s
  | .rem t => Sys2Proof.Machine.execRem t s
  | .remL t => Sys2Proof.Machine.execRemL t s
  | .and t => Sys2Proof.Machine.execAnd t s
  | .andL t => Sys2Proof.Machine.execAndL t s
  | .or t => Sys2Proof.Machine.execOr t s
  | .orL t => Sys2Proof.Machine.execOrL t s
  | .xor t => Sys2Proof.Machine.execXor t s
  | .xorL t => Sys2Proof.Machine.execXorL t s
  | .andn t => Sys2Proof.Machine.execAndn t s
  | .andnL t => Sys2Proof.Machine.execAndnL t s
  | .shl t => Sys2Proof.Machine.execShl t s
  | .shlL t => Sys2Proof.Machine.execShlL t s
  | .shr t => Sys2Proof.Machine.execShr t s
  | .shrL t => Sys2Proof.Machine.execShrL t s
  | .sar t => Sys2Proof.Machine.execSar t s
  | .sarL t => Sys2Proof.Machine.execSarL t s
  | .rot t => Sys2Proof.Machine.execRot t s
  | .rotL t => Sys2Proof.Machine.execRotL t s
  | .shi t => Sys2Proof.Machine.execShi t s
  | .logi t => Sys2Proof.Machine.execLogi t s
  | .clz t => Sys2Proof.Machine.execClz t s
  | .clzL t => Sys2Proof.Machine.execClzL t s
  | .ctz t => Sys2Proof.Machine.execCtz t s
  | .ctzL t => Sys2Proof.Machine.execCtzL t s
  | .popc t => Sys2Proof.Machine.execPopc t s
  | .popcL t => Sys2Proof.Machine.execPopcL t s
  | .min t => Sys2Proof.Machine.execMin t s
  | .minL t => Sys2Proof.Machine.execMinL t s
  | .max t => Sys2Proof.Machine.execMax t s
  | .maxL t => Sys2Proof.Machine.execMaxL t s
  | .minu t => Sys2Proof.Machine.execMinu t s
  | .minuL t => Sys2Proof.Machine.execMinuL t s
  | .maxu t => Sys2Proof.Machine.execMaxu t s
  | .maxuL t => Sys2Proof.Machine.execMaxuL t s
  | .sel t => Sys2Proof.Machine.execSel t s
  | .cmp t => Sys2Proof.Machine.execCmp t s
  | .cmpL t => Sys2Proof.Machine.execCmpL t s
  | .cmpi t => Sys2Proof.Machine.execCmpi t s
  | .ext t => Sys2Proof.Machine.execExt t s
  | .ins t => Sys2Proof.Machine.execIns t s
  | .bswap t => Sys2Proof.Machine.execBswap t s
  | .bswapL t => Sys2Proof.Machine.execBswapL t s
  | .lea t => Sys2Proof.Machine.execLea t s
  | .pset t => Sys2Proof.Machine.execPset t s
  | .padd t => Sys2Proof.Machine.execPadd t s
  | .paddSt t => Sys2Proof.Machine.execPaddSt t s
  | .pget t => Sys2Proof.Machine.execPget t s
  | .j t => Sys2Proof.Machine.execJ t s
  | .jr t => Sys2Proof.Machine.execJr t s
  | .jrLForm t => Sys2Proof.Machine.execJrLForm t s
  | .jrLink t => Sys2Proof.Machine.execJrLink t s
  | .jrLinkLForm t => Sys2Proof.Machine.execJrLinkLForm t s
  | .call t => Sys2Proof.Machine.execCall t s
  | .ret => Sys2Proof.Machine.execRet s
  | .br t => Sys2Proof.Machine.execBr t s
  | .bz t => Sys2Proof.Machine.execBz t s
  | .bnz t => Sys2Proof.Machine.execBnz t s
  | .loop t => Sys2Proof.Machine.execLoop t s
  | .gbr t => Sys2Proof.Machine.execGbr t s
  | .spawn t => Sys2Proof.Machine.execSpawn t s
  | .stop => Sys2Proof.Machine.execStop s
  | .trap t => Sys2Proof.Machine.execTrap t s
  | .tret => Sys2Proof.Machine.execTret s
  | .brk => Sys2Proof.Machine.execBrk s
  | .srd t => Sys2Proof.Machine.execSrd t s
  | .swr t => Sys2Proof.Machine.execSwr t s
  | .swrRndSeed t => Sys2Proof.Machine.execSwrRndSeed t s
  | .swrReportQ t => Sys2Proof.Machine.execSwrReportQ t s
  | .swrTrapVec t => Sys2Proof.Machine.execSwrTrapVec t s
  | .swrWaitLimit t => Sys2Proof.Machine.execSwrWaitLimit t s
  | .fence t => Sys2Proof.Machine.execFence t s
  | .rfill t => Sys2Proof.Machine.execRfill t s
  | .rget t => Sys2Proof.Machine.execRget t s
  | .gfuse t => Sys2Proof.Machine.execGfuse t s
  | .gsplit => Sys2Proof.Machine.execGsplit s
  | .gred t => Sys2Proof.Machine.execGred t s
  | .gxch t => Sys2Proof.Machine.execGxch t s
  | .crew t => Sys2Proof.Machine.execCrew t s
  | .cjoin t => Sys2Proof.Machine.execCjoin t s
  | .cjoinL t => Sys2Proof.Machine.execCjoinL t s
  | .cjoinX t => Sys2Proof.Machine.execCjoinX t s
  | .cjoinXL t => Sys2Proof.Machine.execCjoinXL t s
  | .acq t => Sys2Proof.Machine.execAcq t s
  | .acqm t => Sys2Proof.Machine.execAcqm t s
  | .rel t => Sys2Proof.Machine.execRel t s
  | .relm t => Sys2Proof.Machine.execRelm t s
  | .hold t => Sys2Proof.Machine.execHold t s
  | .ld t => Sys2Proof.Machine.execLd t s
  | .st t => Sys2Proof.Machine.execSt t s
  | .ldf t => Sys2Proof.Machine.execLdf t s
  | .ste t => Sys2Proof.Machine.execSte t s
  | .stf t => Sys2Proof.Machine.execStf t s
  | .steG t => Sys2Proof.Machine.execSteG t s
  | .stfG t => Sys2Proof.Machine.execStfG t s
  | .tagQ t => Sys2Proof.Machine.execTagQ t s
  | .tagE t => Sys2Proof.Machine.execTagE t s
  | .tagF t => Sys2Proof.Machine.execTagF t s
  | .tagWa t => Sys2Proof.Machine.execTagWa t s
  | .ldg t => Sys2Proof.Machine.execLdg t s
  | .stg t => Sys2Proof.Machine.execStg t s
  | .amo t => Sys2Proof.Machine.execAmo t s
  | .cas t => Sys2Proof.Machine.execCas t s
  | .mflip => Sys2Proof.Machine.execMflip s
  | .ldt t => Sys2Proof.Machine.execLdt t s
  | .rdm t => Sys2Proof.Machine.execRdm t s
  | .rdmL t => Sys2Proof.Machine.execRdmL t s
  | .rdms t => Sys2Proof.Machine.execRdms t s
  | .rdmsL t => Sys2Proof.Machine.execRdmsL t s
  | .tkq t => Sys2Proof.Machine.execTkq t s
  | .tkqL t => Sys2Proof.Machine.execTkqL t s
  | .tkd t => Sys2Proof.Machine.execTkd t s
  | .tkdL t => Sys2Proof.Machine.execTkdL t s
  | .qbind t => Sys2Proof.Machine.execQbind t s
  | .qunb d => Sys2Proof.Machine.execQunb d s
  | .qpush t => Sys2Proof.Machine.execQpush t s
  | .qpushL t => Sys2Proof.Machine.execQpushL t s
  | .qpop t => Sys2Proof.Machine.execQpop t s
  | .qpopL t => Sys2Proof.Machine.execQpopL t s
  | .qtry t => Sys2Proof.Machine.execQtry t s
  | .qtryL t => Sys2Proof.Machine.execQtryL t s
  | .qpeek t => Sys2Proof.Machine.execQpeek t s
  | .qpeekL t => Sys2Proof.Machine.execQpeekL t s
  | .qsel t => Sys2Proof.Machine.execQsel t s
  | .qcancel t => Sys2Proof.Machine.execQcancel t s
  | .qstat t => Sys2Proof.Machine.execQstat t s
  | .qdone t => Sys2Proof.Machine.execQdone t s
  | .qdoneL t => Sys2Proof.Machine.execQdoneL t s
  | .qdoneO t => Sys2Proof.Machine.execQdoneO t s
  | .qdoneOL t => Sys2Proof.Machine.execQdoneOL t s
  | .bcn t => Sys2Proof.Machine.execBcn t s
  | .bpass => Sys2Proof.Machine.execBpass s
  | .rawait t => Sys2Proof.Machine.execRawait t s
  | .rrel t => Sys2Proof.Machine.execRrel t s
  | .rstat t => Sys2Proof.Machine.execRstat t s
  | .barinit t => Sys2Proof.Machine.execBarinit t s
  | .bararv t => Sys2Proof.Machine.execBararv t s
  | .barexp t => Sys2Proof.Machine.execBarexp t s
  | .barwait t => Sys2Proof.Machine.execBarwait t s
  | .cpy t => Sys2Proof.Machine.execCpy t s
  | .sbind t => Sys2Proof.Machine.execSbind t s
  | .sunb d => Sys2Proof.Machine.execSunb d s
  | .mfill t => Sys2Proof.Machine.execMfill t s
  | .mscl t => Sys2Proof.Machine.execMscl t s
  | .mrule p t => Sys2Proof.Machine.execMrule p t s
  | .mrulxTags t => Sys2Proof.Machine.execMrulxTags t s
  | .mrulxFill t => Sys2Proof.Machine.execMrulxFill t s
  | .mrulxFb t => Sys2Proof.Machine.execMrulxFb t s
  | .mrulxNofb t => Sys2Proof.Machine.execMrulxNofb t s
  | .mtag t => Sys2Proof.Machine.execMtag t s
  | .mwait d => Sys2Proof.Machine.execMwait d s
  | .mwaitClr d => Sys2Proof.Machine.execMwaitClr d s
  | .mdrain t => Sys2Proof.Machine.execMdrain t s
  | .mclrAcc d => Sys2Proof.Machine.execMclrAcc d s
  | .mclrSlot d => Sys2Proof.Machine.execMclrSlot d s
  | .mstat t => Sys2Proof.Machine.execMstat t s
  | .mstatL t => Sys2Proof.Machine.execMstatL t s
  | .mred t => Sys2Proof.Machine.execMred t s
  | .vnop => Sys2Proof.Machine.execVnop s
  | .vmov t => Sys2Proof.Machine.execVmov t s
  | .vmovL t => Sys2Proof.Machine.execVmovL t s
  | .vbcast t => Sys2Proof.Machine.execVbcast t s
  | .vadd t => Sys2Proof.Machine.execVadd t s
  | .vaddL t => Sys2Proof.Machine.execVaddL t s
  | .vsub t => Sys2Proof.Machine.execVsub t s
  | .vsubL t => Sys2Proof.Machine.execVsubL t s
  | .vmul t => Sys2Proof.Machine.execVmul t s
  | .vmulL t => Sys2Proof.Machine.execVmulL t s
  | .vfma t => Sys2Proof.Machine.execVfma t s
  | .vfmaL t => Sys2Proof.Machine.execVfmaL t s
  | .vfms t => Sys2Proof.Machine.execVfms t s
  | .vfmsL t => Sys2Proof.Machine.execVfmsL t s
  | .vfnma t => Sys2Proof.Machine.execVfnma t s
  | .vfnmaL t => Sys2Proof.Machine.execVfnmaL t s
  | .vmin t => Sys2Proof.Machine.execVmin t s
  | .vminL t => Sys2Proof.Machine.execVminL t s
  | .vmax t => Sys2Proof.Machine.execVmax t s
  | .vmaxL t => Sys2Proof.Machine.execVmaxL t s
  | .vabs t => Sys2Proof.Machine.execVabs t s
  | .vabsL t => Sys2Proof.Machine.execVabsL t s
  | .vneg t => Sys2Proof.Machine.execVneg t s
  | .vnegL t => Sys2Proof.Machine.execVnegL t s
  | .vdiv t => Sys2Proof.Machine.execVdiv t s
  | .vdivL t => Sys2Proof.Machine.execVdivL t s
  | .vsqrt t => Sys2Proof.Machine.execVsqrt t s
  | .vsqrtL t => Sys2Proof.Machine.execVsqrtL t s
  | .vrcp t => Sys2Proof.Machine.execVrcp t s
  | .vrcpL t => Sys2Proof.Machine.execVrcpL t s
  | .vrsq t => Sys2Proof.Machine.execVrsq t s
  | .vrsqL t => Sys2Proof.Machine.execVrsqL t s
  | .vexp2 t => Sys2Proof.Machine.execVexp2 t s
  | .vexp2L t => Sys2Proof.Machine.execVexp2L t s
  | .vlog2 t => Sys2Proof.Machine.execVlog2 t s
  | .vlog2L t => Sys2Proof.Machine.execVlog2L t s
  | .vtanh t => Sys2Proof.Machine.execVtanh t s
  | .vtanhL t => Sys2Proof.Machine.execVtanhL t s
  | .vcmp t => Sys2Proof.Machine.execVcmp t s
  | .vclass t => Sys2Proof.Machine.execVclass t s
  | .vselk t => Sys2Proof.Machine.execVselk t s
  | .viadd t => Sys2Proof.Machine.execViadd t s
  | .viaddL t => Sys2Proof.Machine.execViaddL t s
  | .visub t => Sys2Proof.Machine.execVisub t s
  | .visubL t => Sys2Proof.Machine.execVisubL t s
  | .vimul t => Sys2Proof.Machine.execVimul t s
  | .vimulL t => Sys2Proof.Machine.execVimulL t s
  | .vimad t => Sys2Proof.Machine.execVimad t s
  | .vimadL t => Sys2Proof.Machine.execVimadL t s
  | .vand t => Sys2Proof.Machine.execVand t s
  | .vandL t => Sys2Proof.Machine.execVandL t s
  | .vor t => Sys2Proof.Machine.execVor t s
  | .vorL t => Sys2Proof.Machine.execVorL t s
  | .vxor t => Sys2Proof.Machine.execVxor t s
  | .vxorL t => Sys2Proof.Machine.execVxorL t s
  | .vshl t => Sys2Proof.Machine.execVshl t s
  | .vshlL t => Sys2Proof.Machine.execVshlL t s
  | .vshr t => Sys2Proof.Machine.execVshr t s
  | .vshrL t => Sys2Proof.Machine.execVshrL t s
  | .vsar t => Sys2Proof.Machine.execVsar t s
  | .vsarL t => Sys2Proof.Machine.execVsarL t s
  | .vimin t => Sys2Proof.Machine.execVimin t s
  | .viminL t => Sys2Proof.Machine.execViminL t s
  | .vimax t => Sys2Proof.Machine.execVimax t s
  | .vimaxL t => Sys2Proof.Machine.execVimaxL t s
  | .vicmp t => Sys2Proof.Machine.execVicmp t s
  | .vcvt t => Sys2Proof.Machine.execVcvt t s
  | .vqnt t => Sys2Proof.Machine.execVqnt t s
  | .vqxmax t => Sys2Proof.Machine.execVqxmax t s
  | .vpack t => Sys2Proof.Machine.execVpack t s
  | .vunpk t => Sys2Proof.Machine.execVunpk t s
  | .vrsum t => Sys2Proof.Machine.execVrsum t s
  | .vrsumL t => Sys2Proof.Machine.execVrsumL t s
  | .vrmax t => Sys2Proof.Machine.execVrmax t s
  | .vrmaxL t => Sys2Proof.Machine.execVrmaxL t s
  | .vrmin t => Sys2Proof.Machine.execVrmin t s
  | .vrminL t => Sys2Proof.Machine.execVrminL t s
  | .vscan t => Sys2Proof.Machine.execVscan t s
  | .vtopk t => Sys2Proof.Machine.execVtopk t s
  | .vshuf t => Sys2Proof.Machine.execVshuf t s
  | .vrot t => Sys2Proof.Machine.execVrot t s
  | .vextr t => Sys2Proof.Machine.execVextr t s
  | .vins t => Sys2Proof.Machine.execVins t s
  | .vcomp t => Sys2Proof.Machine.execVcomp t s
  | .vexpd t => Sys2Proof.Machine.execVexpd t s
  | .vld t => Sys2Proof.Machine.execVld t s
  | .vst t => Sys2Proof.Machine.execVst t s
  | .vlds t => Sys2Proof.Machine.execVlds t s
  | .vgath t => Sys2Proof.Machine.execVgath t s
  | .vscat t => Sys2Proof.Machine.execVscat t s
  | .kop t => Sys2Proof.Machine.execKop t s
  | .kcnt t => Sys2Proof.Machine.execKcnt t s
  | .viota t => Sys2Proof.Machine.execViota t s
  | .viotaL t => Sys2Proof.Machine.execViotaL t s
  | .viotaK t => Sys2Proof.Machine.execViotaK t s
  | .waitTimeout w => Sys2Proof.Machine.execWaitTimeout w s
  | .bankStarvationGrant tile bank => Sys2Proof.Machine.execBankStarvationGrant tile bank s
  | .longResultArrival f => Sys2Proof.Machine.execLongResultArrival f s
  | .registersDrowsy w => Sys2Proof.Machine.execRegistersDrowsy w s
  | .rfillArrival f => Sys2Proof.Machine.execRfillArrival f s
  | .rfillEFill f => Sys2Proof.Machine.execRfillEFill f s
  | .rgetArrival f => Sys2Proof.Machine.execRgetArrival f s
  | .quarantineReturn tile cls unit => Sys2Proof.Machine.execQuarantineReturn tile cls unit s
  | .postedStorePerformed f => Sys2Proof.Machine.execPostedStorePerformed f s
  | .remoteStoreArrival f => Sys2Proof.Machine.execRemoteStoreArrival f s
  | .tlbWalkEnd die part page => Sys2Proof.Machine.execTlbWalkEnd die part page s
  | .ldtRequestArrival f => Sys2Proof.Machine.execLdtRequestArrival f s
  | .fetchDataStored f => Sys2Proof.Machine.execFetchDataStored f s
  | .redeemPresentation f => Sys2Proof.Machine.execRedeemPresentation f s
  | .redeemAnswer f => Sys2Proof.Machine.execRedeemAnswer f s
  | .deliveryComplete f => Sys2Proof.Machine.execDeliveryComplete f s
  | .tkqPresentation f => Sys2Proof.Machine.execTkqPresentation f s
  | .tkdPresentation f => Sys2Proof.Machine.execTkdPresentation f s
  | .retirementNotice f => Sys2Proof.Machine.execRetirementNotice f s
  | .orphanReclaim kind source => Sys2Proof.Machine.execOrphanReclaim kind source s
  | .itemStored f => Sys2Proof.Machine.execItemStored f s
  | .cancelArrival f => Sys2Proof.Machine.execCancelArrival f s
  | .endpointFailure queue endpoint => Sys2Proof.Machine.execEndpointFailure queue endpoint s
  | .beaconArrival f => Sys2Proof.Machine.execBeaconArrival f s
  | .forcedCutFreeze tile => Sys2Proof.Machine.execForcedCutFreeze tile s
  | .beaconForward tile port => Sys2Proof.Machine.execBeaconForward tile port s
  | .barrierPhaseComplete tile n => Sys2Proof.Machine.execBarrierPhaseComplete tile n s
  | .engineCommandPop e => Sys2Proof.Machine.execEngineCommandPop e s
  | .engineElement e => Sys2Proof.Machine.execEngineElement e s
  | .engineWaitEnd e => Sys2Proof.Machine.execEngineWaitEnd e s
  | .commandEnd e => Sys2Proof.Machine.execCommandEnd e s
  | .ringWrite e => Sys2Proof.Machine.execRingWrite e s
  | .streamStripLand f => Sys2Proof.Machine.execStreamStripLand f s
  | .refreshWindowEnd die bank => Sys2Proof.Machine.execRefreshWindowEnd die bank s
  | .pathRequestStart tile => Sys2Proof.Machine.execPathRequestStart tile s
  | .pathRequestComplete tile => Sys2Proof.Machine.execPathRequestComplete tile s
  | .firingStart tile => Sys2Proof.Machine.execFiringStart tile s
  | .firingEnd tile => Sys2Proof.Machine.execFiringEnd tile s
  | .feedbackWriteEnd tile => Sys2Proof.Machine.execFeedbackWriteEnd tile s
  | .drainComplete tile => Sys2Proof.Machine.execDrainComplete tile s
  | .mredPartSent f => Sys2Proof.Machine.execMredPartSent f s
  | .mredComplete f => Sys2Proof.Machine.execMredComplete f s
  | .schedulingPass => Sys2Proof.Machine.execSchedulingPass s
  | .placementLoad rcb => Sys2Proof.Machine.execPlacementLoad rcb s
  | .drainingComplete rcb => Sys2Proof.Machine.execDrainingComplete rcb s
  | .cutActionReplace rgn => Sys2Proof.Machine.execCutActionReplace rgn s
  | .cutActionPreempt rgn => Sys2Proof.Machine.execCutActionPreempt rgn s
  | .cutActionStop rgn => Sys2Proof.Machine.execCutActionStop rgn s
  | .cutActionCheckpoint rgn => Sys2Proof.Machine.execCutActionCheckpoint rgn s
  | .quiesceEnd rgn => Sys2Proof.Machine.execQuiesceEnd rgn s
  | .mapDone die part page => Sys2Proof.Machine.execMapDone die part page s
  | .refusePage die part page => Sys2Proof.Machine.execRefusePage die part page s
  | .invalidatePage die part page reply => Sys2Proof.Machine.execInvalidatePage die part page reply s
  | .invalidateReply f => Sys2Proof.Machine.execInvalidateReply f s
  | .unknownTranslationCommand die cmd => Sys2Proof.Machine.execUnknownTranslationCommand die cmd s
  | .allocRequest die queue ordinal w => Sys2Proof.Machine.execAllocRequest die queue ordinal w s
  | .freeRequest die queue ordinal w => Sys2Proof.Machine.execFreeRequest die queue ordinal w s
  | .serviceRestart tile => Sys2Proof.Machine.execServiceRestart tile s
  | .hostHello fr => Sys2Proof.Machine.execHostHello fr s
  | .hostRegister fr => Sys2Proof.Machine.execHostRegister fr s
  | .hostUnregister fr => Sys2Proof.Machine.execHostUnregister fr s
  | .hostPlace fr => Sys2Proof.Machine.execHostPlace fr s
  | .hostBeacon fr => Sys2Proof.Machine.execHostBeacon fr s
  | .hostRead fr => Sys2Proof.Machine.execHostRead fr s
  | .hostWrite fr => Sys2Proof.Machine.execHostWrite fr s
  | .hostPush fr => Sys2Proof.Machine.execHostPush fr s
  | .pushTimeout f => Sys2Proof.Machine.execPushTimeout f s
  | .hostAttest fr => Sys2Proof.Machine.execHostAttest fr s
  | .hostEnd fr => Sys2Proof.Machine.execHostEnd fr s
  | .hostRegionCap fr => Sys2Proof.Machine.execHostRegionCap fr s
  | .hostMeasure fr => Sys2Proof.Machine.execHostMeasure fr s
  | .hostUnknownOperation fr => Sys2Proof.Machine.execHostUnknownOperation fr s
  | .frameDiscarded fr => Sys2Proof.Machine.execFrameDiscarded fr s
  | .healthStatus fr => Sys2Proof.Machine.execHealthStatus fr s
  | .healthSetCap fr => Sys2Proof.Machine.execHealthSetCap fr s
  | .healthLantern fr => Sys2Proof.Machine.execHealthLantern fr s
  | .traceCounters fr => Sys2Proof.Machine.execTraceCounters fr s
  | .traceDigest fr => Sys2Proof.Machine.execTraceDigest fr s
  | .traceMask fr => Sys2Proof.Machine.execTraceMask fr s
  | .traceRecords fr => Sys2Proof.Machine.execTraceRecords fr s
  | .tracePeriscope fr => Sys2Proof.Machine.execTracePeriscope fr s
  | .periscopeSnapshotEnd f => Sys2Proof.Machine.execPeriscopeSnapshotEnd f s
  | .traceBreak fr => Sys2Proof.Machine.execTraceBreak fr s
  | .traceClaim fr => Sys2Proof.Machine.execTraceClaim fr s
  | .traceRelease fr => Sys2Proof.Machine.execTraceRelease fr s
  | .traceWatch fr => Sys2Proof.Machine.execTraceWatch fr s
  | .traceStatus fr => Sys2Proof.Machine.execTraceStatus fr s
  | .traceResume fr => Sys2Proof.Machine.execTraceResume fr s
  | .powerSample milliwatts temps => Sys2Proof.Machine.execPowerSample milliwatts temps s
  | .powerLimit => Sys2Proof.Machine.execPowerLimit s
  | .rampWaveEnable rcb wave => Sys2Proof.Machine.execRampWaveEnable rcb wave s
  | .rampWaveDisable rcb wave => Sys2Proof.Machine.execRampWaveDisable rcb wave s
  | .energyUpdate tile microjoules => Sys2Proof.Machine.execEnergyUpdate tile microjoules s
  | .energyCap rgn => Sys2Proof.Machine.execEnergyCap rgn s
  | .computeDieReset die => Sys2Proof.Machine.execComputeDieReset die s
  | .coldReset => Sys2Proof.Machine.execColdReset s
  | .warmReset => Sys2Proof.Machine.execWarmReset s
  | .podNodeServe n => Sys2Proof.Machine.execPodNodeServe n s
  | .unreachable n => Sys2Proof.Machine.execUnreachable n s
  | .linkTraining port peer => Sys2Proof.Machine.execLinkTraining port peer s
  | .flitReceive port flit => Sys2Proof.Machine.execFlitReceive port flit s
  | .flitAck port seq => Sys2Proof.Machine.execFlitAck port seq s
  | .flitResend port => Sys2Proof.Machine.execFlitResend port s
  | .peerNoPath f => Sys2Proof.Machine.execPeerNoPath f s
  | .allreduceContribution unit group idx data => Sys2Proof.Machine.execAllreduceContribution unit group idx data s
  | .illegalOpcode head tail => Sys2Proof.Machine.execIllegalOpcode head tail s
  | .illegalLine w ip head => Sys2Proof.Machine.execIllegalLine w ip head s
  | .registerBankWake w => Sys2Proof.Machine.execRegisterBankWake w s
  | .powerRemoval => Sys2Proof.Machine.execPowerRemoval s
  | .globalAccessPerformed f => Sys2Proof.Machine.execGlobalAccessPerformed f s

end Sys2Proof.Machine
end

