-- ==== Sys2Proof/Machine/Halves.lean ====
section
/-!
DEFINITION. The half of a bundle that each instruction is, for bundles of two halves (R19). Device and host events are
no halves.
-/
namespace Sys2Proof.Machine

/-- The half that an instruction is. -/
def halfOf (i : Instr) : Option Half :=
  match i with
  | .nop => some (hNop)
  | .mov t => some (hMov t.toL)
  | .movL t => some (hMov t)
  | .movE t => some (hMovE t.toL)
  | .movEL t => some (hMovE t)
  | .movi t => some (hMovi t)
  | .add t => some (hAlu .add t.toL)
  | .addL t => some (hAlu .add t)
  | .sub t => some (hAlu .sub t.toL)
  | .subL t => some (hAlu .sub t)
  | .addi t => some (hAddi t)
  | .mul t => some (hAlu .mul t.toL)
  | .mulL t => some (hAlu .mul t)
  | .mulh t => some (hMulh t.toL)
  | .mulhL t => some (hMulh t)
  | .div t => some (hDivRem false t.toL)
  | .divL t => some (hDivRem false t)
  | .rem t => some (hDivRem true t.toL)
  | .remL t => some (hDivRem true t)
  | .and t => some (hAlu .and t.toL)
  | .andL t => some (hAlu .and t)
  | .or t => some (hAlu .or t.toL)
  | .orL t => some (hAlu .or t)
  | .xor t => some (hAlu .xor t.toL)
  | .xorL t => some (hAlu .xor t)
  | .andn t => some (hAlu .andn t.toL)
  | .andnL t => some (hAlu .andn t)
  | .shl t => some (hAlu .shl t.toL)
  | .shlL t => some (hAlu .shl t)
  | .shr t => some (hAlu .shr t.toL)
  | .shrL t => some (hAlu .shr t)
  | .sar t => some (hAlu .sar t.toL)
  | .sarL t => some (hAlu .sar t)
  | .rot t => some (hAlu .rot t.toL)
  | .rotL t => some (hAlu .rot t)
  | .shi t => some (hShi t)
  | .logi t => some (hLogi t)
  | .clz t => some (hBits .clz t.toL)
  | .clzL t => some (hBits .clz t)
  | .ctz t => some (hBits .ctz t.toL)
  | .ctzL t => some (hBits .ctz t)
  | .popc t => some (hBits .popc t.toL)
  | .popcL t => some (hBits .popc t)
  | .min t => some (hAlu .min t.toL)
  | .minL t => some (hAlu .min t)
  | .max t => some (hAlu .max t.toL)
  | .maxL t => some (hAlu .max t)
  | .minu t => some (hAlu .minu t.toL)
  | .minuL t => some (hAlu .minu t)
  | .maxu t => some (hAlu .maxu t.toL)
  | .maxuL t => some (hAlu .maxu t)
  | .sel t => some (hSel t)
  | .cmp t => some (hCmp t.toL)
  | .cmpL t => some (hCmp t)
  | .cmpi t => some (hCmpi t)
  | .ext t => some (hExt t)
  | .ins t => some (hIns t)
  | .bswap t => some (hBits .bswap t.toL)
  | .bswapL t => some (hBits .bswap t)
  | .lea t => some (hLea t)
  | .pset t => some (hPset t)
  | .padd t => some (hPadd t)
  | .paddSt t => some (hPaddSt t)
  | .pget t => some (hPget t)
  | .j t => some (hJ t)
  | .jr t => some (hJr t.toL)
  | .jrLForm t => some (hJr t)
  | .jrLink t => some (hJrLink t.toL)
  | .jrLinkLForm t => some (hJrLink t)
  | .call t => some (hCall t)
  | .ret => some (hRet)
  | .br t => some (hBr t)
  | .bz t => some (hBz false t)
  | .bnz t => some (hBz true t)
  | .loop t => some (hLoop t)
  | .gbr t => some (hGbr t)
  | .spawn t => some (hSpawn t)
  | .stop => some (hStop)
  | .trap t => some (hTrap t)
  | .tret => some (hTret)
  | .brk => some (hBrk)
  | .srd t => some (hSrd t)
  | .swr t => some (hSwr t)
  | .swrRndSeed t => some (hSwrRndSeed t)
  | .swrReportQ t => some (hSwrReportQ t)
  | .swrTrapVec t => some (hSwrTrapVec t)
  | .swrWaitLimit t => some (hSwrWaitLimit t)
  | .fence t => some (hFence t)
  | .rfill t => some (hRfill t)
  | .rget t => some (hRget t)
  | .gfuse t => some (hGfuse t)
  | .gsplit => some (hGsplit)
  | .gred t => some (hGred t)
  | .gxch t => some (hGxch t)
  | .crew t => some (hCrew t)
  | .cjoin t => some (hCjoin t.toL)
  | .cjoinL t => some (hCjoin t)
  | .cjoinX t => some (hCjoinX t.toL)
  | .cjoinXL t => some (hCjoinX t)
  | .acq t => some (hAcq t)
  | .acqm t => some (hAcqm t)
  | .rel t => some (hRel t)
  | .relm t => some (hRelm t)
  | .hold t => some (hHold t)
  | .ld t => some (hLd t)
  | .st t => some (hSt t)
  | .ldf t => some (hLdf t)
  | .ste t => some (hStTag true t)
  | .stf t => some (hStTag false t)
  | .steG t => some (hSteG t)
  | .stfG t => some (hStfG t)
  | .tagQ t => some (hTagQ t)
  | .tagE t => some (hTagSet false t)
  | .tagF t => some (hTagSet true t)
  | .tagWa t => some (hTagWa t)
  | .ldg t => some (hLdg t)
  | .stg t => some (hStg t)
  | .amo t => some (hAmo t)
  | .cas t => some (hCas t)
  | .mflip => some (hMflip)
  | .ldt t => some (hLdt t)
  | .rdm t => some (hRdm t.toL)
  | .rdmL t => some (hRdm t)
  | .rdms t => some (hRdms t.toL)
  | .rdmsL t => some (hRdms t)
  | .tkq t => some (hTicketQuery false t.toL)
  | .tkqL t => some (hTicketQuery false t)
  | .tkd t => some (hTicketQuery true t.toL)
  | .tkdL t => some (hTicketQuery true t)
  | .qbind t => some (hQbind t)
  | .qunb d => some (hQunb d)
  | .qpush t => some (hQpush t.toL)
  | .qpushL t => some (hQpush t)
  | .qpop t => some (hQpop t.toL)
  | .qpopL t => some (hQpop t)
  | .qtry t => some (hQtry t.toL)
  | .qtryL t => some (hQtry t)
  | .qpeek t => some (hQpeek t.toL)
  | .qpeekL t => some (hQpeek t)
  | .qsel t => some (hQsel t)
  | .qcancel t => some (hQcancel t)
  | .qstat t => some (hQstat t)
  | .qdone t => some (hQdone false t.toL)
  | .qdoneL t => some (hQdone false t)
  | .qdoneO t => some (hQdone true t.toL)
  | .qdoneOL t => some (hQdone true t)
  | .bcn t => some (hBcn t)
  | .bpass => some (hBpass)
  | .rawait t => some (hRawait t)
  | .rrel t => some (hRrel t)
  | .rstat t => some (hRstat t)
  | .barinit t => some (hBarinit t)
  | .bararv t => some (hBararv t)
  | .barexp t => some (hBarexp t)
  | .barwait t => some (hBarwait t)
  | .cpy t => some (hCpy t)
  | .sbind t => some (hSbind t)
  | .sunb d => some (hSunb d)
  | .mfill t => some (hFill false t)
  | .mscl t => some (hFill true t)
  | .mrule p t => some (hMrule p t)
  | .mrulxTags t => some (hMrulxTags t)
  | .mrulxFill t => some (hMrulxFill t)
  | .mrulxFb t => some (hMrulxFb t)
  | .mrulxNofb t => some (hMrulxNofb t)
  | .mtag t => some (hMtag t)
  | .mwait d => some (hMwait d)
  | .mwaitClr d => some (hMwaitClr d)
  | .mdrain t => some (hMdrain t)
  | .mclrAcc d => some (hMclrAcc d)
  | .mclrSlot d => some (hMclrSlot d)
  | .mstat t => some (hMstat t.toL)
  | .mstatL t => some (hMstat t)
  | .mred t => some (hMred t)
  | .vnop => some (hVnop)
  | .vmov t => some (hVmov t.toL)
  | .vmovL t => some (hVmov t)
  | .vbcast t => some (hVbcast t)
  | .vadd t => some (hVadd t.toL)
  | .vaddL t => some (hVadd t)
  | .vsub t => some (hVsub t.toL)
  | .vsubL t => some (hVsub t)
  | .vmul t => some (hVmul t.toL)
  | .vmulL t => some (hVmul t)
  | .vfma t => some (hVfma false false t.toL)
  | .vfmaL t => some (hVfma false false t)
  | .vfms t => some (hVfma false true t.toL)
  | .vfmsL t => some (hVfma false true t)
  | .vfnma t => some (hVfma true false t.toL)
  | .vfnmaL t => some (hVfma true false t)
  | .vmin t => some (hVpick false t.toL)
  | .vminL t => some (hVpick false t)
  | .vmax t => some (hVpick true t.toL)
  | .vmaxL t => some (hVpick true t)
  | .vabs t => some (hVabs t.toL)
  | .vabsL t => some (hVabs t)
  | .vneg t => some (hVneg t.toL)
  | .vnegL t => some (hVneg t)
  | .vdiv t => some (hVdiv t.toL)
  | .vdivL t => some (hVdiv t)
  | .vsqrt t => some (hVsqrt t.toL)
  | .vsqrtL t => some (hVsqrt t)
  | .vrcp t => some (hVfun frcp t.toL)
  | .vrcpL t => some (hVfun frcp t)
  | .vrsq t => some (hVfun frsq t.toL)
  | .vrsqL t => some (hVfun frsq t)
  | .vexp2 t => some (hVfun fexp2 t.toL)
  | .vexp2L t => some (hVfun fexp2 t)
  | .vlog2 t => some (hVfun flog2 t.toL)
  | .vlog2L t => some (hVfun flog2 t)
  | .vtanh t => some (hVfun ftanh t.toL)
  | .vtanhL t => some (hVfun ftanh t)
  | .vcmp t => some (hVcmp t)
  | .vclass t => some (hVclass t)
  | .vselk t => some (hVselk t)
  | .viadd t => some (hViadd t.toL)
  | .viaddL t => some (hViadd t)
  | .visub t => some (hVisub t.toL)
  | .visubL t => some (hVisub t)
  | .vimul t => some (hVimul t.toL)
  | .vimulL t => some (hVimul t)
  | .vimad t => some (hVimad t.toL)
  | .vimadL t => some (hVimad t)
  | .vand t => some (hValu .and t.toL)
  | .vandL t => some (hValu .and t)
  | .vor t => some (hValu .or t.toL)
  | .vorL t => some (hValu .or t)
  | .vxor t => some (hValu .xor t.toL)
  | .vxorL t => some (hValu .xor t)
  | .vshl t => some (hValu .shl t.toL)
  | .vshlL t => some (hValu .shl t)
  | .vshr t => some (hValu .shr t.toL)
  | .vshrL t => some (hValu .shr t)
  | .vsar t => some (hValu .sar t.toL)
  | .vsarL t => some (hValu .sar t)
  | .vimin t => some (hVipick false t.toL)
  | .viminL t => some (hVipick false t)
  | .vimax t => some (hVipick true t.toL)
  | .vimaxL t => some (hVipick true t)
  | .vicmp t => some (hVicmp t)
  | .vcvt t => some (hVcvt t)
  | .vqnt t => some (hVqnt t)
  | .vqxmax t => some (hVqxmax t)
  | .vpack t => some (hVpack t)
  | .vunpk t => some (hVunpk t)
  | .vrsum t => some (hVrsum t.toL)
  | .vrsumL t => some (hVrsum t)
  | .vrmax t => some (hVrpick true t.toL)
  | .vrmaxL t => some (hVrpick true t)
  | .vrmin t => some (hVrpick false t.toL)
  | .vrminL t => some (hVrpick false t)
  | .vscan t => some (hVscan t)
  | .vtopk t => some (hVtopk t)
  | .vshuf t => some (hVshuf t)
  | .vrot t => some (hVrot t)
  | .vextr t => some (hVextr t)
  | .vins t => some (hVins t)
  | .vcomp t => some (hVcomp t)
  | .vexpd t => some (hVexpd t)
  | .vld t => some (hVld t)
  | .vst t => some (hVst t)
  | .vlds t => some (hVlds t)
  | .vgath t => some (hVgath t)
  | .vscat t => some (hVscat t)
  | .kop t => some (hKop t)
  | .kcnt t => some (hKcnt t)
  | .viota t => some (hViota t.toL)
  | .viotaL t => some (hViota t)
  | .viotaK t => some (hViotaK t)
  | .waitTimeout _ => none
  | .bankStarvationGrant _ _ => none
  | .longResultArrival _ => none
  | .registersDrowsy _ => none
  | .rfillArrival _ => none
  | .rfillEFill _ => none
  | .rgetArrival _ => none
  | .quarantineReturn _ _ _ => none
  | .postedStorePerformed _ => none
  | .remoteStoreArrival _ => none
  | .tlbWalkEnd _ _ _ => none
  | .ldtRequestArrival _ => none
  | .fetchDataStored _ => none
  | .redeemPresentation _ => none
  | .redeemAnswer _ => none
  | .deliveryComplete _ => none
  | .tkqPresentation _ => none
  | .tkdPresentation _ => none
  | .retirementNotice _ => none
  | .orphanReclaim _ _ => none
  | .itemStored _ => none
  | .cancelArrival _ => none
  | .endpointFailure _ _ => none
  | .beaconArrival _ => none
  | .forcedCutFreeze _ => none
  | .beaconForward _ _ => none
  | .barrierPhaseComplete _ _ => none
  | .engineCommandPop _ => none
  | .engineElement _ => none
  | .engineWaitEnd _ => none
  | .commandEnd _ => none
  | .ringWrite _ => none
  | .streamStripLand _ => none
  | .refreshWindowEnd _ _ => none
  | .pathRequestStart _ => none
  | .pathRequestComplete _ => none
  | .firingStart _ => none
  | .firingEnd _ => none
  | .feedbackWriteEnd _ => none
  | .drainComplete _ => none
  | .mredPartSent _ => none
  | .mredComplete _ => none
  | .schedulingPass => none
  | .placementLoad _ => none
  | .drainingComplete _ => none
  | .cutActionReplace _ => none
  | .cutActionPreempt _ => none
  | .cutActionStop _ => none
  | .cutActionCheckpoint _ => none
  | .quiesceEnd _ => none
  | .mapDone _ _ _ => none
  | .refusePage _ _ _ => none
  | .invalidatePage _ _ _ _ => none
  | .invalidateReply _ => none
  | .unknownTranslationCommand _ _ => none
  | .allocRequest _ _ _ _ => none
  | .freeRequest _ _ _ _ => none
  | .serviceRestart _ => none
  | .hostHello _ => none
  | .hostRegister _ => none
  | .hostUnregister _ => none
  | .hostPlace _ => none
  | .hostBeacon _ => none
  | .hostRead _ => none
  | .hostWrite _ => none
  | .hostPush _ => none
  | .pushTimeout _ => none
  | .hostAttest _ => none
  | .hostEnd _ => none
  | .hostRegionCap _ => none
  | .hostMeasure _ => none
  | .hostUnknownOperation _ => none
  | .frameDiscarded _ => none
  | .healthStatus _ => none
  | .healthSetCap _ => none
  | .healthLantern _ => none
  | .traceCounters _ => none
  | .traceDigest _ => none
  | .traceMask _ => none
  | .traceRecords _ => none
  | .tracePeriscope _ => none
  | .periscopeSnapshotEnd _ => none
  | .traceBreak _ => none
  | .traceClaim _ => none
  | .traceRelease _ => none
  | .traceWatch _ => none
  | .traceStatus _ => none
  | .traceResume _ => none
  | .powerSample _ _ => none
  | .powerLimit => none
  | .rampWaveEnable _ _ => none
  | .rampWaveDisable _ _ => none
  | .energyUpdate _ _ => none
  | .energyCap _ => none
  | .computeDieReset _ => none
  | .coldReset => none
  | .warmReset => none
  | .podNodeServe _ => none
  | .unreachable _ => none
  | .linkTraining _ _ => none
  | .flitReceive _ _ => none
  | .flitAck _ _ => none
  | .flitResend _ => none
  | .peerNoPath _ => none
  | .allreduceContribution _ _ _ _ => none
  | .illegalOpcode head _ => some (hIllegal head)
  | .illegalLine _ _ _ => none
  | .registerBankWake _ => none
  | .powerRemoval => none
  | .globalAccessPerformed _ => none

end Sys2Proof.Machine
end

