-- ==== Sys2Proof/Machine/Fetch.lean ====
section
/-!
DEFINITION. Fetching a bundle from the instruction store, and a strand's slot (R9, R11 to R13, R18, R22, R24 to R28, R396,
R408, R419).
-/
namespace Sys2Proof.Machine

/-- What a fetch finds at an IP (R22, R24 to R28, R419). -/
inductive Fetched where
  /-- ILLEGAL_LINE with a head index. -/
  | bad (head : Nat)
  | ok (b : Bundle)
  deriving DecidableEq, Repr

/-- Fetch from an instruction store (R22, R25 to R28, R419). -/
noncomputable def fetch (store : FMap Line) (ip : Word) : Fetched :=
  if ip.toNat ≥ 2 ^ 16 || bitAt ip 0 then .bad 0
  else
    match decodeLine (FMap.get [] store (ip.toNat / 64)) with
    | .error h => .bad h
    | .ok bs =>
      match bs.find? (fun b => b.start == ip.toNat / 2 % 32) with
      | none => .bad 0
      | some b => .ok b

/-- The IP of the next bundle (R27, R87). -/
def nextIp (ip : Word) (b : Bundle) : Word :=
  match b.next with
  | some h => BitVec.ofNat 64 (ip.toNat / 64 * 64 + 2 * h)
  | none => BitVec.ofNat 64 (ip.toNat / 64 * 64 + 64)

/-- The halves of a bundle that both are instructions, issued together. -/
def execPair (i j : Instr) (s : State) : Host.Outcome State Fault Refusal :=
  match halfOf i, halfOf j with
  | some a, some b => run2 a b s
  | _, _ => .next s

/-- The TRAP_INFO word of an optional half (R68). -/
def wordOf (i : Option Instr) : Word :=
  match i with
  | none => 0
  | some (.illegalOpcode h t) => instrWord h t
  | some x => x.word

/-- What a strand is about to issue: its fetched bundle (R27, R68, R87). -/
def issueOf (w : Who) (ip : Word) (b : Bundle) : Issue :=
  { who := w, ip := ip, next := nextIp ip b, sWord := wordOf b.scalar, vWord := wordOf b.vector }

/-- Issue a fetched bundle for a strand (R19). -/
def issueBundle (w : Who) (ip : Word) (b : Bundle) (s : State) : Host.Outcome State Fault Refusal :=
  let s := { s with cur := issueOf w ip b }
  match b.scalar, b.vector with
  | some i, none => exec i s
  | none, some j => exec j s
  | some i, some j => execPair i j s
  | none, none => .next s

/-- The strike of a strand's last bundle that acts: the first that goes to a claiming debugger, else the first (R396, R397,
assumption 99). -/
def State.strikeCause (s : State) (w : Who) : Option Cause :=
  let l := (s.strand w).struck.map (fun x => ({ code := .watchpoint, info := x } : Cause))
  match l.find? (s.debugged w) with
  | some c => some c
  | none => l.head?

/-- A strike of a watchpoint in the last bundle is taken before the next one, in a gang by every member that has one; one that a
debugger takes stays until the tile goes on (R204, R396, R397). -/
def State.takeStrikes (s : State) (w : Who) : Option State :=
  let ms := s.members w
  let cs := causesOf ms s.strikeCause
  if cs.isEmpty then none
  else
    let s := { s with cur := { s.cur with who := w, ip := (s.strand w).ip } }
    let keep := (cs.filter (fun e => s.debugged e.1 e.2)).map (·.1)
    let s := ms.foldl (fun (a : State) m => if keep.contains m then a else a.modStrand m (fun y => { y with struck := [] })) s
    some (s.raise ms cs)

/-- The tile whose line a fetch finds in error ends its placement (R408). DESIGN CHOICE: the field 'where' of its TRAP_INFO is the
IP, for an instruction store has neither a local nor a virtual address (R107, assumption 97). -/
def State.fetchError (s : State) (w : Who) (ip : Word) : State :=
  s.placementFatal w (eccCause 6 ip.toNat w.tile (ip.toNat / 64)) ip

/-- A slot that the bank conflict of a member's bundle consumes passes on every member (R12, R199). -/
def State.passSlot (s : State) (ms : List Who) : State :=
  ms.foldl (fun a m => a.modStrand m (fun y => { y with skip := y.skip - 1 })) s

/-- A strand's slot in the current cycle. The slots of a gang are those of its leader. A slot that a bank conflict consumes passes
whether or not the tile is frozen, and a parked strand whose wait ends only from a later cycle on stays parked (R9, R11 to R13, R18,
R198, R199, R207). -/
noncomputable def slotStep (t : Nat) (s : State) : Host.Outcome State Fault Refusal :=
  let w : Who := ⟨t, s.now t % 8⟩
  let x := s.strand w
  if x.dying then .next ((s.modStrand w (fun y => { y with running := false, dying := false })).noteStop t)
  else if !x.running || x.waking.isSome then .next s
  else if decide (s.now t < x.startAt) then .next (if (s.tile t).frozen then s else s.modStrand w Strand.loseSlot)
  else if x.hold.isSome then .next (s.finishHold w)
  else if x.fused && s.leader w != w then .next s
  else if (s.members w).any (fun m => decide (0 < (s.strand m).skip)) then .next (s.passSlot (s.members w))
  else if (s.tile t).frozen then .next s
  else if s.gangHeld (s.members w) then .next s
  else
    match s.takeStrikes w with
    | some a => .next a
    | none =>
      if (s.tile t).badLines.contains (x.ip.toNat / 64) then .next (s.fetchError w x.ip)
      else
        match fetch (s.tile t).store x.ip with
        | .bad h => exec (.illegalLine w x.ip h) s
        | .ok b => issueBundle w x.ip b s

end Sys2Proof.Machine
end

