-- ==== Sys2Proof/Machine/Schedule.lean ====
section
/-!
DEFINITION. Which moves come next: a cycle of a die, or one of the events that may happen now. Where the spec leaves the order
open, Config.choice takes one (assumption 3). An event that must not come later than now goes before every cycle.
-/
namespace Sys2Proof.Machine

/-! ### What is in flight -/

/-- The event in which a flight takes effect. -/
noncomputable def flightEvent (s : State) (f : Flight) : Option Instr :=
  match f.kind with
  | .long _ => some (.longResultArrival f.id)
  | .access _ _ _ _ _ =>
    some (if f.kind.isGlobal then .globalAccessPerformed f.id
      else if f.kind.isPosted then .postedStorePerformed f.id
      else .remoteStoreArrival f.id)
  | .rfill e r _ => some (if e && (s.tile r.tile).fills.contains f.id then .rfillEFill f.id else .rfillArrival f.id)
  | .rget _ _ => some (.rgetArrival f.id)
  | .item _ _ _ items _ _ => some (if items.any (fun x => x.beacon) then .beaconArrival f.id else .itemStored f.id)
  | .command _ _ => some (.itemStored f.id)
  | .cancel _ _ _ => some (.cancelArrival f.id)
  | .retire _ _ => some (.retirementNotice f.id)
  | .ldt _ _ _ _ _ _ _ _ => some (.ldtRequestArrival f.id)
  | .fetch _ _ _ _ _ _ _ => some (.fetchDataStored f.id)
  | .present _ _ _ _ _ none => some (.redeemPresentation f.id)
  | .present _ _ _ _ _ (some _) => some (.redeemAnswer f.id)
  | .redeem _ _ _ false (some _) _ => some (.deliveryComplete f.id)
  | .redeem _ _ _ _ _ _ => none
  | .strip _ _ _ => some (.streamStripLand f.id)
  | .invalidated _ _ _ _ => some (.invalidateReply f.id)
  | .mredPart _ _ => some (.mredPartSent f.id)
  | .mredSum _ _ _ => some (.mredComplete f.id)
  | .query drop _ _ _ => some (if drop then .tkdPresentation f.id else .tkqPresentation f.id)
  | .host _ _ _ => none
  | .debugRead _ => none
  | .sweep _ => none
  | .ewrite _ _ _ _ => none

/-- A strip that its engine could move now. -/
def State.stripReady (s : State) (f : Flight) : Bool :=
  match f.kind with
  | .strip reg va _ =>
    s.arrived f && !s.queued f && s.nextStrip f reg &&
      (match s.stripTarget f va with
       | .ok t => (s.stripRefresh t).isNone && s.targetPath t
       | _ => false)
  | _ => false

/-- The engine has a strip to move (R282). -/
def State.stripWork (s : State) (e : Nat) : Bool := s.flights.any (fun f => homeEngine f.owner.tile == e && s.stripReady f)

/-- The engine has an element to move (R282). -/
def State.elementWork (s : State) (e : Nat) : Bool := (s.engine e).run.any (fun r => r.phase == .run)

/-- While an engine has elements and strips to move, it moves them in turn; an element counts as one strip (R282, assumption 104).
-/
def State.turnOf (s : State) (e : Nat) (strip : Bool) : Bool := !(s.stripWork e && s.elementWork e) || (s.engine e).strip != strip

/-- A strip waits while it is the turn of a command, or while the engine moves other bytes (R282). -/
def State.strippable (s : State) (f : Flight) : Bool :=
  let e := homeEngine f.owner.tile
  !s.stripReady f || (s.turnOf e true && decide ((s.engine e).free ≤ s.engineNow e))

/-- The move of a flight that has arrived. -/
noncomputable def State.flightMove (s : State) (f : Flight) : Option Move :=
  match f.kind with
  | .host _ _ _ => some (.land f.id)
  | .debugRead _ => some (.land f.id)
  | .sweep _ => some (.land f.id)
  | .ewrite _ _ _ _ => some (.land f.id)
  | _ => (flightEvent s f).map Move.event

/-- The moves of the flights of a list that have arrived. -/
noncomputable def State.flightMoves (s : State) (l : List Flight) : List Move :=
  l.filterMap (fun f => if s.arrived f && !s.queued f && s.strippable f then s.flightMove f else none)

/-- A flight may not come later than now. -/
def State.overdue (s : State) (f : Flight) : Bool :=
  match f.hi with
  | none => false
  | some n => decide (n ≤ (s.die f.die).clock)

/-- The words that a fetch or a strip may bind on its own; those of scratchpad are read at their banks (R163, R251, R298). -/
def State.freeWords (s : State) (f : Flight) : List (Option Nat) :=
  match f.kind with
  | .fetch _ _ _ t _ l _ => (match t with | .tile _ _ => [] | _ => l)
  | .strip _ va l => (match s.stripTarget f va with | .ok (.tile _ _) => [] | _ => l)
  | _ => []

/-- The words of a fetch or of a strip that are not bound yet (R251, R298). -/
def State.bindMoves (s : State) : List Move :=
  s.flights.flatMap (fun f =>
    let ws := s.freeWords f
    ((List.range ws.length).filter (fun i => ws[i]? == some none)).map (fun i => .bind f.id i))

/-- Accesses to packages that have had no path for 10 µs (R414). -/
noncomputable def State.pathMoves (s : State) : List Move := (s.flights.filter s.pathLost).map (fun f => .event (.peerNoPath f.id))

/-! ### Tiles and engines -/

/-- What happens at the end of a tile's cycle, after its bundle: completions of the path, the end of the array's work, its next
choice (R258, R259, R264, R265, R271, R273, R276). -/
noncomputable def afterTile (t : Nat) : List Move :=
  [.event (.pathRequestComplete t), .event (.drainComplete t), .event (.pathRequestStart t), .event (.firingEnd t),
   .event (.feedbackWriteEnd t), .event (.firingStart t)]

/-- What happens at the start of a tile's cycle, with the state that the cycle before has left: the end of a barrier's phase, the
banks that starving requests take, and what has gone drowsy (R48, R163, R296). -/
noncomputable def State.startTile (s : State) (t : Nat) : List Move :=
  let y := s.tile t
  let banks := if y.bankQ.isEmpty && y.path.isEmpty then [] else [0, 1, 2].map (fun b => Move.event (.bankStarvationGrant t b))
  let drowsy := (y.strands.filter (fun e => !e.2.running && !e.2.drowsy && decide (e.2.touched + 1024 ≤ s.now t + 1))).map
    (fun e => Move.event (.registersDrowsy ⟨t, e.1⟩))
  let bars := (y.bars.filter (fun e => e.2.complete)).map (fun e => Move.event (.barrierPhaseComplete t e.1))
  bars ++ banks ++ drowsy

/-- The tiles of a die that have left the state of reset. -/
def State.tilesOn (s : State) (d : Nat) : List Nat := (FMap.keys s.tiles).filter (fun t => dieOf t == d)

/-- The sources of a die that have more entries than their mark and an orphan to reclaim, at the end of a fabric cycle (R238, R248).
-/
noncomputable def State.reclaims (s : State) (d : Nat) : List Move :=
  if (s.die d).clock % 2 = 0 then []
  else (s.sources.filter (fun e => sourceDie e.1 == d && decide (highWater (e.1 / 4096) < e.2.occupied))).map
    (fun e => .event (.orphanReclaim (e.1 / 4096) (e.1 % 4096)))

/-- A cycle of a die: what the cycle before leaves to its end, the clock, the events of its start, the slots of its tiles and the
ends of their cycles. What lands in a cycle lands after its slots (R3, R9, R18, R238). -/
noncomputable def State.dieCycle (s : State) (d : Nat) : List Move :=
  let ts := s.tilesOn d
  s.reclaims d ++ [.endDie d] ++ ts.flatMap s.startTile ++ ts.map Move.slot ++ ts.map Move.endCycle ++ ts.flatMap afterTile

/-- What tiles may do between cycles: waking banks, forwarded beacons (R48, R354). -/
noncomputable def State.tileMoves (s : State) : List Move :=
  s.tiles.flatMap (fun e =>
    (e.2.strands.filter (fun x => x.2.waking.isSome)).map (fun x => Move.event (.registerBankWake ⟨e.1, x.1⟩)) ++
    e.2.beaconDue.map (fun x => Move.event (.beaconForward e.1 x.1)))

/-- What must happen in a tile before its next cycle: a freeze, the return of a unit that nothing uses any more, a bank that has to
be awake (R48, R194, R196, R354). -/
noncomputable def State.tileUrgent (s : State) : List Move :=
  s.tiles.flatMap (fun e =>
    (if (s.forcedCut e.1).isSome then [Move.event (.forcedCutFreeze e.1)] else []) ++
    (e.2.quar.filter (fun x => !s.unitBusy e.1 x.cls x.unit)).map (fun x => Move.event (.quarantineReturn e.1 x.cls x.unit)) ++
    (e.2.strands.filter (fun x => match x.2.waking with | some n => decide (n ≤ s.now e.1) | none => false)).map
      (fun x => Move.event (.registerBankWake ⟨e.1, x.1⟩)))

/-- The engines' moves (R282, R286, R289, R294). -/
noncomputable def State.engineMoves (s : State) : List Move :=
  s.engines.flatMap (fun e =>
    match e.2.run with
    | none => if e.2.buf.isEmpty then [] else [Move.event (.engineCommandPop e.1)]
    | some r =>
      match r.phase with
      | .run =>
        (if s.turnOf e.1 false then [.event (.engineElement e.1)] else []) ++ (List.range 4).map (fun i => .ahead e.1 (r.next + 1 + i))
      | .ended _ _ => [.event (.commandEnd e.1)]
      | .ring _ => [.event (.ringWrite e.1)]
      | _ => [.event (.engineWaitEnd e.1)])

/-- The engines that have to start their next command now: 8 fabric cycles after they could (R282). -/
noncomputable def State.popUrgent (s : State) : List Move :=
  (s.engines.filter (fun e => e.2.run.isNone && !e.2.buf.isEmpty && decide (e.2.since + 16 ≤ s.engineNow e.1))).map
    (fun e => .event (.engineCommandPop e.1))

/-- The banks of weight stores that something waits for and that do not refresh any more (R300). -/
noncomputable def State.refreshMoves (s : State) : List Move :=
  (List.range 4).flatMap (fun d =>
    let waits := (s.die d).refreshWait.filterMap (fun id => (s.flight id).bind s.refreshBank)
    let engines := s.engines.filterMap (fun e => e.2.run.bind (fun r => match r.phase with | .refresh x b => some (x, b) | _ => none))
    (((waits ++ engines).filter (fun x => x.1 == d && !s.refreshing d x.2)).dedup).map (fun x => .event (.refreshWindowEnd d x.2)))

/-! ### Queues, tickets, translation, services -/

/-- Endpoints that are lost while copies are on their way (R229). -/
noncomputable def State.failureMoves (s : State) : List Move :=
  s.flights.filterMap (fun f =>
    match f.kind with
    | .item q e _ _ _ _ => if s.epLost q e then some (.event (.endpointFailure q e)) else none
    | _ => none)

/-- Endpoints whose buffers an error has struck (R229, R408). -/
noncomputable def State.struckMoves (s : State) : List Move :=
  s.queues.flatMap (fun x =>
    ((List.range x.2.eps.length).filter (fun e => x.2.type != 2 && s.epStruck x.1 e)).map (fun e => .event (.endpointFailure x.1 e)))

/-- The walks under way, and the command at the head of a translation queue (R365, R368). -/
noncomputable def State.xlateMoves (s : State) : List Move :=
  s.dies.flatMap (fun e =>
    (e.2.merge.filter (fun m => m.walking)).map (fun m => Move.event (.tlbWalkEnd e.1 m.part m.page)) ++
    (match s.headCommand e.1 with
     | none => []
     | some (c, p, x) =>
       [Move.event (match c with
         | 1 => .mapDone e.1 p (x.word 1)
         | 2 => .refusePage e.1 p (x.word 1)
         | 3 => .invalidatePage e.1 p (x.word 1) (fieldNat (x.word 2) 0 16)
         | _ => .unknownTranslationCommand e.1 c)]))

/-- The pagers, the allocators, and the services that a reserved tile has lost (R368, R372, R373). -/
noncomputable def State.serviceMoves (s : State) : List Move :=
  (List.range 4).flatMap (fun d =>
    (if s.pagerReady d then [Move.pager d] else []) ++
    (match (s.die d).allocQueue.bind (fun q => (s.portOn (512 * d + 2) q).map (fun e => (q, e.2))) with
     | none => []
     | some (q, p) =>
       match p.items with
       | [] => []
       | x :: _ =>
         [Move.event (if allocOp x.item.words = 2 then .freeRequest d q x.ordinal x.item.words else .allocRequest d q x.ordinal x.item.words)]) ++
    (((s.tilesOn d).filter s.serviceBroken).map (fun t => Move.event (.serviceRestart t))))

/-- The host's requests that wait (R377, R389). -/
noncomputable def State.callMoves (s : State) : List Move :=
  s.calls.flatMap (fun e =>
    match e.2.kind with
    | .push _ _ _ => [Move.call e.1]
    | .periscope _ _ _ => [.event (.periscopeSnapshotEnd e.1)]
    | .window _ _ => []
    | _ => [.call e.1])

/-- The PUSHes that have waited for 1 ms (R377). -/
noncomputable def State.lateMoves (s : State) : List Move :=
  (s.calls.filter (fun e => s.pushLate e.2)).map (fun e => .event (.pushTimeout e.1))

/-! ### Placements, cuts, power -/

/-- What the supervisor has to do (R346, R348, R352, R359, R403). -/
noncomputable def State.regionMoves (s : State) : List Move :=
  (if s.passDue then [Move.event .schedulingPass] else []) ++
  s.nodes.flatMap (fun e =>
    (if s.placeState e.1 = 1 then [Move.event (.placementLoad e.1)] else []) ++
    (if s.placeState e.1 = 4 ∨ s.emptyDue e.1 then [Move.event (.drainingComplete e.1)] else []) ++
    (if s.energyDue e.1 then [Move.event (.energyCap e.1)] else []) ++
    (match e.2.cut with
     | none => []
     | some c =>
       (if c.pending.isEmpty then [] else [Move.inject e.1]) ++
       (if c.done then []
        else if c.acting then [Move.event (.quiesceEnd e.1)]
        else
          match c.kind with
          | 1 => [.event (.cutActionReplace e.1)]
          | 2 => [.event (.cutActionPreempt e.1)]
          | 3 => [.event (.cutActionStop e.1)]
          | _ => [.event (.cutActionCheckpoint e.1)])))

/-- A wave of a placement that is to be enabled from the next cycle on (R401). -/
def State.waveDue (s : State) (a w : Nat) : Bool :=
  s.placeState a == 2 && (s.waveTiles a w).any (fun t => !(s.tile t).arrayOn && decide ((s.tile t).rampFrom + 1024 * w ≤ s.now t + 1))

/-- A wave of a placement that is to be disabled from the next cycle on, its firings ended (R401). -/
def State.waveDone (s : State) (a w : Nat) : Bool :=
  (s.placeState a == 3 || s.placeState a == 4) &&
    (s.waveTiles a w).any (fun t => (s.tile t).arrayOn && (s.tile t).job.isNone && decide (s.coolFrom a + 1024 * w ≤ s.now t + 1))

/-- The waves that are to be enabled or disabled now (R401). -/
noncomputable def State.rampUrgent (s : State) : List Move :=
  s.nodes.flatMap (fun e =>
    ((List.range 8).filter (s.waveDue e.1)).map (fun w => Move.event (.rampWaveEnable e.1 w)) ++
      ((List.range 8).filter (s.waveDone e.1)).map (fun w => Move.event (.rampWaveDisable e.1 w)))

/-- What the controllers do: POWER_LIMIT once it is due; a sample in every microsecond of die 0's clock, of what the world has them
measure, or else of free values; and in every 1.024 µs of a die's clock each tile's energy, whose estimate is free (R400, R402,
assumptions 4 and 118). -/
noncomputable def State.powerMoves (s : State) : List Move :=
  let x := Config.freeWord s.choices
  let (mw, temps) := s.power.reading.getD (fieldNat x 0 32, (List.range 4).map (fun d => (x.extractLsb' (32 + 8 * d) 8).toInt))
  (if 1000 ≤ s.power.overCap ∧ !s.power.limit then [.event .powerLimit] else []) ++
    (if (s.die 0).clock / 4000 ≠ s.power.tick then [.event (.powerSample mw temps)] else []) ++
    (s.tiles.filter (fun e => validTile e.1 && e.2.energyAt != s.now e.1 / 4096)).map (fun e => .event (.energyUpdate e.1 x.toNat))

/-! ### Boot, links, the all-reduce, the outside -/

/-- The nodes of the pod whose status is not decided; the links with flits not acknowledged (R412, R414). -/
noncomputable def State.podMoves (s : State) : List Move :=
  (if s.boot.root && s.boot.booted then
    ((List.range s.boot.topology.length).filter (fun i => (FMap.find s.boot.status i).isNone)).flatMap
      (fun i => [Move.event (.podNodeServe i)])
  else []) ++
  (s.links.filter (fun e => e.2.up && !e.2.retry.isEmpty)).map (fun e => Move.event (.flitResend e.1))

/-- The nodes that have had no path for 2 s (R412). -/
noncomputable def State.podUrgent (s : State) : List Move :=
  ((List.range s.boot.topology.length).filter s.unreachable).map (fun i => .event (.unreachable i))

/-- The contributions and the results that have arrived whole (R416). -/
noncomputable def State.reduceMoves (s : State) : List Move :=
  s.groups.flatMap (fun e =>
    ((List.range e.2.members.length).filter (fun i =>
      (FMap.find e.2.taken i).isNone && decide (e.2.words + e.2.words % 2 ≤ (FMap.get [] e.2.arrived i).length))).map
      (fun i => .event (.allreduceContribution e.2.unit e.1 i ((FMap.get [] e.2.arrived i).take e.2.words)))) ++
  (s.groups.filter (fun e => s.resultWhole e.2)).map (fun e => .result e.1)

/-- The event of a datagram: a request by its operation and its selector, or a frame that is discarded (R374, R377, R398, R404). -/
noncomputable def frameEvent (s : State) (f : Frame) : Instr :=
  if !s.takes f then .frameDiscarded f
  else if f.unknown then .hostUnknownOperation f
  else
    match f.op with
    | 1 => .hostHello f
    | 2 => .hostRegister f
    | 3 => .hostUnregister f
    | 4 => .hostPlace f
    | 5 => .hostBeacon f
    | 6 => .hostRead f
    | 7 => .hostWrite f
    | 8 => .hostPush f
    | 9 =>
      match f.selector with
      | 1 => .healthStatus f
      | 2 => .healthSetCap f
      | _ => .healthLantern f
    | 10 =>
      match f.selector with
      | 1 => .traceCounters f
      | 2 => .traceDigest f
      | 3 => .traceMask f
      | 4 => .traceRecords f
      | 5 => .tracePeriscope f
      | 6 => .traceBreak f
      | 7 => .traceClaim f
      | 8 => .traceRelease f
      | 9 => .traceWatch f
      | 10 => .traceStatus f
      | _ => .traceResume f
    | 11 => .hostAttest f
    | 12 => .hostEnd f
    | 13 => .hostRegionCap f
    | _ => .hostMeasure f

/-- What an event of the world says of the module's power: the controller measures it in its next sample (R400, assumption 118). -/
def reading? : Instr → Option (Nat × List Int)
  | .powerSample mw temps => some (mw, temps)
  | _ => none

/-- The next input; nobody takes the datagrams of a package that has not booted (R409). -/
noncomputable def State.takeInput (s : State) : State :=
  match s.inbox with
  | [] => s
  | x :: r =>
    let s := { s with inbox := r }
    match x with
    | .event i =>
      match reading? i with
      | some r => { s with power := { s.power with reading := some r } }
      | none => { s with due := [.event i] }
    | .system x => s.systemAct x
    | .debug n r => if s.mayDebug n r.tile then s.send ⟨r.tile, 0⟩ 1 none (.debugRead r) else s
    | .upset x => s.upset x
    | .corrected d k => s.correct d k
    | .frame f => if s.boot.booted then { s with due := [.event (frameEvent s f)] } else s

/-! ### The next moves -/

/-- What must happen before time goes on. -/
noncomputable def State.urgent (s : State) : List Move :=
  s.flightMoves (s.flights.filter s.overdue) ++ s.tileUrgent ++ s.refreshMoves ++ s.rampUrgent ++ s.popUrgent ++ s.struckMoves ++
    s.pathMoves ++ s.lateMoves ++ s.powerMoves ++ s.podUrgent

/-- What may happen now. -/
noncomputable def State.possible (s : State) : List Move :=
  s.flightMoves s.flights ++ s.bindMoves ++ s.tileMoves ++ s.engineMoves ++ s.failureMoves ++
    s.xlateMoves ++ s.serviceMoves ++ s.callMoves ++ s.regionMoves ++ s.podMoves ++ s.reduceMoves

/-- The next moves when none are due: power comes on with a cold reset; what is urgent; else one of the possible moves, a cycle
of a die that has booted, or the next input. -/
noncomputable def refill (s : State) : State :=
  if s.boots = 0 then { s with due := [.event .coldReset] }
  else
    match s.urgent with
    | m :: r =>
      let (c, s) := s.choose (r.length + 1)
      { s with due := [(m :: r).getD c m] }
    | [] =>
      let l := s.possible
      let (c, s) := s.choose (l.length + 5)
      match l[c]? with
      | some m => { s with due := [m] }
      | none => if c - l.length < 4 then { s with due := s.dieCycle (c - l.length) } else s.takeInput

/-- A sweep returns, a write of an engine comes to its destination, the host's access to its bank, or a debugger's read to its register (R47, R288,
R321, R377). -/
def State.land (s : State) (id : Nat) : State :=
  match s.flight id with
  | none => s
  | some f =>
    if !s.arrived f || s.queued f then s
    else
      match f.kind with
      | .host _ t off => s.viaBank f t [(s.tile t).winPhys off / 64]
      | .debugRead r => s.arriveDebug f r
      | .sweep _ => s.dropFlight id
      | .ewrite _ _ _ _ => s.landWrite f
      | _ => s

/-- One move. -/
noncomputable def perform (m : Move) (s : State) : Host.Outcome State Fault Refusal :=
  match m with
  | .slot t => slotStep t s
  | .bind f i => .next (s.bind_ f i)
  | .land f => .next (s.land f)
  | .endCycle t => .next (s.endTile t)
  | .endDie d => .next (s.endDie d)
  | .pager d => .next (s.pagerStep d)
  | .inject rgn => .next (s.injectCut rgn)
  | .call n => .next (s.retryCall n)
  | .ahead e n => .next (s.readAhead e n)
  | .result k => .next (s.takeResult k)
  | .event i => exec i s

end Sys2Proof.Machine
end

