-- ==== Sys2Proof/Machine/Step.lean ====
section
/-!
DEFINITION. One step of the machine: a slot of a tile, the end of a cycle, or an event; and how an instruction is placed where
the next step fetches it.
-/
namespace Sys2Proof.Machine

/-- One step: the first move that is due, or the moves that come next. -/
noncomputable def step (s : State) : Host.Outcome State Fault Refusal :=
  match s.due with
  | [] => .next (refill s)
  | m :: r => perform m { s with due := r }

/-- The head of an instruction of nbits bits; the head stands in the high half of the table's numbering. -/
def tableHead (nbits w : Nat) : BitVec 16 := BitVec.ofNat 16 (w / 2 ^ (nbits - 16))

/-- The tail of an instruction of nbits bits. -/
def tableTail (nbits w : Nat) : BitVec 48 := BitVec.ofNat 48 (w % 2 ^ (nbits - 16))

/-- The state with one instruction in line 0 of tile 0's store, that tile's strand of the current slot about to
issue it, and that slot the only move due. -/
def State.withFetchWord (s : State) (nbits w : Nat) : State :=
  let n := s.now 0 % 8
  let s := s.modTile 0 (fun t =>
    { t with store := FMap.put [] t.store 0 (lineOfWord (tableHead nbits w) (tableTail nbits w)), frozen := false })
  let s := s.modStrand ⟨0, n⟩ (fun x =>
    { x with running := true, dying := false, startAt := 0, ip := 0, skip := 0, park := none, waking := none })
  { s with due := [.slot 0] }

end Sys2Proof.Machine
end

