-- ==== Sys2Proof/Safety.lean ====
section
/-!
DEFINITION. The terms in which claims speak: a strand that issues alone, operands that are ready, a bundle that meets nothing,
a machine whose device memory is in canonical form.
-/
namespace Sys2Proof.Machine

/-- The strand whose bundle is being issued is fused in no gang, and its tile is not frozen (R11, R199, R356). -/
def State.Alone (s : State) : Prop :=
  (s.strand s.cur.who).fused = false ∧ (s.tile s.cur.who.tile).frozen = false

/-- It is alone, and no gang of which it is to be a member has been formed either: a cause that it raises is its own (R19, R198, R204). -/
def State.Lone (s : State) : Prop := s.Alone ∧ (s.strand s.cur.who).matched = false

/-- The mask register is full and not in parity error (R49, R64). -/
abbrev State.MaskReady (s : State) (k : Nat) : Prop :=
  ((s.strand s.cur.who).readK k).st = .full ∧ ((s.strand s.cur.who).readK k).bad = false

/-- The mask register of a scalar-class instruction is ready and its bit 0 is set (R64). -/
def State.MaskOn (s : State) (k : Nat) : Prop := s.MaskReady k ∧ bitAt ((s.strand s.cur.who).readK k).val 0 = true

/-- The mask register of a scalar-class instruction is ready and its bit 0 is clear (R64). -/
def State.MaskOff (s : State) (k : Nat) : Prop := s.MaskReady k ∧ bitAt ((s.strand s.cur.who).readK k).val 0 = false

/-- The mask register of a vector-class instruction is ready, and some lane is active (R64, R133). -/
def State.LanesOn (s : State) (k : Nat) : Prop := s.MaskReady k ∧ ((s.strand s.cur.who).readK k).val ≠ 0

/-- Every source can be read: its register is held, full, without parity error and not in stream mode, and one with its trap bit set
finds its items (R16, R39, R44, R49, R298). -/
def State.Readable (s : State) (l : List Src) : Prop :=
  (∀ r ∈ l, (s.strand s.cur.who).lacks r.loc = false ∧ s.locFill s.cur.who r.loc = .full ∧
    s.locBad s.cur.who r.loc = false ∧ ∀ i, r.loc = .v i → FMap.find (s.strand s.cur.who).streams i = none) ∧
    findSrc (Src.shortAt s s.cur.who) [] l = none

/-- Every destination can be written: its register is held, not PENDING and not in stream mode, and the pointer of one in
scratchpad is not in parity error (R17, R39, R49, R298). -/
def State.Writable (s : State) (l : List Loc) : Prop :=
  ∀ d ∈ l, (s.strand s.cur.who).lacks d = false ∧ (∀ r, d.ref s.cur.who = some r → s.regFill r ≠ .pending) ∧
    (∀ i, d = .v i → FMap.find (s.strand s.cur.who).streams i = none) ∧ (d.isM = true → s.locBad s.cur.who d = false)

/-- The strand has gone on behind its bundle: the next IP, no park (R18, R27). -/
def State.past (s : State) : State :=
  s.modStrand s.cur.who (fun x => { x with ip := s.cur.next, park := none, ignoreOnce := false, xfault := none, mwait := none })

/-- The operands of a scalar instruction are ready: what it pops and pushes raises nothing and waits for nothing (R70, R219,
R321). -/
def State.Moves (s : State) (srcs : List Src) (d : Loc) (n : Nat) : Prop :=
  s.srcsFault s.cur.who srcs = none ∧ s.dstFault s.cur.who d = none ∧
    s.dstPrivileged s.cur.who d = false ∧ ioWait s.past s.cur.who srcs d n = none ∧
    ((d.isQ || srcs.any (fun r => r.loc.isQ)) = true → s.acquiring s.cur.who = false)

/-- The operands of a scalar instruction are ready: sources and destination, their pops and their push. -/
def State.ScalarReady (s : State) (srcs : List Src) (d : Loc) (n : Nat) : Prop :=
  s.Readable srcs ∧ s.Writable [d] ∧ s.Moves srcs d n

/-- The state in which the strand has only gone on behind its bundle, stream changes of the bundle settled (R27, R136). -/
def State.onward (s : State) : State := s.past.settleStreams s.cur.who

/-- Nothing that the strand has under way holds a bundle with the accesses of a list back (R260, R310, R321). -/
def State.Unheld (s : State) (l : List Acc) : Prop :=
  s.acquiring s.cur.who = false ∧ s.ownPending s.cur.who l = false ∧ s.pathHold s.cur.who l = none

/-- No bank of a list of scratchpad units is taken by a starving request in this cycle (R163). -/
def State.BanksOpen (s : State) (us : List Nat) : Prop :=
  ∀ u ∈ us, (s.tile s.cur.who.tile).bankTaken.contains (bankOf (64 * u)) = false

/-- No watchpoint of the strand's tile sees an access of a list (R395). -/
def State.Unwatched (s : State) (l : List Acc) : Prop := ∀ a ∈ l, (s.tile s.cur.who.tile).strikes a = none

/-- The scratchpad accesses of a bundle are paid for: each bank is held for as many cycles as it serves, and the strand's
slots are consumed while the fullest bank is busy (R12, R162). -/
def State.charged (pre cur : State) (us : List Nat) : State :=
  if conflict us.dedup = 0 then cur
  else (cur.holdBanks pre.cur.who us.dedup).modStrand pre.cur.who (fun x => { x with skip := conflict us.dedup - 1 })

/-- A bundle of one half meets nothing that keeps it from committing: no trap, no park, no bank taken (R19). -/
def Half.Passes (h : Half) (s : State) : Prop :=
  hasRepeat h.bumps = false ∧ h.step1 s s.cur.who = none ∧ h.emptySource [] s s.cur.who = none ∧
    h.sourceWait s s.cur.who = none ∧ h.own s s.cur.who = none ∧
    (h.idle s s.cur.who = false → s.BanksOpen (h.units s s.cur.who) ∧ h.waitAt s (s.advance s.cur.who [h]) s.cur.who = none)

/-- Device memory is in canonical form. -/
def State.MemOk (s : State) : Prop := Memory.wf s.hbm = true

/-- The machine goes on. -/
def Goes (o : Host.Outcome State Fault Refusal) : Prop := ∃ t, o = .next t

end Sys2Proof.Machine
end

