-- ==== Sys2Proof/Certificates/Slice0/Obligations.lean ====
section
/-!
DEFINITION. What is claimed of the model: tables that say of each instruction, in the words of the spec's rules, what its
bundle does when nothing keeps it back, and the statements over them.
-/
namespace Sys2Proof.Claims
open Sys2Proof.Machine

/-! ### The form of a table -/

/-- What a bundle of one instruction does: its mask register, what it reads, what it writes, what else has to hold of the
state, and the state it leaves. -/
structure Act where
  /-- The vector class, whose mask leaves single lanes on. -/
  vec : Bool := false
  mask : Nat := 0
  srcs : List Src := []
  dests : List Loc := []
  /-- It waits behind an acquire of its strand that is not performed (R321). -/
  memory : Bool := false
  /-- The 64-byte units of scratchpad that it accesses (R12). -/
  units : State → List Nat := fun _ => []
  /-- The bytes of scratchpad that it reads and writes. -/
  accs : State → List Acc := fun _ => []
  /-- Bytes that it reads or writes, or whose tags it does, unseen by watchpoints (R167, R260). -/
  touch : State → List Acc := fun _ => []
  ready : State → Prop := fun _ => True
  next : State → State

/-- The mask leaves the instruction something to do (R64). -/
def Act.On (r : Act) (s : State) : Prop := if r.vec then s.LanesOn r.mask else s.MaskOn r.mask

/-- Nothing stands in the way of an act's accesses: no bank is taken, nothing of the strand under way touches the same bytes or is
an acquire, and no watchpoint looks (R163, R260, R310, R321, R395). -/
def Act.Clear (r : Act) (s : State) : Prop :=
  (r.memory = true → s.acquiring s.cur.who = false ∧
      s.ownPending s.cur.who ((if r.units s = [] then [] else r.accs s) ++ r.touch s) = false) ∧
    s.pathHold s.cur.who (r.accs s ++ r.touch s) = none ∧ s.BanksOpen (r.units s) ∧ s.Unwatched (r.accs s)

/-- The mask is on, the operands are ready, nothing stands in the way, and the act's own conditions hold. -/
def Act.Due (r : Act) (s : State) : Prop :=
  r.On s ∧ s.Readable r.srcs ∧ s.Writable r.dests ∧ r.Clear s ∧ r.ready s

/-- Every well-formed instruction of a table, alone in its bundle, completes with the state of its rule once the bundle's changes of
stream mode have settled and its accesses are paid for. -/
def Completes (table : Instr → Option Act) : Prop :=
  ∀ (i : Instr) (r : Act) (s : State), table i = some r → i.wf = true → s.Alone → r.Due s →
    exec i s = .next (s.charged ((r.next s).settleStreams s.cur.who) (r.units s))

/-- The bundle comes to its own traps: the mask is on, the operands can be read, what it names is held, and it pushes to no system
queue at user level (R19, R39, R64, R67). -/
def Act.Examined (r : Act) (s : State) : Prop :=
  r.On s ∧ s.Readable r.srcs ∧
    ∀ d ∈ r.dests, (s.strand s.cur.who).lacks d = false ∧ s.dstPrivileged s.cur.who d = false ∧ (d.isM = true → s.locBad s.cur.who d = false)

/-- Every instruction of a table raises the cause that a table of causes gives for it, and nothing of its bundle takes effect (R19). -/
def Raises (table : Instr → Option Act) (cause : Instr → State → Option Cause) : Prop :=
  ∀ (i : Instr) (r : Act) (s : State) (c : Cause), table i = some r → i.wf = true → s.Lone → r.Examined s → cause i s = some c →
    exec i s = .next (s.takeTrap s.cur.who c s.cur.ip)

/-- The strand parks: a new park of length 0, or the old one eight cycles longer (R18). -/
def parked (s : State) (kind file index : Nat) : State :=
  s.modStrand s.cur.who (fun x =>
    { x with park := some { kind := kind, file := file, index := index, cycles := match x.park with | none => 0 | some p => p.cycles + 8 } })

/-- Every instruction of a table that a table of waits keeps waiting parks with the kind, file and index given there, in the state that
its attempt leaves behind (R18, R19, R106). -/
def Parks (table : Instr → Option Act) (cause : Instr → State → Option Cause)
    (wait : Instr → State → State → Nat → Nat → Nat → Prop) : Prop :=
  ∀ (i : Instr) (r : Act) (s u : State) (kind file index : Nat), table i = some r → i.wf = true → s.Alone → r.Examined s →
    s.Writable r.dests → r.Clear s → (s.strand s.cur.who).waitLimit = 0 → cause i s = none → wait i s u kind file index →
    exec i s = .next (parked u kind file index)

/-- The pointers of a list of operands that are post-incremented. -/
def posted (l : List Loc) : List Nat := l.filterMap (fun x => match x with | .m i true => some i | _ => none)

/-- PRIVILEGED and ILLEGAL_OPCODE with the instruction's word (R68). -/
def ofWord (code : TrapCode) (s : State) (vec : Bool := false) : Cause := { code := code, info := if vec then s.cur.vWord else s.cur.sWord }

/-! ### Scalar arithmetic (R71 to R83) -/

/-- The width of an operation with a .w bit. -/
def width (w : Bool) : Nat := if w then 32 else 64

/-- The low n bits of a word as an unsigned number. -/
def uval (w : Bool) (x : Word) : Nat := x.toNat % 2 ^ width w

/-- The low n bits of a word as a signed number. -/
def sval (w : Bool) (x : Word) : Int := if uval w x < 2 ^ (width w - 1) then uval w x else (uval w x : Int) - 2 ^ width w

/-- A result modulo 2^n, sign-extended to 64 bits (R71). -/
def narrowed (w : Bool) (r : Int) : Word := if w then (BitVec.ofInt 32 r).signExtend 64 else BitVec.ofInt 64 r

/-- A shift or rotate by c places, which are fewer than n (R72). -/
def shifted (op : AluOp) (w : Bool) (x : Word) (c : Nat) : Word :=
  narrowed w (match op with
    | .shl => (uval w x * 2 ^ c : Nat)
    | .shr => (uval w x / 2 ^ c : Nat)
    | .sar => sval w x / 2 ^ c
    | _ => (uval w x * 2 ^ c + uval w x / 2 ^ (width w - c) : Nat))

/-- The two-source operations (R72). -/
def two (op : AluOp) (w : Bool) (x y : Word) : Word :=
  match op with
  | .add => narrowed w (sval w x + sval w y)
  | .sub => narrowed w (sval w x - sval w y)
  | .mul => narrowed w (sval w x * sval w y)
  | .and => narrowed w (uval w x &&& uval w y : Nat)
  | .or => narrowed w (uval w x ||| uval w y : Nat)
  | .xor => narrowed w (uval w x ^^^ uval w y : Nat)
  | .andn => narrowed w (uval w x - (uval w x &&& uval w y) : Nat)
  | .min => narrowed w (min (sval w x) (sval w y))
  | .max => narrowed w (max (sval w x) (sval w y))
  | .minu => narrowed w (min (uval w x) (uval w y) : Nat)
  | .maxu => narrowed w (max (uval w x) (uval w y) : Nat)
  | op => shifted op w x (uval w y % width w)

/-- The high half of the 128-bit product: sub 0 signed by signed, 1 unsigned, 2 signed by unsigned (R73). -/
def high (sub : Nat) (x y : Word) : Word :=
  BitVec.ofInt 64 ((if sub = 1 then (uval false x : Int) else sval false x) *
    (if sub = 0 then sval false y else (uval false y : Int)) / 2 ^ 64)

/-- Quotient and remainder (R74). -/
def quotient (rem unsigned w : Bool) (x y : Word) : Word :=
  if uval w y = 0 then (if rem then narrowed w (uval w x) else narrowed w (-1))
  else if unsigned then narrowed w (if rem then uval w x % uval w y else uval w x / uval w y : Nat)
  else narrowed w (if rem then (sval w x).tmod (sval w y) else (sval w x).tdiv (sval w y))

/-- The one-source operations over the low n bits (R75). -/
def one (op : BitOp) (w : Bool) (x : Word) : Word :=
  let n := width w
  let bits := (List.range n).map (fun i => decide (uval w x / 2 ^ i % 2 = 1))
  narrowed w (match op with
    | .clz => (bits.reverse.takeWhile (fun b => !b)).length
    | .ctz => (bits.takeWhile (fun b => !b)).length
    | .popc => bits.count true
    | .bswap => ((List.range (n / 8)).map (fun i => uval w x / 256 ^ i % 256 * 256 ^ (n / 8 - 1 - i))).sum)

/-- The conditions of R79 at width n. -/
def holds (code : Nat) (w : Bool) (x y : Word) : Bool :=
  match code with
  | 0 => decide (sval w x = sval w y)
  | 1 => decide (sval w x ≠ sval w y)
  | 2 => decide (sval w x < sval w y)
  | 3 => decide (sval w y ≤ sval w x)
  | 4 => decide (uval w x < uval w y)
  | 5 => decide (uval w y ≤ uval w x)
  | _ => false

/-- The result of a comparison for its destination (R80). -/
def truth (d : Loc) (b : Bool) : Word := if b then (match d with | .k _ => 0xFFFFFFFF | _ => 1) else 0

/-- The w bits of x from bit lo on (R82). -/
def bitsOf (x : Word) (lo w : Nat) : Nat := x.toNat / 2 ^ lo % 2 ^ w

/-- EXT: zero-extended, or sign-extended from bit w - 1 (R82). -/
def extracted (signed : Bool) (x : Word) (lo w : Nat) : Word :=
  BitVec.ofInt 64 (if signed ∧ 2 ^ (w - 1) ≤ bitsOf x lo w then (bitsOf x lo w : Int) - 2 ^ w else bitsOf x lo w)

/-- INS: the field of d replaced by the low bits of a, the other bits kept (R82). -/
def inserted (d a : Word) (lo w : Nat) : Word :=
  BitVec.ofNat 64 (d.toNat - bitsOf d lo w * 2 ^ lo + a.toNat % 2 ^ w * 2 ^ lo)

/-- A SHORT scalar instruction: it takes its sources in order, pops included, and writes or pushes the value that it
computes from them (R19, R69, R70). -/
def short (mask : Nat) (srcs : List Src) (d : Loc) (value : State → List Word → Word) : Act :=
  { mask := mask, srcs := srcs, dests := [d], ready := fun s => s.Moves srcs d 1
    next := fun s =>
      let (xs, t) := takeScalars s s.past s.cur.who srcs
      t.putScalar s.cur.who d (value s xs) }

/-- The first and the second source. -/
def a1 (xs : List Word) : Word := xs.getD 0 0
def b1 (xs : List Word) : Word := xs.getD 1 0

/-- A two-source instruction with its .w bit in sub [0] (R72). -/
def binary (op : AluOp) (t : LTail) : Act :=
  short t.k.toNat [t.srcA, t.srcB] t.dst (fun _ xs => two op (t.bit 0) (a1 xs) (b1 xs))

/-- A one-source instruction with its .w bit in sub [0] (R75). -/
def unary (op : BitOp) (t : LTail) : Act :=
  short t.k.toNat [t.srcA] t.dst (fun _ xs => one op (t.bit 0) (a1 xs))

/-- A comparison: sub [2:0] the condition, sub [3] .w (R80). -/
def comparison (t : LTail) : Act :=
  short t.k.toNat [t.srcA, t.srcB] t.dst (fun _ xs =>
    truth t.dst (holds (fieldNat t.sub 0 3) (t.bit 3) (a1 xs) (b1 xs)))

/-- An instruction of the W form that writes the g register d (R59, R78). -/
def immediate (t : WTail) (f : Word → Word) : Act :=
  short t.k.toNat [t.srcA] (.g t.d.toNat) (fun _ xs => f (a1 xs))

/-- The operation that sub [1:0] of LOGI names (R78). -/
def logic (n : Nat) : AluOp := if n = 0 then .and else if n = 1 then .or else if n = 2 then .xor else .andn

/-- The operation that sub [1:0] of SHI names (R78). -/
def shifting (n : Nat) : AluOp := if n = 0 then .shl else if n = 1 then .shr else if n = 2 then .sar else .rot

/-- A pointer register as its image (R40). -/
def imageOf (p : Ptr) : Word := BitVec.ofNat 64 (p.addr.toNat + p.stride.toNat * 2 ^ 32)

/-- The SHORT instructions of the scalar family that write one register or push one item (R72, R73, R75 to R84). -/
def scalarRule : Instr → Option Act
  | .mov t => some (short t.toL.k.toNat [t.toL.srcA] t.toL.dst (fun _ xs => a1 xs))
  | .movL t => some (short t.k.toNat [t.srcA] t.dst (fun _ xs => a1 xs))
  | .movi t => some (short 0 [] (.g t.d.toNat) (fun _ _ => t.imm.signExtend 64))
  | .add t => some (binary .add t.toL)
  | .addL t => some (binary .add t)
  | .sub t => some (binary .sub t.toL)
  | .subL t => some (binary .sub t)
  | .mul t => some (binary .mul t.toL)
  | .mulL t => some (binary .mul t)
  | .and t => some (binary .and t.toL)
  | .andL t => some (binary .and t)
  | .or t => some (binary .or t.toL)
  | .orL t => some (binary .or t)
  | .xor t => some (binary .xor t.toL)
  | .xorL t => some (binary .xor t)
  | .andn t => some (binary .andn t.toL)
  | .andnL t => some (binary .andn t)
  | .shl t => some (binary .shl t.toL)
  | .shlL t => some (binary .shl t)
  | .shr t => some (binary .shr t.toL)
  | .shrL t => some (binary .shr t)
  | .sar t => some (binary .sar t.toL)
  | .sarL t => some (binary .sar t)
  | .rot t => some (binary .rot t.toL)
  | .rotL t => some (binary .rot t)
  | .min t => some (binary .min t.toL)
  | .minL t => some (binary .min t)
  | .max t => some (binary .max t.toL)
  | .maxL t => some (binary .max t)
  | .minu t => some (binary .minu t.toL)
  | .minuL t => some (binary .minu t)
  | .maxu t => some (binary .maxu t.toL)
  | .maxuL t => some (binary .maxu t)
  | .mulh t => some (short t.toL.k.toNat [t.toL.srcA, t.toL.srcB] t.toL.dst (fun _ xs => high t.toL.sub.toNat (a1 xs) (b1 xs)))
  | .mulhL t => some (short t.k.toNat [t.srcA, t.srcB] t.dst (fun _ xs => high t.sub.toNat (a1 xs) (b1 xs)))
  | .clz t => some (unary .clz t.toL)
  | .clzL t => some (unary .clz t)
  | .ctz t => some (unary .ctz t.toL)
  | .ctzL t => some (unary .ctz t)
  | .popc t => some (unary .popc t.toL)
  | .popcL t => some (unary .popc t)
  | .bswap t => some (unary .bswap t.toL)
  | .bswapL t => some (unary .bswap t)
  | .cmp t => some (comparison t.toL)
  | .cmpL t => some (comparison t)
  | .addi t => some (immediate t (fun x => two .add (t.bit 0) x t.simm))
  | .logi t => some (immediate t (fun x => two (logic (fieldNat t.sub 0 2)) (t.bit 2) x t.simm))
  | .shi t => some (immediate t (fun x => shifted (shifting (fieldNat t.sub 0 2)) (t.bit 2) x (fieldNat t.imm 0 6)))
  | .cmpi t => some (immediate t (fun x => truth (.g t.d.toNat) (holds (fieldNat t.sub 0 3) (t.bit 3) x t.simm)))
  | .sel t => some (short 0 [t.srcA, t.srcB, { loc := .k t.k.toNat }] t.dst (fun _ xs =>
      if (xs.getD 2 0).getLsbD 0 then a1 xs else b1 xs))
  | .ext t => some (immediate t (fun x => extracted (t.bit 0) x (fieldNat t.imm 0 6) (fieldNat t.imm 6 6 + 1)))
  | .ins t => some (short t.k.toNat [t.srcA, { loc := .g t.d.toNat, isB := true }] (.g t.d.toNat) (fun _ xs =>
      inserted (b1 xs) (a1 xs) (fieldNat t.imm 0 6) (fieldNat t.imm 6 6 + 1)))
  | .lea (.l t) => some (short t.k.toNat [t.srcA, t.srcB] t.dst (fun _ xs =>
      BitVec.ofNat 64 ((a1 xs).toNat + (b1 xs).toNat * 2 ^ fieldNat t.sub 0 3)))
  | .lea (.w t) => some (immediate t (fun x => BitVec.ofInt 64 (x.toInt + t.imm.toInt * 2 ^ fieldNat t.sub 0 3)))
  | .pget t => some (short t.k.toNat [t.srcA] t.dst (fun s _ => imageOf ((s.strand s.cur.who).readP (t.a.toNat - 8))))
  | .srd t => some (short t.k.toNat [] (.g t.d.toNat) (fun s _ => s.sysRead s.cur.who (fieldNat t.imm 0 12)))
  | _ => none

/-- A LONG scalar instruction: it takes its sources at issue, its destination becomes PENDING, and the value arrives between lo
and hi cycles later (R14, R43, R74). -/
def owed (mask : Nat) (srcs : List Src) (d : Loc) (lo hi : Nat) (value : List Word → Word) : Act :=
  { mask := mask, srcs := srcs, dests := [d], ready := fun s => s.Moves srcs .none 1
    next := fun s =>
      let (xs, t) := takeScalars s s.past s.cur.who srcs
      t.sendLong s.cur.who lo (some hi) (.long [.s (value xs)]) (d.ref s.cur.who).toList }

/-- DIV and REM: sub 0 signed, 1 .u, 2 .w, 3 .uw (R74). -/
def division (rem : Bool) (t : LTail) : Act :=
  owed t.k.toNat [t.srcA, t.srcB] t.dst 12 40 (fun xs => quotient rem (t.bit 0) (t.bit 1) (a1 xs) (b1 xs))

/-- The LONG instructions of the scalar family (R74). -/
def divisionRule : Instr → Option Act
  | .div t => some (division false t.toL)
  | .divL t => some (division false t)
  | .rem t => some (division true t.toL)
  | .remL t => some (division true t)
  | _ => none

/-! ### Registers that are set, emptied or moved (R43, R52, R76, R84, R93) -/

/-- The strand has gone on and one of its fields is changed. -/
def onStrand (s : State) (f : Strand → Strand) : State := s.past.modStrand s.cur.who f

/-- MOV.E: the register is EMPTY with its value unchanged; g0 and k0 stay as they are (R37, R76). -/
def emptied (t : LTail) : Act :=
  { mask := t.k.toNat, dests := [t.dst]
    next := fun s => match t.dst.ref s.cur.who with | none => s.past | some r => s.past.markReg r .empty }

/-- A pointer register gets an address and a stride (R40, R84). -/
def pointed (mask : BitVec 3) (i : Nat) (srcs : List Src) (p : State → Ptr) : Act :=
  { mask := mask.toNat, srcs := srcs, dests := [.p i], next := fun s => onStrand s (fun x => x.writeP i (p s)) }

/-- The pointer of the strand that issues. -/
def myPtr (s : State) (i : Nat) : Ptr := (s.strand s.cur.who).readP i

/-- A pointer register without parity error gets what is computed from it (R49, R84). -/
def repointed (t : WTail) (p : State → Ptr) : Act :=
  { pointed t.k t.d.toNat [] p with ready := fun s => (myPtr s t.d.toNat).bad = false }

/-- SWR: a value of a goes to a system register (R52, R93). -/
def sysWritten (t : WTail) (ready : State → Prop) (next : State → Word → State) : Act :=
  { mask := t.k.toNat, srcs := [t.srcA], ready := ready
    next := fun s => next s.past (s.scalar s.cur.who t.srcA.loc) }

/-- The number of the system register of SWR. -/
def sysNumber (t : WTail) : Nat := t.imm.toNat % 2 ^ 12

/-- A register of the crew of the strand that issues is written in this cycle; without a crew nothing changes (R46, R51). -/
def crewWritten (s : State) (f : Crew → Crew) : State :=
  match FMap.find (s.tile s.cur.who.tile).crews (s.strand s.cur.who).crewId.toNat with
  | none => s
  | some c => s.modTile s.cur.who.tile (fun t => { t with crews := FMap.set t.crews (s.strand s.cur.who).crewId.toNat (f c) })

/-- What becomes of the system registers that have no behaviour of their own (R50, R93, R395). -/
def plainWritten (s : State) (n : Nat) (x : Word) : State :=
  if n = 0x018 then s.modStrand s.cur.who (fun y => { y with trapCause := x.setWidth 8 })
  else if n = 0x019 then s.modStrand s.cur.who (fun y => { y with trapPc := x })
  else if n = 0x01A then s.modStrand s.cur.who (fun y => { y with trapInfo := x })
  else if n < 0x044 then s.modTile s.cur.who.tile (fun t => { t with wpBase := FMap.put 0 t.wpBase (n - 0x040) (x &&& 0x00000007000FFFC0) })
  else s.modTile s.cur.who.tile (fun t => { t with wpMask := FMap.put 0 t.wpMask (n - 0x044) x })

/-- SWR of REPORT_Q names no queue, or one of the strand's partition; without a crew it is ignored (R51, R52). -/
def reportOpen (t : WTail) (s : State) : Prop :=
  (s.crewOf s.cur.who).isSome = true → (s.scalar s.cur.who t.srcA.loc).getLsbD 16 = true →
    ∃ q, FMap.find s.queues ((s.scalar s.cur.who t.srcA.loc).toNat % 2 ^ 16) = some q ∧ q.part = (s.tile s.cur.who.tile).part

/-- The SHORT instructions that change a register's condition, a pointer or a system register. -/
def registerRule : Instr → Option Act
  | .movE t => some (emptied t.toL)
  | .movEL t => some (emptied t)
  | .pset (.l t) => some (pointed t.k t.d.toNat [t.srcA] (fun s =>
      { addr := (s.scalar s.cur.who t.srcA.loc).setWidth 20, stride := (s.scalar s.cur.who t.srcA.loc).extractLsb' 32 16 }))
  | .pset (.w t) => some (pointed t.k t.d.toNat [] (fun _ =>
      { addr := t.imm.setWidth 20, stride := (t.imm.extractLsb' 20 12).signExtend 16 }))
  | .padd t => some (repointed t (fun s =>
      { addr := BitVec.ofInt 20 ((myPtr s t.d.toNat).addr.toNat + t.imm.toInt), stride := (myPtr s t.d.toNat).stride }))
  | .paddSt t => some (repointed t (fun s => { addr := (myPtr s t.d.toNat).addr, stride := t.imm.setWidth 16 }))
  | .swr t => some (sysWritten t (fun s => (sysNumber t ≠ 0x019) → (s.strand s.cur.who).system = true)
      (fun s x => plainWritten s (sysNumber t) x))
  | .swrRndSeed t => some (sysWritten t (fun _ => True)
      (fun s x => s.modStrand s.cur.who (fun y => { y with rndSeed := if x = 0 then 1 else x })))
  | .swrWaitLimit t => some (sysWritten t (fun _ => True)
      (fun s x => s.modStrand s.cur.who (fun y => { y with waitLimit := x.setWidth 32 })))
  | .swrTrapVec t => some (sysWritten t (fun _ => True)
      (fun s x => crewWritten s (fun c => { c with trapVec := c.trapVec.write (s.now s.cur.who.tile) x })))
  | .swrReportQ t => some (sysWritten t (reportOpen t)
      (fun s x => crewWritten s (fun c => { c with reportQ := c.reportQ.write (s.now s.cur.who.tile) (BitVec.ofNat 64 (x.toNat % 2 ^ 17)) })))
  | _ => none

/-! ### Transfers of control (R86 to R90, R95) -/

/-- A transfer, taken or not: an even target (R26, R86). -/
def transfer (mask : Nat) (srcs : List Src) (dests : List Loc) (target : State → Option Word)
    (also : State → State → State := fun _ t => t) : Act :=
  { mask := mask, srcs := srcs, dests := dests
    ready := fun s => ∀ x, target s = some x → x.getLsbD 0 = false
    next := fun s =>
      match target s with
      | none => also s s.past
      | some x => (also s s.past).modStrand s.cur.who (fun y => { y with ip := x }) }

/-- The IP of the bundle plus a sign-extended immediate, modulo 2^64 (R59, R88). -/
def away (s : State) (imm : BitVec 32) : Word := BitVec.ofInt 64 (s.cur.ip.toNat + imm.toInt)

/-- The value of a register of the strand that issues, as the bundle finds it. -/
def val (s : State) (l : Loc) : Word := s.scalar s.cur.who l

/-- g15 receives the IP of the next bundle (R87). -/
def linked (s t : State) : State := t.putG s.cur.who 15 s.cur.next

/-- BZ and BNZ: the value of a, popped if a is a queue, decides (R69, R88). -/
def zeroBranch (nz : Bool) (t : WTail) : Act :=
  { mask := t.k.toNat, srcs := [t.srcA]
    ready := fun s => s.Moves [t.srcA] .none 1 ∧
      (decide (a1 (takeScalars s s.past s.cur.who [t.srcA]).1 = 0) = nz ∨ (away s t.imm).getLsbD 0 = false)
    next := fun s =>
      let (xs, u) := takeScalars s s.past s.cur.who [t.srcA]
      if (decide (a1 xs = 0)) = nz then u else u.modStrand s.cur.who (fun y => { y with ip := away s t.imm }) }

/-- The new strand of SPAWN: zero and full registers but for g1, no blocks, the spawner's crew, level and wait limit, its own
index's seed, default q bindings, two cycles from now (R90, R91, R213). -/
def newStrand (s : State) (t : WTail) (n : Nat) : Strand :=
  let me := s.strand s.cur.who
  let old := s.strand ⟨s.cur.who.tile, n⟩
  { running := true, startAt := s.now s.cur.who.tile + 2, ip := away s t.imm
    g := FMap.put {} [] 1 { val := val s t.srcA.loc }
    q := ((s.tile s.cur.who.tile).ports.filter (fun e => decide (e.1 < 16))).map (fun e => (e.1, { port := e.1 }))
    crewId := me.crewId, system := me.system, waitLimit := me.waitLimit, rndSeed := old.rndSeed
    waking := if old.drowsy then some (s.now s.cur.who.tile + 66) else none }

/-- The instructions that transfer control or start a strand, and those that do nothing. -/
def controlRule : Instr → Option Act
  | .nop => some { next := State.past }
  | .j t => some (transfer 0 [] [] (fun _ => some (t.imm.setWidth 64)))
  | .call t => some (transfer 0 [] [.g 15] (fun _ => some (t.imm.setWidth 64)) linked)
  | .jr t => some (transfer 0 [t.toL.srcA] [] (fun s => some (val s t.toL.srcA.loc)))
  | .jrLForm t => some (transfer t.k.toNat [t.srcA] [] (fun s => some (val s t.srcA.loc)))
  | .jrLink t => some (transfer 0 [t.toL.srcA] [.g 15] (fun s => some (val s t.toL.srcA.loc)) linked)
  | .jrLinkLForm t => some (transfer t.k.toNat [t.srcA] [.g 15] (fun s => some (val s t.srcA.loc)) linked)
  | .ret => some (transfer 0 [{ loc := .g 15 }] [] (fun s => some (val s (.g 15))))
  | .br t =>
    if t.sub.toNat = 6 then some (transfer t.k.toNat [] [] (fun s => some (away s t.imm)))
    else some (transfer t.k.toNat [{ loc := .g t.d.toNat }, t.srcA] [] (fun s =>
      if holds t.sub.toNat false (val s (.g t.d.toNat)) (val s t.srcA.loc) then some (away s t.imm) else none))
  | .bz t => some (zeroBranch false t)
  | .bnz t => some (zeroBranch true t)
  | .loop t => some (transfer t.k.toNat [{ loc := .g t.d.toNat, isB := true }] [.g t.d.toNat]
      (fun s => if 1 < (val s (.g t.d.toNat)).toNat then some (away s t.imm) else none)
      (fun s u => if val s (.g t.d.toNat) = 0 then u else u.putG s.cur.who t.d.toNat (val s (.g t.d.toNat) - 1)))
  | .spawn t => some
      { mask := t.k.toNat, srcs := [t.srcA]
        ready := fun s => t.d.toNat % 8 ≠ s.cur.who.strand ∧ (s.strand ⟨s.cur.who.tile, t.d.toNat % 8⟩).running = false
        next := fun s => s.past.setStrand ⟨s.cur.who.tile, t.d.toNat % 8⟩ (newStrand s t (t.d.toNat % 8)) }
  | _ => none

/-- The target of a transfer that is taken, but for BZ and BNZ (R86 to R89). -/
def targetOf : Instr → State → Option Word
  | .j t, _ => some (t.imm.setWidth 64)
  | .call t, _ => some (t.imm.setWidth 64)
  | .jr t, s => some (val s t.toL.srcA.loc)
  | .jrLForm t, s => some (val s t.srcA.loc)
  | .jrLink t, s => some (val s t.toL.srcA.loc)
  | .jrLinkLForm t, s => some (val s t.srcA.loc)
  | .ret, s => some (val s (.g 15))
  | .br t, s =>
    if t.sub.toNat = 6 ∨ holds t.sub.toNat false (val s (.g t.d.toNat)) (val s t.srcA.loc) = true then some (away s t.imm) else none
  | .loop t, s => if 1 < (val s (.g t.d.toNat)).toNat then some (away s t.imm) else none
  | _, _ => none

/-- MISALIGNED with the target (R26, R86). -/
def oddTo (x : Word) : Cause := { code := .misaligned, info := x }

/-- The traps of control: a taken transfer to an odd target, SPAWN of the own index (R86, R90). -/
def controlCause (i : Instr) (s : State) : Option Cause :=
  match i, targetOf i s with
  | .spawn t, _ => if t.d.toNat % 8 = s.cur.who.strand then some (ofWord .illegalOpcode s) else none
  | _, some x => if x.getLsbD 0 then some (oddTo x) else none
  | _, none => none

/-- SPAWN parks while its target runs (R90). -/
def controlWait (i : Instr) (s u : State) (kind file index : Nat) : Prop :=
  match i with
  | .spawn t => (s.strand ⟨s.cur.who.tile, t.d.toNat % 8⟩).running = true ∧ u = s ∧ kind = 13 ∧ file = 0 ∧ index = 0
  | _ => False

/-! ### What stays (R14, R43) -/

/-- HBM, weight stores and scratchpads, read byte by byte, and the tags of scratchpad words. -/
def SameMemory (s t : State) : Prop :=
  (∀ a, FMap.get 0 t.hbm a = FMap.get 0 s.hbm a) ∧ (∀ d a, FMap.get 0 (t.die d).ws a = FMap.get 0 (s.die d).ws a) ∧
    ∀ n a, (t.tile n).byte a = (s.tile n).byte a ∧ (t.tile n).tag a = (s.tile n).tag a

/-- Every register of every strand and every common register but l of strand w. -/
def SameRegisters (s t : State) (w : Who) (l : Loc) : Prop :=
  (∀ x, x ≠ w → t.strand x = s.strand x) ∧
    (∀ i, l ≠ .g i → (t.strand w).readG i = (s.strand w).readG i) ∧
    (∀ i, l ≠ .k i → (t.strand w).readK i = (s.strand w).readK i) ∧
    (∀ n i, (n ≠ w.tile ∨ l ≠ .c i) → FMap.get {} (t.tile n).c i = FMap.get {} (s.tile n).c i)

/-- Only register l of strand w differs; nothing outside its tile does, and in its tile nothing but registers. -/
def OnlyRegister (s t : State) (w : Who) (l : Loc) : Prop :=
  { t with tiles := s.tiles } = s ∧ (∀ n, n ≠ w.tile → t.tile n = s.tile n) ∧
    { t.tile w.tile with strands := [], c := [] } = { s.tile w.tile with strands := [], c := [] } ∧
    { t.strand w with g := [], k := [] } = { s.strand w with g := [], k := [] } ∧ SameRegisters s t w l ∧ SameMemory s t

/-- Only register l of strand w, the ports that its q operands name, what is in flight, what the strand has sent to other dies, and the
ring of trace records (pages 14 and 15) differ. -/
def OnlyQueues (s t : State) (w : Who) (l : Loc) (operands : List Loc) : Prop :=
  { t with tiles := s.tiles, flights := s.flights, nextId := s.nextId } = s ∧ (∀ n, n ≠ w.tile → t.tile n = s.tile n) ∧
    { t.tile w.tile with strands := [], c := [], ports := [], scratch := [], traceNext := 0, traceLen := 0 } =
      { s.tile w.tile with strands := [], c := [], ports := [], scratch := [], traceNext := 0, traceLen := 0 } ∧
    (∀ a, (a < 57344 ∨ 65536 ≤ a) → (t.tile w.tile).byte a = (s.tile w.tile).byte a) ∧
    (∀ p, (∀ i, .q i ∈ operands → (s.qbind w i).map (·.port) ≠ some p) → t.port w.tile p = s.port w.tile p) ∧
    { t.strand w with g := [], k := [], circuits := [] } = { s.strand w with g := [], k := [], circuits := [] } ∧ SameRegisters s t w l

/-- The operands of a rule are registers. -/
def Act.plain (r : Act) : Prop := (∀ x ∈ r.srcs, x.loc.isQ = false) ∧ ∀ l ∈ r.dests, l.isQ = false

/-- A rule's operands. -/
def Act.operands (r : Act) : List Loc := r.srcs.map (·.loc) ++ r.dests

/-! ### Local memory (R158, R161, R165 to R168, R177, R178) -/

/-- The local address of an access: the base, with the offset of the W form, modulo 2^20 (R158, R165). -/
def localAt (t : LWTail) (s : State) : Nat := ((val s (baseOf t).loc).toNat + (offOf t).toNat) % 2 ^ 20

/-- n bytes at a local address may be touched: aligned, within what the strand may access, no word in error where the access needs
its old value (R161, R408). -/
def touchable (s : State) (x n : Nat) (old : Bool) : Prop :=
  x % n = 0 ∧ s.localDenied s.cur.who x n = none ∧ (old = true → (s.tile s.cur.who.tile).poisoned (s.phys s.cur.who x) n = false)

/-- The pointer of [pN+] takes its stride (R40, R165). -/
def stepped (t : LWTail) (s u : State) : State :=
  match postOf t with
  | [.m n _] => u.modStrand s.cur.who (fun x => x.writeP n (myPtr s n).bump)
  | _ => u

/-- An access of n bytes at the local address of an operand. -/
def localAcc (t : LWTail) (n : Nat) (store : Bool) (s : State) : List Acc :=
  [{ pa := s.phys s.cur.who (localAt t s), n := n, load := !store, store := store }]

/-- The 64-byte unit of that access. -/
def localUnitOf (t : LWTail) (s : State) : List Nat := [s.phys s.cur.who (localAt t s) / 64]

/-- An instruction that reads n bytes of scratchpad into a register or a queue (R168). -/
def loads (t : LWTail) (n : Nat) (ready : State → Prop) (value : Word → Word) (also : State → State → State) : Act :=
  { mask := (maskOf t).toNat, srcs := [baseOf t], dests := dstOf t :: postOf t, memory := true
    units := localUnitOf t, accs := localAcc t n false
    ready := fun s => touchable s (localAt t s) n true ∧ s.Moves [baseOf t] (dstOf t) 1 ∧ ready s
    next := fun s => stepped t s (also s (s.past.putScalar s.cur.who (dstOf t)
      (value (BitVec.ofNat 64 (s.readLocal s.cur.who (localAt t s) n))))) }

/-- An instruction that writes n bytes of scratchpad from its data operand (R168). -/
def stores (t : LWTail) (n : Nat) (ready : State → Prop) (also : State → State → State) : Act :=
  { mask := (maskOf t).toNat, srcs := [baseOf t, dataOf t], dests := postOf t, memory := true
    units := localUnitOf t, accs := localAcc t n true
    ready := fun s => touchable s (localAt t s) n (decide (n < 8)) ∧ s.Moves [dataOf t] .none 1 ∧ ready s
    next := fun s =>
      let (xs, u) := takeScalars s s.past s.cur.who [dataOf t]
      stepped t s (also s (storeLocal s u s.cur.who (localAt t s) n (a1 xs).toNat)) }

/-- The tag of the word at the local address becomes FULL or EMPTY (R165 to R167). -/
def tagged (t : LWTail) (full : Bool) (s u : State) : State :=
  u.modTile s.cur.who.tile (fun y => y.setTag (s.phys s.cur.who (localAt t s)) full)

/-- The tag of the word at the local address is FULL. -/
def tagFull (t : LWTail) (s : State) : Bool := (s.tile s.cur.who.tile).tag (s.phys s.cur.who (localAt t s))

/-- TAG on a local word (R167). -/
def tagAct (t : LWTail) (n : Nat) (dests : List Loc) (reaches : Bool) (f : State → State → State) : Act :=
  { mask := (maskOf t).toNat, srcs := [baseOf t], dests := dests ++ postOf t, memory := reaches
    units := if reaches then localUnitOf t else fun _ => []
    touch := if reaches then fun s => localAcc t 8 dests.isEmpty s else fun _ => []
    ready := fun s => touchable s (localAt t s) n false ∧ s.Moves [baseOf t] (dests.headD .none) 1
    next := fun s => stepped t s (f s s.past) }

/-- A release at DIE scope: what the strand stored before to other dies is performed for the agents of its own (R308, R314, R321). -/
def shows (s u : State) (scope : Nat) : State := u.showDie s.cur.who scope s.nextId

/-- An instruction that releases at a scope. -/
def releases (scope : Nat) (r : Act) : Act := { r with next := fun s => shows s (r.next s) scope }

/-- Local loads and stores, tagged words, and the mirror pair. -/
def localRule : Instr → Option Act
  | .ld t => some (loads t (sizeOf4 t) (fun _ => True) (fun x => extracted (!subBit 2 t) x 0 (8 * sizeOf4 t)) (fun _ u => u))
  | .st t => some (stores t (sizeOf4 t) (fun _ => True) (fun _ u => u))
  | .ldf t => some (loads t 8 (fun s => tagFull t s = true) (fun x => x) (fun s u => if subBit 0 t then u else tagged t false s u))
  | .ste t => some (releases (scopeOf t)
      (stores t 8 (fun s => tagFull t s = false ∧ s.releaseWait s.cur.who (scopeOf t) = none) (tagged t true)))
  | .stf t => some (releases (scopeOf t) (stores t 8 (fun s => s.releaseWait s.cur.who (scopeOf t) = none) (tagged t true)))
  | .tagQ t =>
    if tagRemote t then none
    else some (tagAct t 8 [dstOf t] true (fun s u => u.putScalar s.cur.who (dstOf t) (if tagFull t s then 1 else 0)))
  | .tagE t => if tagRemote t then none else some (tagAct t 8 [] true (tagged t false))
  | .tagF t => if tagRemote t then none else some (tagAct t 8 [] true (tagged t true))
  | .tagWa t => some (tagAct t 1 [dstOf t] false (fun s u => u.putScalar s.cur.who (dstOf t)
      (BitVec.ofNat 64 (2 ^ 56 + s.cur.who.tile * 2 ^ 20 +
        (if 0x60000 ≤ localAt t s ∧ localAt t s < 0x62000 then localAt t s else s.phys s.cur.who (localAt t s))))))
  | .mflip => some
      { ready := fun s => s.mirrorStores s.cur.who = false
        next := fun s => s.past.modTile s.cur.who.tile (fun t =>
          { t with mirror := !t.mirror, bankQ := t.bankQ.map s.past.flipRequest }) }
  | _ => none

/-! ### Global and remote access (R94, R166, R167, R169 to R176) -/

/-- The virtual address of a global access (R169). -/
def globalAt (t : LWTail) (s : State) : Nat := ((val s (baseOf t).loc).toNat + (offOf t).toNat) % 2 ^ 64

/-- The virtual address has passed the checks of R170 and R172, and reaches a target. -/
def reachesTarget (t : LWTail) (n kind : Nat) (s : State) (g : Target) : Prop :=
  s.checkGlobal s.cur.who (globalAt t s) n kind = .ok g

/-- The bytes of the own scratchpad that an access through the own tile's window touches. -/
def windowAcc (t : LWTail) (n kind : Nat) (s : State) : List Acc :=
  match s.checkGlobal s.cur.who (globalAt t s) n kind with
  | .ok (.tile y off) =>
    if y = s.cur.who.tile ∧ kind ≠ 3 then
      [{ pa := (s.tile y).winPhys off, n := n, load := decide (kind ≠ 1), store := decide (kind ≠ 0) }]
    else []
  | _ => []

/-- The word of the own scratchpad whose tag an operation through the own tile's window touches (R167, R260). -/
def windowTag (t : LWTail) (n kind : Nat) (s : State) : List Acc :=
  match s.checkGlobal s.cur.who (globalAt t s) n kind with
  | .ok (.tile y off) =>
    if y = s.cur.who.tile ∧ kind = 3 then [{ pa := (s.tile y).winPhys off, n := n, load := true, store := true, later := true }] else []
  | _ => []

/-- An access of n bytes that leaves the strand: kind 0 load, 1 store, 2 read-modify-write, 3 tag operation. Its destination is
PENDING until the answer comes. -/
def sends (t : LWTail) (n kind : Nat) (window reads : Bool) (data : List Src) (dests : List Loc) (release : Option Nat)
    (acquire : Bool) (op : List Word → AccOp) : Act :=
  { mask := (maskOf t).toNat, srcs := baseOf t :: data, dests := dests, memory := true, accs := windowAcc t n kind, touch := windowTag t n kind
    ready := fun s => s.Moves data .none 1 ∧
      (window = true → 2 ^ 56 ≤ globalAt t s ∧ globalAt t s < 2 ^ 56 + 2 ^ 31) ∧
      ∃ g, reachesTarget t n kind s g ∧ (reads = true → s.targetBad g n = false)
    next := fun s =>
      let (xs, u) := takeScalars s s.past s.cur.who data
      match s.checkGlobal s.cur.who (globalAt t s) n kind with
      | .ok g =>
        ((u.sweepFor s.cur.who (release.getD 0)).noteCircuit s.cur.who g).sendLong s.cur.who 1 none (.access (op xs) g n release acquire)
          (dests.filterMap (fun l => l.ref s.cur.who))
      | _ => u }

/-- STE.G: a strike in the own window only on a word that is EMPTY as the bundle issues (R395). -/
def stegAct (t : LWTail) : Act :=
  let r := sends t 8 1 true false [dataOf t] [.g (dstOf t).index] (some (scopeOf t)) false (fun xs => .ste (a1 xs).toNat)
  let full := fun (s : State) (a : Acc) => (s.tile s.cur.who.tile).tag a.pa
  { r with accs := fun s => (r.accs s).filter (fun a => !full s a), touch := fun s => ((r.accs s).filter (full s)).map (fun a => { a with later := true }) }

/-- RFILL and RGET: the descriptor names a register, or the status comes back at once (R174, R176). -/
def remoteAct (t : LTail) (data : List Src) (refused : Word) (kind : List Word → RegRef → Kind) : Act :=
  { mask := t.k.toNat, srcs := t.srcA :: data, dests := [t.dst], ready := fun s => s.Moves data .none 1
    next := fun s =>
      let (xs, u) := takeScalars s s.past s.cur.who data
      match descReg (val s t.srcA.loc) with
      | none => u.sendLong s.cur.who 1 (some 8) (.long [.s refused]) (t.dst.ref s.cur.who).toList
      | some r => u.sendLong s.cur.who 1 none (kind xs r) (t.dst.ref s.cur.who).toList }

/-- Global accesses, remote tagged words, remote registers, FENCE. -/
def globalRule : Instr → Option Act
  | .ldg t => some (sends t (sizeOf4 t) 0 false true [] [.g (dstOf t).index] none (subBit 3 t) (fun _ => .load (subBit 2 t)))
  | .stg t => some (sends t (sizeOf4 t) 1 false (decide (sizeOf4 t < 8)) [dataOf t] [] (if subBit 3 t then some 4 else none) false
      (fun xs => .store (a1 xs).toNat))
  | .steG t => some (stegAct t)
  | .stfG t => some (sends t 8 1 true false [dataOf t] [] (some (scopeOf t)) false (fun xs => .stf (a1 xs).toNat))
  | .tagQ t => if tagRemote t then some (sends t 8 3 true false [] [dstOf t] none false (fun _ => .tagQ)) else none
  | .tagE t => if tagRemote t then some (sends t 8 3 true false [] [] none false (fun _ => .tagE)) else none
  | .tagF t => if tagRemote t then some (sends t 8 3 true false [] [] none false (fun _ => .tagF)) else none
  | .amo t => some (sends (.l t) (if t.bit 4 then 4 else 8) 2 false true [t.srcB] [t.dst] (if t.bit 6 then some 4 else none)
      (t.bit 5) (fun xs => .amo (fieldNat t.sub 0 4) (a1 xs).toNat))
  | .cas t => some (sends (.l t) (if fieldNat t.sub 0 2 = 0 then 8 else if fieldNat t.sub 0 2 = 1 then 4 else 2) 2 false true
      [t.srcB, { loc := t.dst, isB := true }] [t.dst] (if t.bit 3 then some 4 else none) (t.bit 2)
      (fun xs => .cas (b1 xs).toNat (a1 xs).toNat))
  | .rfill t => some (remoteAct t [t.srcB] 2 (fun xs r => .rfill (t.bit 0) r (a1 xs)))
  | .rget t => some (remoteAct t [] (if t.bit 0 then 2 else 0) (fun _ r => .rget (t.bit 0) r))
  | .fence t => some
      { ready := fun s => s.orderWait s.cur.who (t.bit 3) (t.bit 4) (t.bit 5) (t.bit 6) (fieldNat t.sub 0 3) = none
        next := fun s => if t.bit 4 then shows s s.past (fieldNat t.sub 0 3) else s.past }
  | _ => none

/-! ### Accesses that trap or wait (R161, R165, R166, R170, R172) -/

/-- TRAP_INFO of an access: the address and the kind, 0 load, 1 store, 2 read-modify-write, 3 tag operation (R161). -/
def whereAndHow (x kind : Nat) : Word := BitVec.ofNat 64 (x % 2 ^ 57 + kind * 2 ^ 57)

/-- The local accesses: address operand, size, kind. TAG.WA names any byte. -/
def localSize : Instr → Option (LWTail × Nat × Nat)
  | .ld t => some (t, sizeOf4 t, 0)
  | .st t => some (t, sizeOf4 t, 1)
  | .ldf t => some (t, 8, 0)
  | .ste t => some (t, 8, 1)
  | .stf t => some (t, 8, 1)
  | .tagQ t => some (t, 8, 3)
  | .tagE t => some (t, 8, 3)
  | .tagF t => some (t, 8, 3)
  | .tagWa t => some (t, 1, 3)
  | _ => none

/-- The trap of a local access: an address that is no multiple of its size, else its lowest byte that the strand may not access. -/
def localCause (s : State) (x n kind : Nat) : Option Cause :=
  if x % n ≠ 0 then some { code := .misaligned, info := whereAndHow x kind }
  else ((List.range n).find? (fun i => (s.localPhys s.cur.who (x + i)).isNone)).map
    (fun i => { code := .accessDenied, info := whereAndHow (x + i) kind })

/-- The accesses that leave the strand: address operand, size, kind, whether they take a tile window only. -/
def globalSize : Instr → Option (LWTail × Nat × Nat × Bool)
  | .ldg t => some (t, sizeOf4 t, 0, false)
  | .stg t => some (t, sizeOf4 t, 1, false)
  | .steG t => some (t, 8, 1, true)
  | .stfG t => some (t, 8, 1, true)
  | .tagQ t => some (t, 8, 3, true)
  | .tagE t => some (t, 8, 3, true)
  | .tagF t => some (t, 8, 3, true)
  | .amo t => some (.l t, if t.bit 4 then 4 else 8, 2, false)
  | .cas t => some (.l t, if fieldNat t.sub 0 2 = 0 then 8 else if fieldNat t.sub 0 2 = 1 then 4 else 2, 2, false)
  | _ => none

/-- The rights to a tile window: an offset that the window has, and the system, or a placement of the own partition there and
the offset beyond the first pages (R172). -/
def mayReach (s : State) (x : Nat) : Bool :=
  let y := s.tile (x / 2 ^ 20 % 2048)
  decide (x % 2 ^ 20 < 0x62000) && ((s.strand s.cur.who).system ||
    (y.place.isSome && y.part == (s.tile s.cur.who.tile).part && decide (0x10000 ≤ x % 2 ^ 20)))

/-- The rights to a weight-store window: loads within it, by the system or a placement with the read right (R172). -/
def mayLoad (s : State) (x kind : Nat) : Bool :=
  decide (kind = 0) && decide (x % 2 ^ 30 < 0x30000000) && ((s.strand s.cur.who).system || (s.tile s.cur.who.tile).wsRead)

/-- The translation that the tile holds of an address. -/
def heldEntry (s : State) (x : Nat) : Option XEntry :=
  (s.tile s.cur.who.tile).tlb.find? (fun e => e.covers (s.tile s.cur.who.tile).part x)

/-- The trap of an access that leaves the strand, its checks in the order of R170: alignment, the address's form, its window or its
translation; a failed walk leaves the address of the table entry at which it ended (R405). -/
def globalCause (s : State) (x n kind : Nat) (window : Bool) : Option Cause :=
  let no : Option Cause := some { code := .accessDenied, info := whereAndHow x kind }
  let unknown : Option Cause := some { code := .unregistered, placement := true, detail := BitVec.ofNat 64 x }
  let inTiles := decide (2 ^ 56 ≤ x) && decide (x < 2 ^ 56 + 2 ^ 31)
  if x % n ≠ 0 then some { code := .misaligned, info := whereAndHow x kind }
  else if window && !inTiles then some { code := .accessDenied, info := whereAndHow x 1 }
  else if 2 ^ 57 ≤ x then unknown
  else if inTiles then (if 26 ≤ x / 2 ^ 24 % 32 then unknown else if mayReach s x then none else no)
  else if 0x0110000000000000 ≤ x ∧ x < 0x0110000000000000 + 2 ^ 32 then (if mayLoad s x kind then none else no)
  else if 2 ^ 56 ≤ x then unknown
  else
    match heldEntry s x with
    | some e => if kind ≠ 0 ∧ !bitAt e.entry 2 then no else none
    | none =>
      match (s.strand s.cur.who).xfault with
      | some (page, code) =>
        if page = x / 2 ^ 21 then some
          { code := if code = 0x17 then .pageRefused else .unregistered, placement := true, detail := BitVec.ofNat 64 x
            entry := some (s.walkEntry (s.tile s.cur.who.tile).part x) }
        else none
      | none => none

/-! ### Crews, holdings and gangs (R180 to R206) -/

/-- A claim word declares no more than the tile has, 32 pages at most, and its reserved bits are zero (R182). -/
def goodClaim (x : Word) : Prop :=
  bitsOf x 0 8 ≤ 16 ∧ bitsOf x 8 8 ≤ 12 ∧ bitsOf x 16 8 ≤ 32 ∧ bitsOf x 24 8 ≤ 16 ∧ bitsOf x 32 8 ≤ 4 ∧ bitsOf x 40 24 = 0

/-- The crew of the strand that issues. -/
def myCrew (s : State) : Option Crew := FMap.find (s.tile s.cur.who.tile).crews (s.strand s.cur.who).crewId.toNat

/-- The strand belongs to a crew (R180). -/
def inCrew (s : State) : Bool := decide ((s.strand s.cur.who).crewId ≠ 0xF)

/-- CREW (R181): 2 for a strand that belongs to a crew, 1 for a live id, else the crew exists and the strand is its member. -/
def crewAct (t : LTail) : Act :=
  { srcs := [t.srcA, t.srcB], dests := [t.dst], ready := fun s => goodClaim (val s t.srcA.loc)
    next := fun s =>
      let id := fieldNat t.sub 0 3
      if inCrew s then s.past.putScalar s.cur.who t.dst 2
      else if (FMap.find (s.tile s.cur.who.tile).crews id).isSome then s.past.putScalar s.cur.who t.dst 1
      else
        let c : Crew :=
          { claim := claimCounts (val s t.srcA.loc), joinMask := BitVec.ofNat 8 (bitsOf (val s t.srcB.loc) 0 8) }
        let u := s.past.modTile s.cur.who.tile (fun y => { y with crews := FMap.set y.crews id c })
        (u.modStrand s.cur.who (fun x => { x with crewId := BitVec.ofNat 4 id })).putScalar s.cur.who t.dst 0 }

/-- CJOIN (R183): 1 for no such crew, 2 for a strand that the join mask leaves out, 3 for a member of a crew, else the strand
joins. -/
def joinAct (t : LTail) : Act :=
  { mask := t.k.toNat, srcs := [t.srcA], dests := [t.dst]
    next := fun s =>
      let id := bitsOf (val s t.srcA.loc) 0 3
      match FMap.find (s.tile s.cur.who.tile).crews id with
      | none => s.past.putScalar s.cur.who t.dst 1
      | some c =>
        if c.joinMask.getLsbD s.cur.who.strand = false then s.past.putScalar s.cur.who t.dst 2
        else if inCrew s then s.past.putScalar s.cur.who t.dst 3
        else (s.past.modStrand s.cur.who (fun x => { x with crewId := BitVec.ofNat 4 id })).putScalar s.cur.who t.dst 0 }

/-- CJOIN.X (R183, R184): 1 without a crew, 2 in a handler, else the strand leaves, its blocks are released, and a crew without
members retires. -/
def leaveAct (t : LTail) : Act :=
  { mask := t.k.toNat, dests := [t.dst]
    ready := fun s => inCrew s = false ∨ (s.strand s.cur.who).trapCause.getLsbD 7 = true ∨
      (s.strand s.cur.who).owedIn [0, 1, 2] [0, 1, 2] = none
    next := fun s =>
      if inCrew s = false then s.past.putScalar s.cur.who t.dst 1
      else if (s.strand s.cur.who).trapCause.getLsbD 7 then s.past.putScalar s.cur.who t.dst 2
      else
        let u := (s.past.freeBlocks s.cur.who).modStrand s.cur.who (fun x => { x with crewId := 0xF })
        ((u.retireIfEmpty s.cur.who.tile (s.strand s.cur.who).crewId.toNat).wakeWaiters s.cur.who.tile).putScalar s.cur.who t.dst 0 }

/-- A request stays within the crew's claim, and within three blocks of each kind for the strand (R188). -/
def withinClaim (s : State) (c : Crew) (req : Counts) : Prop :=
  (∀ i, i < 5 → (((s.tile s.cur.who.tile).alloc (s.strand s.cur.who).crewId.toNat).at i) + req.at i ≤ c.claim.at i) ∧
    (s.strand s.cur.who).xg.length + req.xg ≤ 3 ∧ (s.strand s.cur.who).xv.length + req.xv ≤ 3

/-- The answer of the bank: 0 GRANTED, 1 SHORT, 2 UNSAFE; a request for nothing is granted (R191). -/
def bankSays (s : State) (req : Counts) : Nat :=
  if req = {} then 0 else (s.tile s.cur.who.tile).checkFor s.cur.who.strand (s.strand s.cur.who).crewId.toNat req

/-- ACQ and ACQM (R188, R189): a grant that came while the strand waited is delivered; else the bank's answer decides. A trying
form answers the status in bits [63:58]; a waiting form completes once it is granted. -/
def acquireAct (mask : BitVec 3) (srcs : List Src) (d : Loc) (trying : Bool) (good : State → Prop) (req : State → Counts) : Act :=
  { mask := mask.toNat, srcs := srcs, dests := [d]
    ready := fun s => (∃ c, myCrew s = some c ∧ ((s.strand s.cur.who).granted = none → withinClaim s c (req s))) ∧
      ((s.strand s.cur.who).granted = none → good s ∧ (∀ x ∈ (s.tile s.cur.who.tile).waiters, x.strand ≠ s.cur.who.strand) ∧
        (trying = true ∨ bankSays s (req s) = 0))
    next := fun s =>
      match (s.strand s.cur.who).granted with
      | some im => (s.past.modStrand s.cur.who (fun x => { x with granted := none })).putScalar s.cur.who d im
      | none =>
        if bankSays s (req s) = 0 then
          if req s = {} then s.past.putScalar s.cur.who d 0
          else
            let u := s.past.modTile s.cur.who.tile (fun y => { y with waiters := y.waiters.map (fun x => { x with bypass := x.bypass + 1 }) })
            (u.grantAll s.cur.who (req s)).1.putScalar s.cur.who d (u.grantAll s.cur.who (req s)).2
        else s.past.putScalar s.cur.who d (BitVec.ofNat 64 (bankSays s (req s) * 2 ^ 58)) }

/-- The word of CLAIM_EXCEEDED and CLAIM_INVALID (R190). -/
def claimWord (cls requested held maximum reason : Nat) : Word :=
  BitVec.ofNat 64 (cls + min requested 255 * 2 ^ 4 + min held 255 * 2 ^ 12 + min maximum 255 * 2 ^ 20 + reason * 2 ^ 28)

/-- CLAIM_INVALID (R190). -/
def badClaim (cls requested held maximum reason : Nat) : Cause :=
  { code := .claimInvalid, info := claimWord cls requested held maximum reason }

/-- The limit of a declaration (R182). -/
def limitOf (cls : Nat) : Nat := match cls with | 0 => 16 | 1 => 12 | 2 => 32 | 3 => 16 | _ => 4

/-- CREW: the lowest class above its limit, else reserved bits (R182, R190). -/
def declareCause (x : Word) : Option Cause :=
  match (List.range 5).find? (fun i => decide (limitOf i < bitsOf x (8 * i) 8)) with
  | some i => some (badClaim i (bitsOf x (8 * i) 8) 0 (limitOf i) (if i = 2 then 5 else 4))
  | none => if bitsOf x 40 24 = 0 then none else some (badClaim 0 0 0 0 8)

/-- The extension blocks of a class that the strand holds (R185). -/
def ownBlocks (s : State) (cls : Nat) : Nat := if cls = 0 then (s.strand s.cur.who).xg.length else (s.strand s.cur.who).xv.length

/-- CLAIM_EXCEEDED: the lowest class in which a request goes beyond the crew's claim, or beyond three blocks of the strand (R188,
R190). -/
def beyondCause (s : State) (c : Crew) (req : Counts) : Option Cause :=
  (List.range 5).findSome? (fun i =>
    let held := ((s.tile s.cur.who.tile).alloc (s.strand s.cur.who).crewId.toNat).at i
    if c.claim.at i < held + req.at i then some { code := .claimExceeded, info := claimWord i (req.at i) held (c.claim.at i) 1 }
    else if i < 2 ∧ 3 < ownBlocks s i + req.at i then
      some { code := .claimExceeded, info := claimWord i (req.at i) (ownBlocks s i) 3 2 }
    else none)

/-- ACQ and ACQM: reserved bits of ACQM's word, no crew, beyond the claim; a strand that waits already, or whose grant has come, is not
checked again (R188 to R190). -/
def acquireCause (s : State) (cls : Nat) (reserved : Bool) (req : Counts) : Option Cause :=
  match myCrew s with
  | none => if reserved then some (badClaim 0 0 0 0 8) else some (badClaim cls (req.at cls) 0 0 3)
  | some c => if s.acquiringNow s.cur.who then none else if reserved then some (badClaim 0 0 0 0 8) else beyondCause s c req

/-- The class of ACQ and REL: sub [2:0]. -/
def classOf : LWTail → Nat
  | .l t => fieldNat t.sub 0 3
  | .w t => fieldNat t.sub 0 3

/-- The operand of ACQ and REL: register a, or the immediate. -/
def countSrc : LWTail → List Src
  | .l t => [t.srcA]
  | .w _ => []

/-- Its value. -/
def countVal (t : LWTail) (s : State) : Nat :=
  match t with
  | .l t => (val s t.srcA.loc).toNat
  | .w t => t.imm.toNat

/-- n units of a class and none of the others. -/
def onlyClass (cls n : Nat) : Counts :=
  { xg := if cls = 0 then n else 0, xv := if cls = 1 then n else 0, sp := if cls = 2 then n else 0,
    os := if cls = 3 then n else 0, ac := if cls = 4 then n else 0 }

/-- The masks of a release name units that are held, no slot that is filling and no accumulator whose rule is active (R194). -/
def releasable (s : State) (m : Nat → Nat) : Prop :=
  (∀ c, c < 5 → m c < 2 ^ nameCount c ∧ ∀ j, (m c).testBit j = true → (s.unitOf s.cur.who c j).isSome = true) ∧
    (∀ j u, (m 3).testBit j = true → s.unitOf s.cur.who 3 j = some u → ((s.tile s.cur.who.tile).oslot u).state ≠ .filling) ∧
    (∀ j u, (m 4).testBit j = true → s.unitOf s.cur.who 4 j = some u → ((s.tile s.cur.who.tile).accum u).rule.active = false)

/-- REL and RELM: the units of the masks return, class by class, and the waiters are looked at (R193, R194). -/
def releaseAct (mask : BitVec 3) (srcs : List Src) (m : State → Nat → Nat) : Act :=
  { mask := mask.toNat, srcs := srcs
    ready := fun s => releasable s (m s) ∧
      (s.strand s.cur.who).owedIn (maskNames 0 (m s 0)) (maskNames 1 (m s 1)) = none
    next := fun s =>
      (((((s.past.releaseClass s.cur.who 0 (m s 0)).releaseClass s.cur.who 1 (m s 1)).releaseClass s.cur.who 2 (m s 2)).releaseClass
        s.cur.who 3 (m s 3)).releaseClass s.cur.who 4 (m s 4)).wakeWaiters s.cur.who.tile }

/-- A word from its bits. -/
def wordOf (f : Nat → Bool) : Word := BitVec.ofNat 64 (((List.range 64).map (fun i => if f i then 2 ^ i else 0)).sum)

/-- The grant image of everything that is held: blocks in bits 0 to 5, pages from 6, slots from 38, accumulators from 54 (R187,
R195). -/
def imageHeld (s : State) : Word :=
  wordOf (fun i =>
    if i < 3 then (FMap.find (s.strand s.cur.who).xg i).isSome
    else if i < 6 then (FMap.find (s.strand s.cur.who).xv (i - 3)).isSome
    else
      match myCrew s with
      | none => false
      | some c =>
        if i < 38 then (FMap.find c.window (i - 6)).isSome
        else if i < 54 then (FMap.find c.os (i - 38)).isSome
        else decide (i < 58) && (FMap.find c.ac (i - 54)).isSome)

/-- SLOT_STATE (R279). -/
def wrongState (reason index : Nat) (acc : Bool) : Cause :=
  { code := .slotState, info := BitVec.ofNat 64 (reason + index * 2 ^ 4 + if acc then 2 ^ 8 else 0) }

/-- REL and RELM: names beyond their class, names that are not held, filling slots, accumulators whose rule is active. The count
requested is that of the names (assumption 119: R190 has no other count there). -/
def releaseCause (s : State) (m : Nat → Nat) : Option Cause :=
  let no := fun (c reason : Nat) => badClaim c ((List.range 64).filter (fun j => (m c).testBit j)).length
    (((s.tile s.cur.who.tile).alloc (s.strand s.cur.who).crewId.toNat).at c)
    (match myCrew s with | none => 0 | some x => x.claim.at c) reason
  let named := fun (c : Nat) (bad : Option Nat → Bool) =>
    (List.range (nameCount c)).find? (fun j => (m c).testBit j && bad (s.unitOf s.cur.who c j))
  match (List.range 5).find? (fun c => decide (2 ^ nameCount c ≤ m c)), (List.range 5).find? (fun c => (named c Option.isNone).isSome),
      named 3 (fun o => match o with | none => false | some u => decide (((s.tile s.cur.who.tile).oslot u).state = .filling)),
      named 4 (fun o => match o with | none => false | some u => ((s.tile s.cur.who.tile).accum u).rule.active) with
  | some c, _, _, _ => some (no c 7)
  | none, some c, _, _ => some (no c 6)
  | none, none, some j, _ => some (wrongState 6 j false)
  | none, none, none, some j => some (wrongState 6 j true)
  | none, none, none, none => none

/-- The need that remains of the crew's claim, a byte for each class (R195). -/
def needLeft (s : State) : Word :=
  match myCrew s with
  | none => 0
  | some c =>
    let al := (s.tile s.cur.who.tile).alloc (s.strand s.cur.who).crewId.toNat
    BitVec.ofNat 64 ((c.claim.xg - al.xg) + (c.claim.xv - al.xv) * 2 ^ 8 + (c.claim.sp - al.sp) * 2 ^ 16 +
      (c.claim.os - al.os) * 2 ^ 24 + (c.claim.ac - al.ac) * 2 ^ 32)

/-- A fusion request that nothing is against (R198). -/
def fusable (s : State) (d : Word) : Prop :=
  bitsOf d 19 45 = 0 ∧ validTile (bitsOf d 0 11) = true ∧ colOf (bitsOf d 0 11) + bitsOf d 11 4 ≤ 15 ∧
    rowOf (bitsOf d 0 11) + bitsOf d 15 4 ≤ 25 ∧ (∀ t ∈ rectangle d, (s.tile t).place = (s.tile s.cur.who.tile).place) ∧
    s.cur.who.tile ∈ rectangle d ∧ inCrew s = true ∧ (s.strand s.cur.who).fuseClash = none ∧
    (∀ t ∈ rectangle d, t ≠ s.cur.who.tile → ∀ e, (s.strand ⟨t, s.cur.who.strand⟩).fuse = some e → e = d)

/-- GANG_SHAPE of a member: width and height less one, the own column and row, bit 16 (R51). -/
def shapeIn (d : Word) (tile : Nat) : BitVec 17 :=
  BitVec.ofNat 17 (bitsOf d 11 4 + 16 * bitsOf d 15 4 + 256 * (colOf tile - colOf (bitsOf d 0 11)) +
    4096 * (rowOf tile - rowOf (bitsOf d 0 11)) + 65536)

/-- The names of a class in a grant image (R187). -/
def imageNames (x : Word) (c : Nat) : Nat :=
  if c = 0 then bitsOf x 0 3 else if c = 1 then bitsOf x 3 3 else if c = 2 then bitsOf x 6 32 else if c = 3 then bitsOf x 38 16
  else bitsOf x 54 4

/-- GANG_MISMATCH with its reason (R107). -/
def mismatch (reason tile : Nat) : Cause := { code := .gangMismatch, info := BitVec.ofNat 64 (tile + reason * 2 ^ 60) }

/-- GFUSE of a strand that is fused in no gang: another tile's post that clashed with its own, then the checks of its descriptor
(R198). -/
def fuseCause (s : State) (d : Word) : Option Cause :=
  match (s.strand s.cur.who).fuseClash with
  | some t => some (mismatch 7 t)
  | none =>
    if bitsOf d 19 45 ≠ 0 then some (mismatch 1 0)
    else if validTile (bitsOf d 0 11) = false ∨ 15 < colOf (bitsOf d 0 11) + bitsOf d 11 4 ∨ 25 < rowOf (bitsOf d 0 11) + bitsOf d 15 4 then
      some (mismatch 2 0)
    else if (rectangle d).any (fun t => decide ((s.tile t).place ≠ (s.tile s.cur.who.tile).place)) then some (mismatch 3 0)
    else if s.cur.who.tile ∉ rectangle d then some (mismatch 4 0)
    else if inCrew s = false then some (mismatch 6 0)
    else ((rectangle d).find? (fun t => decide (t ≠ s.cur.who.tile) &&
        (match (s.strand ⟨t, s.cur.who.strand⟩).fuse with | none => false | some e => decide (e ≠ d)))).map
      (fun t => { mismatch 7 t with poster := some ⟨t, s.cur.who.strand⟩ })

/-- The traps of the crew instructions of a strand that is fused in no gang. -/
def crewCause (i : Instr) (s : State) : Option Cause :=
  match i with
  | .crew t => declareCause (val s t.srcA.loc)
  | .acq t => acquireCause s (classOf t) false (onlyClass (classOf t) (countVal t s))
  | .acqm t => acquireCause s 0 (decide (bitsOf (val s t.srcA.loc) 40 24 ≠ 0)) (claimCounts (val s t.srcA.loc))
  | .rel t => releaseCause s (fun c => if c = classOf t then countVal t s else 0)
  | .relm t => releaseCause s (imageNames (val s t.srcA.loc))
  | .gfuse t => if (s.strand s.cur.who).matched then none else fuseCause s (val s t.srcA.loc)
  | _ => none

/-- A waiting acquisition that is not granted leaves its request with the tile's waiters: park kind 6 with the class, 0 for ACQM (R106,
R188, R193). -/
def acquireWait (s u : State) (trying : Bool) (req : Counts) : Prop :=
  trying = false ∧ (s.strand s.cur.who).granted = none ∧ req ≠ {} ∧
    ((∃ x ∈ (s.tile s.cur.who.tile).waiters, x.strand = s.cur.who.strand) ∨ bankSays s req ≠ 0) ∧ u = s.enroll s.cur.who req

/-- A release waits for the results that are owed to a released block (R194). -/
def releaseOwed (s u : State) (m : Nat → Nat) (kind file index : Nat) : Prop :=
  ∃ l, (s.strand s.cur.who).owedIn (maskNames 0 (m 0)) (maskNames 1 (m 1)) = some l ∧ u = s ∧ kind = 10 ∧ file = l.file ∧ index = l.index

/-- CJOIN.X waits while a result is owed to one of the strand's extension blocks (R183). -/
def leaveWait (s u : State) (kind file index : Nat) : Prop :=
  inCrew s = true ∧ (s.strand s.cur.who).trapCause.getLsbD 7 = false ∧ (s.strand s.cur.who).owedIn [0, 1, 2] [0, 1, 2] ≠ none ∧
    u = s ∧ kind = 12 ∧ file = 0 ∧ index = 0

/-- What the crew instructions wait for (R183, R188, R189, R194, R198). -/
def crewWait (i : Instr) (s u : State) (kind file index : Nat) : Prop :=
  match i with
  | .acq t => acquireWait s u (subBit 3 t) (onlyClass (classOf t) (countVal t s)) ∧ kind = 6 ∧ file = 0 ∧ index = classOf t
  | .acqm t => acquireWait s u (t.bit 0) (claimCounts (val s t.srcA.loc)) ∧ kind = 6 ∧ file = 0 ∧ index = 0
  | .rel t => releaseOwed s u (fun c => if c = classOf t then countVal t s else 0) kind file index
  | .relm t => releaseOwed s u (imageNames (val s t.srcA.loc)) kind file index
  | .cjoinX _ => leaveWait s u kind file index
  | .cjoinXL _ => leaveWait s u kind file index
  | .stop => (s.strand s.cur.who).owesNothing = false ∧ u = s ∧ kind = 12 ∧ file = 0 ∧ index = 0
  | .gfuse t => (s.strand s.cur.who).matched = false ∧ (bitsOf (val s t.srcA.loc) 11 4 ≠ 0 ∨ bitsOf (val s t.srcA.loc) 15 4 ≠ 0) ∧
      u = s.postFuse s.cur.who (val s t.srcA.loc) ∧ kind = 14 ∧ file = 0 ∧ index = 0
  | _ => False

/-- Crews, acquisition and release, and gangs of one. -/
def crewRule : Instr → Option Act
  | .crew t => some (crewAct t)
  | .cjoin t => some (joinAct t.toL)
  | .cjoinL t => some (joinAct t)
  | .cjoinX t => some (leaveAct t.toL)
  | .cjoinXL t => some (leaveAct t)
  | .acq t => some (acquireAct (maskOf t) (countSrc t) (dstOf t) (subBit 3 t) (fun _ => True)
      (fun s => onlyClass (classOf t) (countVal t s)))
  | .acqm t => some (acquireAct t.k [t.srcA] t.dst (t.bit 0) (fun s => bitsOf (val s t.srcA.loc) 40 24 = 0)
      (fun s => claimCounts (val s t.srcA.loc)))
  | .rel t => some (releaseAct (maskOf t) (countSrc t) (fun s c => if c = classOf t then countVal t s else 0))
  | .relm t => some (releaseAct t.k [t.srcA] (fun s c => imageNames (val s t.srcA.loc) c))
  | .hold t => some
      { dests := [t.dst], ready := fun s => s.Moves [] t.dst 1
        next := fun s => s.past.putScalar s.cur.who t.dst (if t.bit 0 then needLeft s else imageHeld s) }
  | .gfuse t => some
      { srcs := [t.srcA]
        ready := fun s => (s.strand s.cur.who).matched = true ∨
          (fusable s (val s t.srcA.loc) ∧ bitsOf (val s t.srcA.loc) 11 4 = 0 ∧ bitsOf (val s t.srcA.loc) 15 4 = 0)
        next := fun s => s.past.modStrand s.cur.who (fun x =>
          { x with gangShape := shapeIn (val s t.srcA.loc) s.cur.who.tile, fuse := none, matched := false }) }
  | .stop => some
      { ready := fun s => (s.strand s.cur.who).owesNothing = true, next := fun s => s.past.stopStrand s.cur.who }
  | .vnop => some { next := State.past }
  | _ => none

/-- The combining operation of GRED (R202). -/
def combine (op : Nat) (x y : Word) : Word :=
  match op with
  | 0 => x + y
  | 1 => x &&& y
  | 2 => x ||| y
  | 3 => x ^^^ y
  | 4 => if x.toInt < y.toInt then y else x
  | 5 => if x.toInt < y.toInt then x else y
  | 6 => if x.toNat < y.toNat then y else x
  | _ => if x.toNat < y.toNat then x else y

/-- The value reduced over a list of members, the first with the second and so on (R202). -/
def reduced (op : Nat) : List Word → Word
  | [] => 0
  | x :: r => r.foldl (combine op) x

/-- The members of a gang with GRED's scope: all, or those of the own row (R202). -/
def scopeOfGang (s : State) (row : Bool) (w : Who) : List Who := (s.members w).filter (fun m => !row || decide (rowOf m.tile = rowOf w.tile))

/-- The state as another member of the gang issues its bundle. -/
def seenBy (s : State) (w : Who) : State := { s with cur := { s.cur with who := w } }

/-- What an instruction that looks at the whole gang does on each member; a strand that is fused in no gang is a gang of one. -/
structure GangAct where
  mask : Nat := 0
  srcs : List Src := []
  dests : List Loc := []
  member : State → Who → State → State

/-- GBR, GRED, GXCH and GSPLIT (R201 to R203, R206). -/
def gangRule : Instr → Option GangAct
  | .gbr t => some
      { srcs := [{ loc := .k t.a.toNat }]
        member := fun s w u =>
          let bits := (s.members w).map (fun m => ((s.strand m).readK t.a.toNat).val.getLsbD 0)
          if (if t.bit 0 then bits.all id else bits.any id) then u.modStrand w (fun y => { y with ip := away s t.imm }) else u }
  | .gred t => some
      { mask := t.k.toNat, srcs := [t.srcA], dests := [t.dst]
        member := fun s w u => u.sendLong w 16 (some 48)
          (.long [.s (reduced (fieldNat t.sub 0 3) ((scopeOfGang s (t.bit 3) w).map (fun m => s.scalar m t.srcA.loc)))])
          (t.dst.ref w).toList }
  | .gxch t => some
      { mask := t.k.toNat, srcs := [t.srcA], dests := [t.dst]
        member := fun s w u => u.sendLong w 8 (some 16)
          (.long [.s (match s.neighbour w (fieldNat t.sub 0 2) (t.bit 2) with | none => 0 | some m => s.scalar m t.srcA.loc)])
          (t.dst.ref w).toList }
  | .gsplit => some { member := fun s w u => u.modStrand w (fun x => { x with gangShape := 0, startAt := s.now w.tile + 1 }) }
  | _ => none

/-- The instructions that a strand of a gang may not issue (R207). -/
def notInGang : Instr → Bool
  | .spawn _ => true
  | .stop => true
  | .crew _ => true
  | .cjoin _ => true
  | .cjoinL _ => true
  | .cjoinX _ => true
  | .cjoinXL _ => true
  | _ => false

/-- A gang of several members, each of which can issue the bundle and is in no handler, whose leader's crew has a handler (R199,
R204). -/
def Gathered (s : State) (mask : Nat) (srcs : List Src) (dests : List Loc) : Prop :=
  (s.strand s.cur.who).fused = true ∧ 1 < (s.members s.cur.who).length ∧ (s.members s.cur.who).Nodup ∧
    s.trapVec (s.leader s.cur.who) ≠ 0 ∧
    ∀ w ∈ s.members s.cur.who, (s.tile w.tile).frozen = false ∧ (s.strand w).running = true ∧ (s.strand w).dying = false ∧
      (s.strand w).fused = true ∧ s.leader w = s.leader s.cur.who ∧ s.members w = s.members s.cur.who ∧
      (s.strand w).trapCause.getLsbD 7 = false ∧ (seenBy s w).MaskOn mask ∧ (seenBy s w).Readable srcs ∧ (seenBy s w).Writable dests

/-- A member of the gang enters the handler of the leader's crew with a cause and its word (R99, R204). -/
def handles (s t : State) (w : Who) (code : TrapCode) (info : Word) : Prop :=
  (t.strand w).trapCause = 0x80 ||| code.code ∧ (t.strand w).trapInfo = info ∧ (t.strand w).trapPc = s.cur.ip ∧
    (t.strand w).ip = s.trapVec (s.leader s.cur.who) ∧ (t.strand w).park = none

/-- The member mask: the members of a list in w's row by column, and the rows that hold one (R204). -/
def maskOfMembers (s : State) (w : Who) (bad : List Who) : Word :=
  wordOf (fun i =>
    if i < 16 then bad.any (fun x => decide (rowOf x.tile = rowOf w.tile) && decide (colOf x.tile = colOf (s.leader w).tile + i))
    else decide (i < 32) && bad.any (fun x => decide (rowOf x.tile + 16 = rowOf (s.leader w).tile + i)))

/-- Every member of the gang goes on behind the bundle. -/
def allPast (s : State) (ms : List Who) : State :=
  ms.foldl (fun (u : State) w => u.modStrand w (fun x =>
    { x with ip := s.cur.next, park := none, ignoreOnce := false, xfault := none, mwait := none })) s

/-! ### Queues (R210 to R228, R351 to R355) -/

/-- The port behind a q register and its number. -/
def bound (s : State) (q : Nat) : Option (Nat × Port) :=
  match FMap.find (s.strand s.cur.who).q q with
  | none => none
  | some b => (FMap.find (s.tile s.cur.who.tile).ports b.port).map (fun p => (b.port, p))

/-- What a pop finds at a port: nothing, or an earlier pop of another strand that still waits; an item that is fenced, or that
64 outstanding items hold back; a beacon; an item (R219, R221, R223). -/
inductive Found where
  | nothing
  | held (x : Stored)
  | beacon (x : Stored)
  | item (x : Stored)

/-- Another strand waits on the port first; a strand that has popped in this bundle is still the earliest (R219). -/
def anotherFirst (s : State) (p : Port) : Prop :=
  p.popper ≠ some (s.cur.who.strand, s.now s.cur.who.tile) ∧ ∃ w r, p.waiting = w :: r ∧ w ≠ s.cur.who.strand

/-- An outstanding item of smaller ordinal fences a fenced head (R221). -/
def fencedOff (p : Port) (x : Stored) : Prop := x.item.header.getLsbD 9 = true ∧ ∃ o ∈ p.outst, o.ordinal < x.ordinal

/-- What a pop of the strand that issues finds. -/
def finds (s : State) (p : Port) : Found → Prop
  | .nothing => p.items = [] ∨ ∃ x r, p.items = x :: r ∧ x.item.header.getLsbD 8 = false ∧ anotherFirst s p
  | .beacon x => ∃ r, p.items = x :: r ∧ x.item.header.getLsbD 8 = true
  | .held x => ∃ r, p.items = x :: r ∧ x.item.header.getLsbD 8 = false ∧ ¬ anotherFirst s p ∧ (fencedOff p x ∨ 64 ≤ p.outst.length)
  | .item x => ∃ r, p.items = x :: r ∧ x.item.header.getLsbD 8 = false ∧ ¬ anotherFirst s p ∧ ¬ fencedOff p x ∧ p.outst.length < 64

/-- A pop record: the header, the status in bits 17 and 16, the q index from bit 18, the ordinal from bit 24 (R212). -/
def recordWord (status q : Nat) (x : Stored) : Word :=
  BitVec.ofNat 64 (x.item.header.toNat + status * 2 ^ 16 + q * 2 ^ 18 + x.ordinal % 2 ^ 40 * 2 ^ 24)

/-- The record of a port without an item: status EMPTY, header and ordinal zero (R212, R222). -/
def emptyRecord (q : Nat) : Word := BitVec.ofNat 64 (2 * 2 ^ 16 + q * 2 ^ 18)

/-- The first n words of an item; a word behind its end is zero (R220). -/
def wordsOf (x : Stored) (n : Nat) : List Word := (List.range n).map (fun j => x.item.words.getD j 0)

/-- LONG results of a pop for registers in a row: 4 to 6 cycles; what falls to g0 is discarded (R37, R43, R222). -/
def popResult (s u : State) (ds : List Loc) (vals : List Word) : State :=
  let l := (ds.zip vals).filterMap (fun e => (e.1.ref s.cur.who).map (fun r => (r, e.2)))
  u.sendLong s.cur.who 4 (some 6) (.long (l.map (fun e => .s e.2))) (l.map (·.1))

/-- The registers of a pop: the record first, if one is asked for. -/
def popRegs (t : LTail) (record : Bool) : List Loc :=
  (List.range (fieldNat t.sub 0 3 + (if record then 2 else 1))).map (fun j =>
    match t.dst with | .g i => .g (i + j) | .c i => .c (i + j) | l => l)

/-- The number of words that a pop delivers. -/
def popCount (t : LTail) : Nat := fieldNat t.sub 0 3 + 1

/-- The port of a pop: a CONSUMER's, whose endpoint is not BROKEN (R219). -/
def popsFrom (s : State) (q : Nat) (n : Nat) (p : Port) : Prop :=
  bound s q = some (n, p) ∧ p.consumer = true ∧ s.portBroken s.cur.who.tile n p = false

/-- The strand no longer waits on any port. -/
def unqueued (s u : State) : State := u.unqueue s.cur.who

/-- The head item leaves the port behind a q register (R219). -/
def taken (s : State) (q : Nat) : State :=
  match bound s q with
  | none => s.past
  | some (n, _) => s.past.popHead s.cur.who n

/-- The item at the head of the port behind a q register. -/
def headOf (s : State) (q : Nat) : Stored :=
  match bound s q with
  | none => { ordinal := 0, item := ⟨0, []⟩ }
  | some (_, p) => p.items.headD { ordinal := 0, item := ⟨0, []⟩ }

/-- QPOP, QTRY and QPEEK of a q register. -/
def popAct (t : LTail) (record memory : Bool) (ready : State → Port → Prop) (next : State → State) : Act :=
  { mask := t.k.toNat, srcs := [{ loc := .q t.a.toNat, trap := t.ta }], dests := popRegs t record, memory := memory
    ready := fun s => ∃ n p, popsFrom s t.a.toNat n p ∧ ready s p, next := next }

/-- QPOP (R222): the words of the item, or with .h its record and its words; with .h a cooperative beacon is reported too, and
stays. -/
def qpopAct (t : LTail) : Act :=
  let q := t.a.toNat
  popAct t (t.bit 3) true
    (fun s p => (∃ x, finds s p (.item x)) ∨ (t.bit 3 = true ∧ ∃ x, finds s p (.beacon x) ∧ x.item.cooperative = true))
    (fun s =>
      let x := headOf s q
      if t.bit 3 = false then popResult s (taken s q) (popRegs t false) (wordsOf x (popCount t))
      else if x.item.header.getLsbD 8 then popResult s (unqueued s s.past) (popRegs t true) (recordWord 1 q x :: wordsOf x (popCount t))
      else popResult s (unqueued s (taken s q)) (popRegs t true) (recordWord 0 q x :: wordsOf x (popCount t)))

/-- QTRY and QPEEK on a port that answers by status alone (R222, R223): EMPTY or FENCED with zero words. -/
def statusOnly (t : LTail) (r : Word) (s : State) : State :=
  popResult s s.past (popRegs t true) (r :: List.replicate (popCount t) 0)

/-- QTRY (R222): an item is taken, a beacon reported, nothing else moves. -/
def tryLook (t : LTail) : Found → State → State
  | .nothing, s => statusOnly t (emptyRecord t.a.toNat) s
  | .held x, s => statusOnly t (recordWord 3 t.a.toNat x) s
  | .beacon x, s =>
    popResult s (unqueued s s.past) (popRegs t true) (recordWord 1 t.a.toNat x :: wordsOf x (popCount t))
  | .item x, s =>
    popResult s (unqueued s (taken s t.a.toNat)) (popRegs t true) (recordWord 0 t.a.toNat x :: wordsOf x (popCount t))

/-- QPEEK (R222): the same, and nothing is removed; 64 outstanding items do not matter. -/
def peekLook (t : LTail) : Found → State → State
  | .nothing, s => statusOnly t (emptyRecord t.a.toNat) s
  | .held x, s => statusOnly t (recordWord 3 t.a.toNat x) s
  | .beacon x, s => popResult s s.past (popRegs t true) (recordWord 1 t.a.toNat x :: wordsOf x (popCount t))
  | .item x, s => popResult s s.past (popRegs t true) (recordWord 0 t.a.toNat x :: wordsOf x (popCount t))

/-- What QPEEK finds: as a pop, but a fence alone holds an item back. -/
def peeks (s : State) (p : Port) : Found → Prop
  | .held x => ∃ r, p.items = x :: r ∧ x.item.header.getLsbD 8 = false ∧ ¬ anotherFirst s p ∧ fencedOff p x
  | .item x => ∃ r, p.items = x :: r ∧ x.item.header.getLsbD 8 = false ∧ ¬ anotherFirst s p ∧ ¬ fencedOff p x
  | f => finds s p f

/-- A push of items through a q register is admitted (R217). -/
def pushesTo (s : State) (q count : Nat) (cpy : Bool) : Prop :=
  ∃ n p, bound s q = some (n, p) ∧ p.consumer = false ∧ decide ((s.queue p.queue).type = 2) = cpy ∧ (s.queue p.queue).state ≠ 2 ∧
    s.admits s.cur.who p.queue count = true ∧ ((s.queue p.queue).system = true → (s.strand s.cur.who).system = true)

/-- Items leave through a q register: they are counted at the port, and a copy sets out for each endpoint (R217, R218). -/
def pushed (s : State) (q : Nat) (items : List Item) : State :=
  match bound s q with
  | none => s.past
  | some (n, p) => (s.past.countPush s.cur.who n p.queue items).post s.cur.who p.queue items

/-- The registers that QPUSH takes its words from (R216). -/
def pushRegs (t : LTail) : List Src :=
  (List.range (popCount t)).map (fun j =>
    { loc := (match sLoc t.fb t.b with | .g i => .g (i + j) | .c i => .c (i + j) | l => l), trap := t.tb, isB := true })

/-- The header of QPUSH: length from sub, eod, fence and tag from a, no beacon (R216). -/
def pushHeader (t : LTail) (h : Word) : BitVec 16 :=
  BitVec.ofNat 16 (bitsOf h 0 8 + bitsOf h 9 1 * 2 ^ 9 + bitsOf h 10 3 * 2 ^ 10 + fieldNat t.sub 0 3 * 2 ^ 13)

/-- QPUSH (R216). -/
def qpushAct (t : LTail) : Act :=
  { mask := t.k.toNat, srcs := t.srcA :: pushRegs t, dests := [.q t.d.toNat], memory := true
    ready := fun s => pushesTo s t.d.toNat 1 false
    next := fun s => pushed s t.d.toNat
      [{ header := pushHeader t (val s t.srcA.loc), words := (pushRegs t).map (fun r => val s r.loc) }] }

/-- QDONE: the outstanding item that the record names by its ordinal, or the strand's first, is done (R225). -/
def qdoneAct (own : Bool) (t : LTail) : Act :=
  let item := fun (s : State) (p : Port) =>
    p.outst.find? (fun o => if own then decide (o.strand = s.cur.who.strand)
      else decide (o.ordinal % 2 ^ 40 = bitsOf (val s t.srcB.loc) 24 40))
  { mask := t.k.toNat, srcs := if own then [] else [t.srcB]
    ready := fun s => ∃ n p o, bound s t.a.toNat = some (n, p) ∧ p.consumer = true ∧ item s p = some o
    next := fun s =>
      match bound s t.a.toNat with
      | none => s.past
      | some (n, p) =>
        match item s p with
        | none => s.past
        | some o => s.past.modPort s.cur.who.tile n (fun y => { y with outst := y.outst.filter (fun x => x ≠ o) }) }

/-- QCANCEL sets out for every endpoint of the queue (R226). -/
def cancelled (s : State) (q : Nat) (tag : BitVec 8) : State :=
  match bound s q with
  | none => s.past
  | some (_, p) =>
    (List.range (s.queue p.queue).eps.length).foldl
      (fun (a : State) e => a.send s.cur.who 1 none (.cancel p.queue e tag)) s.past

/-- What QSTAT reads of a port (R227). -/
def statusOf (s : State) (p : Port) (f : Nat) : Word :=
  let d := s.queue p.queue
  BitVec.ofNat 64 (
    if f = 0 then (if p.consumer then p.held else 0)
    else if f = 1 then (if p.consumer then 0 else s.leastRoom p.queue)
    else if f = 2 then (if p.consumer then p.ordinal else 0)
    else if f = 3 then (if p.consumer then p.outst.length else 0)
    else if f = 4 then d.state + d.broken.toNat * 2 ^ 16 + (if p.consumer then 0 else 2 ^ 32) + (if p.closed then 2 ^ 33 else 0)
    else if f = 5 then (if p.consumer then p.cancelled.toNat else 0)
    else p.queue + d.type * 2 ^ 16 + d.prio * 2 ^ 18)

/-- QUEUE_FAULT (R228). -/
def queueWord (reason q port queue mask : Nat) : Cause :=
  { code := .queueFault, info := BitVec.ofNat 64 (reason + q * 2 ^ 4 + port * 2 ^ 8 + queue * 2 ^ 16 + mask * 2 ^ 32) }

/-- QUEUE_FAULT through a q register: port and queue are 0 where it is unbound (R228). -/
def throughQ (s : State) (reason q : Nat) (mask : Nat := 0) : Cause :=
  match bound s q with
  | none => queueWord reason q 0 0 0
  | some (n, p) => queueWord reason q n p.queue mask

/-- The traps of a pop: unbound 1, PRODUCER 2, endpoint BROKEN 3; 5 for a cooperative beacon, unless a record reports it (R219,
R223). -/
def popCause (s : State) (q : Nat) (record : Bool) : Option Cause :=
  match bound s q with
  | none => some (throughQ s 1 q)
  | some (n, p) =>
    if p.consumer = false then some (throughQ s 2 q)
    else if s.portBroken s.cur.who.tile n p then some (throughQ s 3 q (s.queue p.queue).broken.toNat)
    else
      match p.items with
      | [] => none
      | x :: _ => if record = false ∧ x.item.header.getLsbD 8 = true ∧ x.item.cooperative = true then some (throughQ s 5 q) else none

/-- The traps of a push, in the order of R217: unbound 1, CONSUMER 2, a CMD queue 7 but for CPY, FAULTED 4; CPY to another queue 9
(R283). -/
def pushCause (s : State) (q : Nat) (cpy : Bool) : Option Cause :=
  match bound s q with
  | none => some (throughQ s 1 q)
  | some (_, p) =>
    if p.consumer then some (throughQ s 2 q)
    else if cpy = false ∧ (s.queue p.queue).type = 2 then some (throughQ s 7 q)
    else if (s.queue p.queue).state = 2 then some (throughQ s 4 q (s.queue p.queue).broken.toNat)
    else if cpy = true ∧ (s.queue p.queue).type ≠ 2 then some (throughQ s 9 q)
    else none

/-- The traps of QDONE: unbound 1, PRODUCER 2, an item that is not outstanding 6 (R225). -/
def doneCause (s : State) (own : Bool) (t : LTail) : Option Cause :=
  match bound s t.a.toNat with
  | none => some (throughQ s 1 t.a.toNat)
  | some (_, p) =>
    if p.consumer = false then some (throughQ s 2 t.a.toNat)
    else if p.outst.any (fun o => if own then decide (o.strand = s.cur.who.strand)
        else decide (o.ordinal % 2 ^ 40 = bitsOf (val s t.srcB.loc) 24 40)) then none
    else some (throughQ s 6 t.a.toNat)

/-- What QSEL selects: bits 15 to 0 of its mask, in ascending order (R224). -/
def picked (m : Word) : List Nat := (List.range 16).filter (fun q => m.getLsbD q)

/-- The traps of QSEL: an empty mask, the lowest register that is unbound or no CONSUMER's, the lowest whose endpoint is BROKEN (R224,
R229). -/
def selCause (s : State) (m : Word) : Option Cause :=
  if picked m = [] then some (queueWord 1 0 0 0 0)
  else
    ((picked m).findSome? (fun q =>
      match bound s q with
      | none => some (throughQ s 1 q)
      | some (_, p) => if p.consumer then none else some (throughQ s 2 q))).orElse
    (fun _ => (picked m).findSome? (fun q => popCause s q true))

/-- What a pop waits for at a port (R106, R219, R221, R223): kind 3 while there is nothing, an earlier pop waits, 64 items are
outstanding or a forced beacon stands at the head; kind 15 behind a fence. -/
def holdsBack (s : State) (p : Port) (kind : Nat) : Prop :=
  (finds s p .nothing ∧ kind = 3) ∨
    (∃ x, finds s p (.held x) ∧ ((fencedOff p x ∧ kind = 15) ∨ (¬ fencedOff p x ∧ kind = 3))) ∨
    ∃ x, finds s p (.beacon x) ∧ x.item.cooperative = false ∧ kind = 3

/-- A pop that waits takes its place on the port (R219). -/
def popWaits (s u : State) (q kind file index : Nat) : Prop :=
  ∃ n p, popsFrom s q n p ∧ holdsBack s p kind ∧ u = s.queueUp s.cur.who n ∧ file = 0 ∧ index = n

/-- A push that is not admitted waits with kind 2 (R217). -/
def pushWaits (s u : State) (q count kind file index : Nat) : Prop :=
  ∃ n p, bound s q = some (n, p) ∧ s.admits s.cur.who p.queue count = false ∧ u = s ∧ kind = 2 ∧ file = 0 ∧ index = n

/-- A word pair that makes a beacon (R351). -/
abbrev goodBeacon (a b : Word) : Prop :=
  1 ≤ bitsOf a 0 4 ∧ bitsOf a 0 4 ≤ 4 ∧ bitsOf a 4 12 = 0 ∧ bitsOf a 48 16 = 0 ∧ bitsOf b 57 7 = 0

/-- The queue instructions that end at once. -/
def queueRule : Instr → Option Act
  | .qbind t => some
      { mask := t.k.toNat
        ready := fun s => ∃ p, FMap.find (s.tile s.cur.who.tile).ports (fieldNat t.imm 0 5) = some p ∧
          ((s.queue p.queue).system = true → (s.strand s.cur.who).system = true)
        next := fun s => onStrand s (fun x =>
          { x with q := FMap.set x.q t.d.toNat { port := fieldNat t.imm 0 5, tag := t.imm.extractLsb' 8 8 } }) }
  | .qunb d => some { next := fun s => onStrand s (fun x => { x with q := FMap.erase x.q d.toNat }) }
  | .qpush t => some (qpushAct t.toL)
  | .qpushL t => some (qpushAct t)
  | .qpop t => some (qpopAct t.toL)
  | .qpopL t => some (qpopAct t)
  | .qdone t => some (qdoneAct false t.toL)
  | .qdoneL t => some (qdoneAct false t)
  | .qdoneO t => some (qdoneAct true t.toL)
  | .qdoneOL t => some (qdoneAct true t)
  | .qcancel (.l t) => some
      { mask := t.k.toNat, srcs := [t.srcA], ready := fun s => (bound s t.d.toNat).isSome = true
        next := fun s => cancelled s t.d.toNat ((val s t.srcA.loc).setWidth 8) }
  | .qcancel (.w t) => some
      { mask := t.k.toNat, ready := fun s => (bound s t.d.toNat).isSome = true
        next := fun s => cancelled s t.d.toNat (t.imm.setWidth 8) }
  | .qstat t => some
      { mask := t.k.toNat, dests := [t.dst], ready := fun s => (bound s t.a.toNat).isSome = true
        next := fun s => s.past.putScalar s.cur.who t.dst
          (match bound s t.a.toNat with | none => 0 | some (_, p) => statusOf s p (fieldNat t.sub 0 3)) }
  | .bcn t => some
      { mask := t.k.toNat, srcs := [t.srcA, t.srcB], dests := [.q t.d.toNat], memory := true
        ready := fun s => (s.strand s.cur.who).system = true ∧ goodBeacon (val s t.srcA.loc) (val s t.srcB.loc) ∧
          pushesTo s t.d.toNat 1 false
        next := fun s => pushed s t.d.toNat [{ header := 0x2100, words := [val s t.srcA.loc, val s t.srcB.loc] }] }
  | .bpass => some
      { memory := true
        ready := fun s => ∃ c, s.cutReady s.cur.who.tile = some c ∧ (c.kind = 1 ∨ c.kind = 4) ∧ s.beaconBlocked s.cur.who = none
        next := fun s =>
          match s.cutReady s.cur.who.tile with
          | none => s.past
          | some c => ((s.outputSet s.cur.who.tile).foldl (fun (a : State) e => a.pushBeacon s.cur.who e.1 c) s.past).freezeTile
              s.cur.who.tile c [] }
  | _ => none

/-- The traps of the queue instructions (R214, R217, R219, R225 to R227, R352, R355). The q field of BPASS is the model's choice
(assumption 107). -/
def queueCause (i : Instr) (s : State) : Option Cause :=
  let unbound := fun (q : Nat) => if (bound s q).isNone then some (throughQ s 1 q) else none
  match i with
  | .qbind t =>
    match FMap.find (s.tile s.cur.who.tile).ports (fieldNat t.imm 0 5) with
    | none => some (queueWord 8 t.d.toNat (fieldNat t.imm 0 5) 0 0)
    | some p => if (s.queue p.queue).system = true ∧ (s.strand s.cur.who).system = false then some (ofWord .privileged s) else none
  | .qpush t => pushCause s t.d.toNat false
  | .qpushL t => pushCause s t.d.toNat false
  | .qpop t => popCause s t.a.toNat (t.toL.bit 3)
  | .qpopL t => popCause s t.a.toNat (t.bit 3)
  | .qdone t => doneCause s false t.toL
  | .qdoneL t => doneCause s false t
  | .qdoneO t => doneCause s true t.toL
  | .qdoneOL t => doneCause s true t
  | .qcancel (.l t) => unbound t.d.toNat
  | .qcancel (.w t) => unbound t.d.toNat
  | .qstat t => unbound t.a.toNat
  | .bcn t =>
    if (s.strand s.cur.who).system = false then some (ofWord .privileged s)
    else if goodBeacon (val s t.srcA.loc) (val s t.srcB.loc) then pushCause s t.d.toNat false
    else some (throughQ s 10 t.d.toNat)
  | .bpass =>
    match s.cutReady s.cur.who.tile with
    | none => none
    | some c =>
      if c.kind = 1 ∨ c.kind = 4 then
        ((s.outputSet s.cur.who.tile).find? (fun e => decide ((s.queue e.2.queue).state = 2))).map
          (fun e => queueWord 4 0 e.1 e.2.queue (s.queue e.2.queue).broken.toNat)
      else none
  | _ => none

/-- What the queue instructions wait for (R217, R219 to R223, R352, R355). -/
def queueWait (i : Instr) (s u : State) (kind file index : Nat) : Prop :=
  match i with
  | .qpush t => pushWaits s u t.d.toNat 1 kind file index
  | .qpushL t => pushWaits s u t.d.toNat 1 kind file index
  | .bcn t => pushWaits s u t.d.toNat 1 kind file index
  | .qpop t => popWaits s u t.a.toNat kind file index
  | .qpopL t => popWaits s u t.a.toNat kind file index
  | .bpass => u = s ∧ file = 0 ∧
      ((∃ c n, s.cutReady s.cur.who.tile = some c ∧ (c.kind = 1 ∨ c.kind = 4) ∧ s.beaconBlocked s.cur.who = some n ∧ kind = 2 ∧ index = n) ∨
        ((∀ c, s.cutReady s.cur.who.tile = some c → c.kind ≠ 1 ∧ c.kind ≠ 4) ∧ kind = 3 ∧ index = s.lackingPort s.cur.who.tile))
  | _ => False

/-- QTRY and QPEEK: what they find, and what they leave. -/
def lookRule : Instr → Option (LTail × (State → Port → Found → Prop) × (Found → State → State) × Bool)
  | .qtry t => some (t.toL, finds, tryLook t.toL, true)
  | .qtryL t => some (t, finds, tryLook t, true)
  | .qpeek t => some (t.toL, peeks, peekLook t.toL, false)
  | .qpeekL t => some (t, peeks, peekLook t, false)
  | _ => none

/-- A selected q register has something for a pop, a beacon among it. -/
def poppable (s : State) (q : Nat) : Prop := ∃ n p x, bound s q = some (n, p) ∧ (finds s p (.item x) ∨ finds s p (.beacon x))

/-- The priority of the queue behind a q register. -/
def priorityAt (s : State) (q : Nat) : Nat := match bound s q with | none => 0 | some (_, p) => (s.queue p.queue).prio

/-- QSEL's choice: of the highest priority among the selected registers that have something, and nearest behind the strand's last
choice (R224). -/
def chosen (s : State) (m : Word) (q : Nat) : Prop :=
  let near := fun (x : Nat) => (x + 15 - (s.strand s.cur.who).lastSel) % 16
  q < 16 ∧ m.getLsbD q = true ∧ poppable s q ∧
    ∀ x, x < 16 → m.getLsbD x = true → poppable s x → priorityAt s x ≤ priorityAt s q ∧
      (priorityAt s x = priorityAt s q → near q ≤ near x)

/-! ### Tickets (R232 to R246) -/

/-- A ticket that the tile itself does not find forged: the null ticket, or one with a kind, a source, an entry and a generation that
exist (R235, R241). -/
def plausible (x : Word) : Prop :=
  x = 0 ∨ (bitsOf x 22 16 ≠ 0 ∧
    ((bitsOf x 62 2 = 0 ∧ bitsOf x 50 12 < 128 ∧ bitsOf x 38 12 < 4096) ∨ (bitsOf x 62 2 = 1 ∧ bitsOf x 50 12 < 128 ∧ bitsOf x 38 12 < 1024) ∨
      (bitsOf x 62 2 = 2 ∧ validTile (bitsOf x 50 12) = true ∧ bitsOf x 38 12 < 64)))

/-- The size code of LDT. -/
def sizeCode : LWTail → Nat
  | .l t => fieldNat t.sub 0 3
  | .w t => fieldNat t.sub 0 3

/-- LDT (R240): the request sets out to the target's source, one of at most 32 of the tile, and the ticket comes as a LONG
result. -/
def ldtAct (t : LWTail) : Act :=
  let n := 8 * 2 ^ sizeCode t
  { mask := (maskOf t).toNat, srcs := [baseOf t], dests := [.g (dstOf t).index], memory := true
    touch := fun s =>
      match s.checkGlobal s.cur.who (globalAt t s) n 0 true with
      | .ok (.tile y off) => if y = s.cur.who.tile then [{ pa := (s.tile y).winPhys off, n := n, load := true, later := true }] else []
      | _ => []
    ready := fun s => (s.ldtOut s.cur.who.tile).length < 32 ∧
      ∃ g, s.checkGlobal s.cur.who (globalAt t s) n 0 true = .ok g ∧ ∀ p a v, g ≠ .peer p a v
    next := fun s =>
      match s.checkGlobal s.cur.who (globalAt t s) n 0 true with
      | .ok g =>
        let u := s.past.modTile s.cur.who.tile (fun y => { y with ldt := s.ldtOut s.cur.who.tile ++ [s.nextId] })
        (u.noteCircuit s.cur.who g).sendLong s.cur.who 1 none
          (.ldt g.source g (globalAt t s) (sizeCode t) (subBit 3 t) (s.ticketOwner s.cur.who) (s.tile s.cur.who.tile).part
            (s.tile s.cur.who.tile).place)
          ((Loc.g (dstOf t).index).ref s.cur.who).toList
      | _ => s.past }

/-- What an RDM asks for: 8 bytes for a register or 128 for a v register, and a status register in the quiet form (R242). -/
def rdmReq (t : LTail) (s : State) : RedeemReq :=
  { ticket := val s t.srcA.loc, width := if t.bit 1 then 128 else 8
    dest := if t.bit 1 then some (.v s.cur.who t.d.toNat) else t.dst.ref s.cur.who
    status := if t.bit 0 then (Loc.g t.b.toNat).ref s.cur.who else none, quiet := t.bit 0 }

/-- The local address that RDMS writes to (R243). -/
def rdmsAt (t : LTail) (s : State) : Nat := (val s t.srcB.loc).toNat % 2 ^ 20

/-- The pointer that RDMS post-increments. -/
def rdmsBump (t : LTail) : Option Nat := if t.bit 4 then (match t.srcB.loc with | .p j => some j | _ => none) else none

/-- What an RDMS asks for: 8 to 128 bytes for scratchpad, the status in d (R242, R243). -/
def rdmsReq (t : LTail) (s : State) : RedeemReq :=
  { ticket := val s t.srcA.loc, width := 8 * 2 ^ fieldNat t.sub 0 3, place := some (s.phys s.cur.who (rdmsAt t s)), dest := t.dst.ref s.cur.who
    quiet := t.bit 3, bump := rdmsBump t }

/-- Where an RDM delivers. -/
def rdmDst (t : LTail) : Loc := if t.bit 1 then .v t.d.toNat else t.dst

/-- RDM, in its quiet form if the bit is set (R244). -/
def rdmAct (t : LTail) : Act :=
  { mask := t.k.toNat, srcs := [t.srcA], dests := if t.bit 0 then [rdmDst t, .g t.b.toNat] else [rdmDst t]
    ready := fun s => plausible (val s t.srcA.loc) ∧ (t.bit 0 = false → val s t.srcA.loc ≠ 0)
    next := fun s => s.past.sendRedeem s.cur.who (rdmReq t s) }

/-- RDMS, in its quiet form if the bit is set (R243, R244). -/
def rdmsAct (t : LTail) : Act :=
  { mask := t.k.toNat, srcs := [t.srcA, t.srcB], dests := t.dst :: (rdmsBump t).toList.map (fun j => Loc.m j true), memory := true
    touch := fun s => [{ pa := s.phys s.cur.who (rdmsAt t s), n := 8 * 2 ^ fieldNat t.sub 0 3, store := true, later := true }]
    ready := fun s => plausible (val s t.srcA.loc) ∧ (t.bit 3 = false → val s t.srcA.loc ≠ 0) ∧
      touchable s (rdmsAt t s) (8 * 2 ^ fieldNat t.sub 0 3) false
    next := fun s =>
      let u := s.past.sendRedeem s.cur.who (rdmsReq t s)
      match rdmsBump t with
      | none => u
      | some j => u.modStrand s.cur.who (fun x => x.writeP j (myPtr s j).bump) }

/-- TKQ and TKD: the null ticket is answered at once, others travel to their source; a user strand's carries its partition (R246). -/
def queryAct (drop : Bool) (t : LTail) : Act :=
  { mask := t.k.toNat, srcs := [t.srcA], dests := [t.dst], ready := fun s => plausible (val s t.srcA.loc)
    next := fun s =>
      if val s t.srcA.loc = 0 then
        s.past.sendLong s.cur.who 1 (some 8) (.long [.s (if drop then 1 else 0)]) (t.dst.ref s.cur.who).toList
      else
        s.past.sendLong s.cur.who 1 none
          (.query drop (val s t.srcA.loc) (if (s.strand s.cur.who).system then none else some (s.tile s.cur.who.tile).part)
            (s.tile s.cur.who.tile).place)
          (t.dst.ref s.cur.who).toList }

/-- LDT, TKQ, TKD and the quiet redeems. -/
def ticketRule : Instr → Option Act
  | .ldt t => some (ldtAct t)
  | .rdm t => if t.toL.bit 0 then some (rdmAct t.toL) else none
  | .rdmL t => if t.bit 0 then some (rdmAct t) else none
  | .rdms t => if t.toL.bit 3 then some (rdmsAct t.toL) else none
  | .rdmsL t => if t.bit 3 then some (rdmsAct t) else none
  | .tkq t => some (queryAct false t.toL)
  | .tkqL t => some (queryAct false t)
  | .tkd t => some (queryAct true t.toL)
  | .tkdL t => some (queryAct true t)
  | _ => none

/-- The trapping redeems, which hold their bundle in issue until the answer comes (R244). -/
def heldRule : Instr → Option (Act × (State → RedeemReq))
  | .rdm t => if t.toL.bit 0 then none else some (rdmAct t.toL, rdmReq t.toL)
  | .rdmL t => if t.bit 0 then none else some (rdmAct t, rdmReq t)
  | .rdms t => if t.toL.bit 3 then none else some (rdmsAct t.toL, rdmsReq t.toL)
  | .rdmsL t => if t.bit 3 then none else some (rdmsAct t, rdmsReq t)
  | _ => none

/-! ### Engines, rings, barriers, streams (R283 to R298) -/

/-- n words of 8 bytes from a local address can be read (R158, R161, R408). -/
def wordsAt (s : State) (x n : Nat) : Prop :=
  x % 8 = 0 ∧ ∀ i, i < n → (s.localPhys s.cur.who ((x + 8 * i) % 2 ^ 20)).isSome = true ∧
    (s.tile s.cur.who.tile).poisoned (s.phys s.cur.who (x + 8 * i)) 8 = false

/-- Those words. -/
def imageAt (s : State) (x n : Nat) : List Word := (List.range n).map (fun i => BitVec.ofNat 64 (s.readLocal s.cur.who (x + 8 * i) 8))

/-- The units that they lie in. -/
def imageUnits (s : State) (x n : Nat) : List Nat := (List.range n).map (fun i => s.phys s.cur.who (x + 8 * i) / 64)

/-- The access that reads them, word by word. -/
def imageAccs (s : State) (x n : Nat) : List Acc :=
  (List.range n).map (fun i => { pa := s.phys s.cur.who (x + 8 * i), n := 8, load := true, more := decide (0 < i) })

/-- The local address in a. -/
def imageBase (t : LTail) (s : State) : Nat := (val s t.srcA.loc).toNat % 2 ^ 20

/-- The command of a strand: who it is and what it may do are taken with it (R283, R285). -/
def commandFor (s : State) (image : List Word) : Cmd :=
  { who := s.cur.who, crew := if inCrew s then some (s.strand s.cur.who).crewId.toNat else none, system := (s.strand s.cur.who).system
    part := (s.tile s.cur.who.tile).part, place := (s.tile s.cur.who.tile).place, wsRead := (s.tile s.cur.who.tile).wsRead, image := image }

/-- CPY (R283): the 128-byte image goes as two items of 8 words to the engine of a CMD queue. -/
def cpyAct (t : LTail) : Act :=
  { mask := t.k.toNat, srcs := [t.srcA], dests := cpyBump t ++ [.q t.d.toNat], memory := true
    units := fun s => imageUnits s (imageBase t s) 16, accs := fun s => imageAccs s (imageBase t s) 16
    ready := fun s => wordsAt s (imageBase t s) 16 ∧ pushesTo s t.d.toNat 2 true
    next := fun s =>
      match bound s t.d.toNat with
      | none => s.past
      | some (n, p) =>
        let image := imageAt s (imageBase t s) 16
        let items : List Item := [{ header := 0xE000, words := image.take 8 }, { header := 0xE000, words := image.drop 8 }]
        let v := (s.past.countPush s.cur.who n p.queue items).sweepFor s.cur.who (s.queue p.queue).scope
        let u := v.send s.cur.who 1 none (.command p.queue { commandFor s image with num := v.nextId })
        match cpyBump t with
        | [.m j _] => u.modStrand s.cur.who (fun x => x.writeP j (myPtr s j).bump)
        | _ => u }

/-- The traps of n words that an instruction reads: their alignment, the lowest that the strand may not access (R158, R161). -/
def wordsCause (s : State) (x n : Nat) : Option Cause :=
  if x % 8 ≠ 0 then some { code := .misaligned, info := whereAndHow x 0 }
  else (((List.range n).map (fun i => (x + 8 * i) % 2 ^ 20)).find? (fun y => (s.localPhys s.cur.who y).isNone)).map
    (fun y => { code := .accessDenied, info := whereAndHow y 0 })

/-- ACCESS_DENIED for a ring 0, a slot 1, an accumulator 2 that is not there or not held (R107). -/
def unheld (resource index : Nat) : Cause := { code := .accessDenied, info := BitVec.ofNat 64 (index + resource * 2 ^ 4 + 15 * 2 ^ 60) }

/-- STREAM_FAULT (R298). -/
def streamWord (reason i addr : Nat) : Cause :=
  { code := .streamFault, info := BitVec.ofNat 64 (reason + i * 2 ^ 4 + addr / 128 % 2 ^ 50 * 2 ^ 14) }

/-- The completion ring that an instruction names. -/
def ringAt (s : State) (n : Nat) : Ring := FMap.get {} (s.tile s.cur.who.tile).rings n

/-- The tile has that ring (R295). -/
def hasRing (s : State) (n : Nat) : Prop := (FMap.find (s.tile s.cur.who.tile).rings n).isSome = true

/-- The operand of BARINIT and BAREXP. -/
def barWord (t : LWTail) (s : State) : Word := match t with | .l u => val s u.srcA.loc | .w u => u.imm.setWidth 64

/-- The barrier's number. -/
def barIndex : LWTail → Nat
  | .l t => fieldNat t.sub 0 4
  | .w t => t.d.toNat % 16

/-- BARINIT and BAREXP (R296). -/
def barAct (t : LWTail) (f : Word → Barrier → Barrier) : Act :=
  { mask := (maskOf t).toNat, srcs := countSrc t
    next := fun s => s.past.modBar s.cur.who.tile (barIndex t) (f (barWord t s)) }

/-- A pattern of a stream: base and level words (R297, R298). -/
def goodPattern (l : List Word) (levels : Nat) : Prop :=
  (l.getD 0 0).toNat % 128 = 0 ∧
    ∀ i, i < levels → bitsOf (l.getD (i + 1) 0) 39 25 = 0 ∧ ((l.getD (i + 1) 0).extractLsb' 14 25).toInt % 128 = 0

/-- The pattern as base and levels. -/
def patternOf (l : List Word) (levels : Nat) : Nat × List (Nat × Int) :=
  ((l.getD 0 0).toNat, (List.range levels).map (fun i =>
    (bitsOf (l.getD (i + 1) 0) 0 14 + 1, ((l.getD (i + 1) 0).extractLsb' 14 25).toInt)))

/-- The stream of a v register. -/
def streamOf (s : State) (i : Nat) : Option Stream := FMap.find (s.strand s.cur.who).streams i

/-- A v register of the strand is held and not PENDING. -/
def openV (s : State) (i : Nat) : Prop :=
  (s.strand s.cur.who).lacks (.v i) = false ∧ ((s.strand s.cur.who).readV i).st ≠ .pending

/-- A register in stream mode changes when the bundle has ended (R136, R297). -/
def atEnd (s u : State) (i : Nat) (x : Option (Nat × List (Nat × Int))) : State :=
  u.modStrand s.cur.who (fun y => match FMap.find y.streams i with
    | none => y
    | some z => { y with streams := FMap.set y.streams i { z with after := some x } })

/-- CPY, rings, barriers, streams. -/
def engineRule : Instr → Option Act
  | .cpy t => some (cpyAct t)
  | .rawait t => some
      { mask := t.k.toNat, dests := [t.dst]
        ready := fun s => hasRing s (fieldNat t.sub 0 4) ∧
          (FMap.find (ringAt s (fieldNat t.sub 0 4)).slots (ringAt s (fieldNat t.sub 0 4)).rd).isSome = true
        next := fun s => s.past.putScalar s.cur.who t.dst
          (FMap.get 0 (ringAt s (fieldNat t.sub 0 4)).slots (ringAt s (fieldNat t.sub 0 4)).rd) }
  | .rrel t => some
      { mask := t.k.toNat
        ready := fun s => hasRing s (fieldNat t.sub 0 4) ∧
          (FMap.find (ringAt s (fieldNat t.sub 0 4)).slots (ringAt s (fieldNat t.sub 0 4)).rd).isSome = true
        next := fun s =>
          let g := ringAt s (fieldNat t.sub 0 4)
          s.past.modTile s.cur.who.tile (fun y =>
            { y with rings := FMap.set y.rings (fieldNat t.sub 0 4) { g with slots := FMap.erase g.slots g.rd, rd := (g.rd + 1) % g.size } }) }
  | .rstat t => some
      { mask := t.k.toNat, dests := [t.dst]
        next := fun s =>
          let g := ringAt s (fieldNat t.sub 0 4)
          s.past.putScalar s.cur.who t.dst
            (BitVec.ofNat 64 (g.rd % 256 + g.wr % 256 * 2 ^ 8 + g.slots.length * 2 ^ 16 + g.size * 2 ^ 25)) }
  | .barinit t => some (barAct t (fun x b => { phase := b.phase + 1, expected := bitsOf x 0 12 + 1, arrivals := 0, bytes := 0 }))
  | .barexp t => some (barAct t (fun x b => { b with bytes := b.bytes + BitVec.ofNat 48 (bitsOf x 0 40) }))
  | .bararv t => some
      { mask := t.k.toNat, dests := [t.dst]
        ready := fun s =>
          ((s.tile s.cur.who.tile).bar (fieldNat t.sub 0 4)).arrivals ≠ ((s.tile s.cur.who.tile).bar (fieldNat t.sub 0 4)).expected ∧
            s.releaseWait s.cur.who (fieldNat t.sub 4 3) = none
        next := fun s =>
          shows s ((s.past.putScalar s.cur.who t.dst (((s.tile s.cur.who.tile).bar (fieldNat t.sub 0 4)).phase.setWidth 64)).modBar
            s.cur.who.tile (fieldNat t.sub 0 4) (fun b => { b with arrivals := b.arrivals + 1 })) (fieldNat t.sub 4 3) }
  | .barwait t => some
      { mask := t.k.toNat, srcs := [t.srcA]
        ready := fun s => ((s.tile s.cur.who.tile).bar (fieldNat t.sub 0 4)).phase ≠ (val s t.srcA.loc).setWidth 16
        next := State.past }
  | .sbind t => some
      { mask := t.k.toNat, srcs := [t.srcA], memory := true
        units := fun s => imageUnits s (imageBase t s) 5, accs := fun s => imageAccs s (imageBase t s) 5
        ready := fun s => openV s t.d.toNat ∧ wordsAt s (imageBase t s) 5 ∧
          ((streamOf s t.d.toNat).isSome = true ∨ (s.tile s.cur.who.tile).streams < 4) ∧
          goodPattern (imageAt s (imageBase t s) 5) (fieldNat t.sub 0 2 + 1)
        next := fun s =>
          let p := patternOf (imageAt s (imageBase t s) 5) (fieldNat t.sub 0 2 + 1)
          if (streamOf s t.d.toNat).isSome then atEnd s s.past t.d.toNat (some p) else s.past.bindStream s.cur.who t.d.toNat p }
  | .sunb d => some
      { ready := fun s => (s.strand s.cur.who).lacks (.v d.toNat) = false ∧
          ((streamOf s d.toNat).isSome = true → ((s.strand s.cur.who).readV d.toNat).st ≠ .pending)
        next := fun s => atEnd s s.past d.toNat none }
  | _ => none

/-- A pattern breaks a rule of its layout (R298). -/
def badPattern (l : List Word) (levels : Nat) : Bool :=
  decide ((l.getD 0 0).toNat % 128 ≠ 0) || (List.range levels).any (fun i =>
    decide (bitsOf (l.getD (i + 1) 0) 39 25 ≠ 0) || decide (((l.getD (i + 1) 0).extractLsb' 14 25).toInt % 128 ≠ 0))

/-- The traps of CPY, of a ring that the tile has not, and of SBIND (R283, R295, R298); words that are uncorrectable, R408. -/
def engineCause (i : Instr) (s : State) : Option Cause :=
  let ring := fun (n : Nat) => if (FMap.find (s.tile s.cur.who.tile).rings n).isSome then none else some (unheld 0 n)
  match i with
  | .cpy t => ((wordsCause s (imageBase t s) 16).orElse (fun _ => pushCause s t.d.toNat true)).orElse
      (fun _ => s.wordsBad s.cur.who (imageBase t s) 16)
  | .rawait t => ring (fieldNat t.sub 0 4)
  | .rrel t => ring (fieldNat t.sub 0 4)
  | .sbind t =>
    if (s.strand s.cur.who).lacks (.v t.d.toNat) then none
    else ((wordsCause s (imageBase t s) 5).orElse (fun _ => s.wordsBad s.cur.who (imageBase t s) 5)).orElse (fun _ =>
      if (streamOf s t.d.toNat).isNone = true ∧ 4 ≤ (s.tile s.cur.who.tile).streams then some (streamWord 4 t.d.toNat 0)
      else if badPattern (imageAt s (imageBase t s) 5) (fieldNat t.sub 0 2 + 1) then some (streamWord 5 t.d.toNat 0)
      else none)
  | _ => none

/-- What CPY, the ring and the barrier instructions wait for (R217, R295, R296). -/
def engineWait (i : Instr) (s u : State) (kind file index : Nat) : Prop :=
  let ring := fun (n : Nat) => (FMap.find (ringAt s n).slots (ringAt s n).rd).isNone = true ∧ u = s ∧ kind = 4 ∧ file = 0 ∧ index = n
  let bar := fun (n : Nat) => u = s ∧ kind = 5 ∧ file = 0 ∧ index = n
  match i with
  | .cpy t => pushWaits s u t.d.toNat 2 kind file index
  | .rawait t => ring (fieldNat t.sub 0 4)
  | .rrel t => ring (fieldNat t.sub 0 4)
  | .bararv t => ((s.tile s.cur.who.tile).bar (fieldNat t.sub 0 4)).arrivals = ((s.tile s.cur.who.tile).bar (fieldNat t.sub 0 4)).expected ∧
      bar (fieldNat t.sub 0 4)
  | .barwait t => ((s.tile s.cur.who.tile).bar (fieldNat t.sub 0 4)).phase = (val s t.srcA.loc).setWidth 16 ∧ bar (fieldNat t.sub 0 4)
  | _ => False

/-! ### The matrix array (R252 to R278) -/

/-- The physical slot behind a crew's name (R186). -/
def slotOf (s : State) (j : Nat) : Option Nat := (myCrew s).bind (fun c => FMap.find c.os j)

/-- The physical accumulator behind a crew's name. -/
def accOf (s : State) (j : Nat) : Option Nat := (myCrew s).bind (fun c => FMap.find c.ac j)

/-- The operand slot of a name. -/
def slotAt (s : State) (j : Nat) : OSlot := (s.tile s.cur.who.tile).oslot ((slotOf s j).getD 0)

/-- The accumulator of a name. -/
def accAt (s : State) (j : Nat) : Accum := (s.tile s.cur.who.tile).accum ((accOf s j).getD 0)

/-- The accumulator of a name changes. -/
def onAcc (s : State) (j : Nat) (f : Accum → Accum) : State :=
  s.past.modTile s.cur.who.tile (fun t => t.modAc ((accOf s j).getD 0) f)

/-- A format that the role of a slot in an active rule of the tile does not allow (R257, R261). -/
def roleAgainst (s : State) (acc : Option Nat) (slot format : Nat) : Prop :=
  ∃ e ∈ (s.tile s.cur.who.tile).ac, e.2.rule.active = true ∧ some e.1 ≠ acc ∧ ∃ r ∈ e.2.rule.roles, r.1 = slot ∧ r.2 ≠ format

/-- The descriptor of MFILL (R257). -/
structure Fill where
  first : Nat
  count : Nat
  size : Nat
  format : Option Nat
  last : Bool
  start : Bool

/-- A descriptor breaks no rule of its layout: a data fill of 128-byte units, or a side fill of 8-byte words (R257). -/
def goodFill (side : Bool) (d : Word) : Prop :=
  if side then bitsOf d 18 46 = 0 ∧ bitsOf d 0 8 + (bitsOf d 8 8 + 1) ≤ 256
  else d.getLsbD 7 = false ∧ d.getLsbD 15 = false ∧ bitsOf d 22 42 = 0 ∧ bitsOf d 16 4 < 8 ∧ bitsOf d 0 7 + (bitsOf d 8 7 + 1) ≤ 128

/-- The fill of a descriptor. -/
def theFill (side : Bool) (d : Word) : Fill :=
  if side then { first := bitsOf d 0 8, count := bitsOf d 8 8 + 1, size := 8, format := none, last := d.getLsbD 16, start := d.getLsbD 17 }
  else { first := bitsOf d 0 7, count := bitsOf d 8 7 + 1, size := 128, format := some (bitsOf d 16 4), last := d.getLsbD 20, start := d.getLsbD 21 }

/-- A request joins the tile's matrix path (R259). -/
def queued (s u : State) (r : PathReq) : State :=
  { u with nextId := u.nextId + 1 }.modTile s.cur.who.tile (fun y => { y with path := y.path ++ [{ r with id := u.nextId }] })

/-- MFILL and MSCL (R257): the slot takes the fill's format and is FILLING, and the request is queued with its pages fixed. -/
def fillAct (side : Bool) (t : LTail) : Act :=
  let j := t.d.toNat % 16
  let f := fun (s : State) => theFill side (val s t.srcB.loc)
  { mask := t.k.toNat, srcs := [t.srcA, t.srcB], memory := true
    touch := fun s => imageAccs s (imageBase t s) ((f s).count * (f s).size / 8)
    ready := fun s => (slotOf s j).isSome = true ∧ goodFill side (val s t.srcB.loc) ∧ imageBase t s % 8 = 0 ∧
      (∀ i, i < (f s).count * (f s).size / 8 → (s.localPhys s.cur.who ((imageBase t s + 8 * i) % 2 ^ 20)).isSome = true) ∧
      (if (f s).start then (slotAt s j).state = .empty else (slotAt s j).state ≠ .full) ∧
      (∀ x, (f s).format = some x → ((slotAt s j).format = none ∨ (slotAt s j).format = some x) ∧
        ¬ roleAgainst s none ((slotOf s j).getD 16) x)
    next := fun s =>
      let u := s.past.modTile s.cur.who.tile (fun y => y.modOs ((slotOf s j).getD 0) (fun o =>
        { o with state := .filling, format := (f s).format.orElse (fun _ => o.format) }))
      queued s u
        { id := 0, who := s.cur.who, crew := (s.strand s.cur.who).crewId.toNat, name := j, issued := s.now s.cur.who.tile
          base := imageBase t s, total := (f s).count * (f s).size
          pages := s.pagesOf s.cur.who (pageStarts (imageBase t s) ((f s).count * (f s).size))
          kind := .fill ((slotOf s j).getD 0) ((f s).first * (f s).size) side (f s).last } }

/-- The configuration word of MRULE has zeros where it shall, M at most the pair's limit and N at most 64 (R262, R263). -/
def goodCfg (p : Pair) (c : Word) : Prop :=
  bitsOf c 15 1 = 0 ∧ bitsOf c 35 29 = 0 ∧ bitsOf c 0 8 ≤ (if p = .f4f4 then 64 else 128) ∧ bitsOf c 8 7 ≤ 64

/-- The slots that an MRULE of a pair names, with the format that each role allows: A, B, the staged mask and the staged feedback
target (R261, R263). -/
def roleNames (s : State) (p : Pair) (j a b : Nat) : List (Nat × Nat) :=
  let e := (accAt s j).stage
  [(a, (pairInfo p).fa), (b, (pairInfo p).fb)] ++
    (match e.tagsOn, e.mask with | true, some m => [(m, 7)] | _, _ => []) ++
    (match e.fb with | some (some t, f) => [(t, f)] | _ => [])

/-- The rule that MRULE makes, with the staged names as physical slots (R263). -/
def madeRule (s : State) (p : Pair) (j a b : Nat) (c gs : Word) : Rule :=
  let e := (accAt s j).stage
  { active := decide (bitsOf c 16 16 ≠ 0), pair := p, a := slotOf s a, b := slotOf s b, m := bitsOf c 0 8, n := bitsOf c 8 7
    kf := bitsOf c 16 16, gscale := gs.setWidth 32, zero := !c.getLsbD 32
    ext := { e with mask := e.mask.bind (slotOf s), fb := e.fb.map (fun x => (x.1.bind (slotOf s), x.2)) } }

/-- MRULE (R262, R263): the accumulator adopts the rule and the stage is used up; a rule of no firings completes at once. The slots
take their sticky bits. -/
def mruleAct (p : Pair) (t : LTail) : Act :=
  let j := t.d.toNat % 4
  let a := t.sub.toNat % 16
  let b := t.sub.toNat / 16 % 16
  { mask := t.k.toNat, srcs := [t.srcA, t.srcB]
    ready := fun s => (accOf s j).isSome = true ∧ goodCfg p (val s t.srcA.loc) ∧ (a = b → (pairInfo p).fa = (pairInfo p).fb) ∧
      (∀ x ∈ roleNames s p j a b, (slotOf s x.1).isSome = true ∧
        ∀ f, (slotAt s x.1).format = some f →
          (∀ y ∈ roleNames s p j a b, slotOf s y.1 = slotOf s x.1 → y.2 = f) ∧
            ¬ roleAgainst s (accOf s j) ((slotOf s x.1).getD 16) f) ∧
      (∀ x f, (accAt s j).stage.fb = some (x, f) → (pairInfo p).back = some f) ∧
      (accAt s j).rule.active = false ∧ (accAt s j).busy = false
    next := fun s =>
      let c := val s t.srcA.loc
      let r := madeRule s p j a b c (val s t.srcB.loc)
      let u := onAcc s j (fun x =>
        { x with
          rule := r, stage := {}, int := decide (p = .i8i8), data := if c.getLsbD 32 then x.data else []
          poison := if c.getLsbD 32 then x.poison else []
          completions := if bitsOf c 16 16 = 0 then (x.completions + 1) % 65536 else x.completions
          state := if bitsOf c 16 16 = 0 then .full else if c.getLsbD 32 = false ∨ x.state = .clear then .clear else .opened })
      let stick := fun (v : State) (n : Nat) (on : Bool) =>
        v.modTile s.cur.who.tile (fun y => y.modOs ((slotOf s n).getD 0) (fun o => { o with sticky := on }))
      let u := stick u a (c.getLsbD 33 || (decide (a = b) && c.getLsbD 34))
      if a = b then u else stick u b (c.getLsbD 34) }

/-- MTAG and MRULX change the stage of an accumulator (R268, R269). -/
def stageAct (t : LTail) (srcs : List Src) (ready : State → Prop) (f : State → Accum → Accum) : Act :=
  { mask := t.k.toNat, srcs := srcs, ready := fun s => (accOf s (t.d.toNat % 4)).isSome = true ∧ ready s
    next := fun s => onAcc s (t.d.toNat % 4) (f s) }

/-- A feedback write of an accumulator is under way (R271). -/
def writingBack (s : State) (j : Nat) : Bool :=
  match (s.tile s.cur.who.tile).job with
  | none => false
  | some x => x.feedback && decide (some x.acc = accOf s j)

/-- The array fires a rule of this accumulator (R273). -/
def firingAcc (s : State) (j : Nat) : Bool :=
  match (s.tile s.cur.who.tile).job with
  | none => false
  | some x => !x.feedback && decide (some x.acc = accOf s j)

/-- The array reads this slot (R252). -/
def firingSlot (s : State) (j : Nat) : Bool :=
  match (s.tile s.cur.who.tile).job with
  | none => false
  | some x => !x.feedback && (match slotOf s j with | none => false | some p => x.slots.contains p)

/-- The bytes of an element of a drain: FP32 and INT32 four, BF16 two, the 8-bit formats one (R273). -/
def elemBytes (f : Nat) : Nat := if f = 0 ∨ f = 4 then 4 else if f = 1 then 2 else 1

/-- MDRAIN (R273): the rule ends, the accumulator is busy, and the drain of M × N elements is queued. -/
def mdrainAct (t : LTail) : Act :=
  let j := t.d.toNat % 4
  let fmt := t.sub.toNat % 8
  let base := imageBase t
  let pitch := fun (s : State) =>
    if bitsOf (val s t.srcB.loc) 0 20 = 0 then (accAt s j).rule.n * elemBytes fmt else bitsOf (val s t.srcB.loc) 0 20
  let addrs := fun (s : State) => (List.range ((accAt s j).rule.m * (accAt s j).rule.n)).map (fun e =>
    (base s + e / (accAt s j).rule.n * pitch s + e % (accAt s j).rule.n * elemBytes fmt) % 2 ^ 20)
  { mask := t.k.toNat, srcs := [t.srcA, t.srcB], memory := true
    touch := fun s => (addrs s).map (fun y => { pa := s.phys s.cur.who y, n := elemBytes fmt, store := true })
    ready := fun s => (accOf s j).isSome = true ∧ (4 ≤ fmt ↔ (accAt s j).int = true) ∧
      ((accAt s j).rule.m = 0 ∨ (accAt s j).rule.n = 0 ∨
        (base s % elemBytes fmt = 0 ∧ ((accAt s j).rule.m < 2 ∨ pitch s % elemBytes fmt = 0) ∧
          ∀ y ∈ addrs s, (s.localPhys s.cur.who y).isSome = true)) ∧
      firingAcc s j = false ∧ (accAt s j).busy = false
    next := fun s =>
      let r := (accAt s j).rule
      queued s (onAcc s j (fun x => { x with busy := true, rule := { x.rule with active := false, waiting := false } }))
        { id := 0, who := s.cur.who, crew := (s.strand s.cur.who).crewId.toNat, name := j, issued := s.now s.cur.who.tile, base := base s
          total := r.m * r.n * elemBytes fmt, pages := s.pagesOf s.cur.who (addrs s), kind := .drain ((accOf s j).getD 0) fmt r.m r.n (pitch s) } }

/-- The word of MSTAT.ACC (R275). -/
def accWord (x : Accum) : Word :=
  wordOf (fun i =>
    if i < 2 then ((match x.state with | .clear => 0 | .opened => 1 | .full => 2) : Nat).testBit i
    else if i = 2 then x.rule.active
    else if i = 3 then x.busy
    else if i = 4 then x.int
    else if i = 5 then x.rule.active && x.rule.ext.fb.isSome
    else if i = 6 then x.rule.active && x.rule.waiting
    else if i < 16 then false
    else if i < 32 then x.rule.count.testBit (i - 16)
    else if i < 48 then x.rule.kf.testBit (i - 32)
    else x.completions.testBit (i - 48))

/-- The word of MSTAT.OS (R275). -/
def slotWord (s : State) (p : Nat) : Word :=
  let x := (s.tile s.cur.who.tile).oslot p
  BitVec.ofNat 64 ((match x.state with | .empty => 0 | .filling => 1 | .full => 2) + (if x.sticky then 4 else 0) +
    (if (s.tile s.cur.who.tile).inUse p then 8 else 0) + x.format.getD 15 * 16 + min (s.outstanding s.cur.who.tile p) 255 * 256)

/-- The word of MSTAT.ARR (R275). -/
def arrayWord (y : Tile) : Word :=
  BitVec.ofNat 64 (y.lastFired + (match y.job with | some x => if x.feedback then 0 else 4 | none => 0) + y.firings % 2 ^ 32 * 2 ^ 32)

/-- MSTAT (R275): sub 0 an accumulator, 1 a slot, 2 the array. -/
def mstatAct (t : LTail) : Act :=
  let f := t.sub.toNat % 4
  { mask := t.k.toNat, dests := [t.dst]
    ready := fun s => (f = 0 → (accOf s t.a.toNat).isSome = true ∧ (accAt s t.a.toNat).rule.count < 65536 ∧
        (accAt s t.a.toNat).rule.kf < 65536 ∧ (accAt s t.a.toNat).completions < 65536) ∧
      (f = 1 → (slotOf s t.a.toNat).isSome = true)
    next := fun s => s.past.putScalar s.cur.who t.dst
      (if f = 0 then accWord (accAt s t.a.toNat) else if f = 1 then slotWord s ((slotOf s t.a.toNat).getD 0)
       else arrayWord (s.tile s.cur.who.tile)) }

/-- The instructions of the matrix family. -/
def matrixRule : Instr → Option Act
  | .mfill t => some (fillAct false t)
  | .mscl t => some (fillAct true t)
  | .mrule p t => some (mruleAct p t)
  | .mtag t => some (stageAct t [t.srcA] (fun s => ∀ i, i < 32 → bitsOf (val s t.srcA.loc) (2 * i) 2 ≠ 3)
      (fun s x => { x with stage := { x.stage with tags := val s t.srcA.loc } }))
  | .mrulxTags t => some (stageAct t [] (fun _ => True)
      (fun _ x => { x with stage := { x.stage with tagsOn := true, mask := some (t.sub.toNat / 8 % 16) } }))
  | .mrulxFill t => some (stageAct t [t.srcA] (fun _ => True)
      (fun s x => { x with stage := { x.stage with fill := (val s t.srcA.loc).setWidth 32 } }))
  | .mrulxFb t => some (stageAct t [] (fun _ => True)
      (fun _ x => { x with stage := { x.stage with fb := some (some (t.sub.toNat / 8 % 16), 3 + t.sub.toNat / 128 % 4) } }))
  | .mrulxNofb t => some (stageAct t [] (fun _ => True) (fun s x =>
      let ends := x.rule.active && x.rule.waiting && !writingBack s (t.d.toNat % 4)
      { x with
        stage := { x.stage with fb := none }
        rule := if x.rule.active then
            { x.rule with
              ext := { x.rule.ext with fb := none }, waiting := x.rule.waiting && writingBack s (t.d.toNat % 4), active := !ends }
          else x.rule }))
  | .mwait d => some
      { ready := fun s => (accOf s (d.toNat % 4)).isSome = true ∧ ((accAt s (d.toNat % 4)).state = .full ∨
          ∃ n, (s.strand s.cur.who).mwait = some n ∧ (accAt s (d.toNat % 4)).completions ≠ n)
        next := State.past }
  | .mwaitClr d => some
      { ready := fun s => (accOf s (d.toNat % 4)).isSome = true ∧ (accAt s (d.toNat % 4)).state = .clear ∧
          (accAt s (d.toNat % 4)).busy = false
        next := State.past }
  | .mdrain t => some (mdrainAct t)
  | .mclrAcc d => some
      { ready := fun s => (accOf s (d.toNat % 4)).isSome = true ∧ firingAcc s (d.toNat % 4) = false ∧ (accAt s (d.toNat % 4)).busy = false
        next := fun s => onAcc s (d.toNat % 4) (fun x =>
          { x with
            data := [], poison := [], state := .clear, stage := {}
            rule := { x.rule with active := false, waiting := false, m := 0, n := 0 } }) }
  | .mclrSlot d => some
      { ready := fun s => (slotOf s (d.toNat % 16)).isSome = true ∧ (slotAt s (d.toNat % 16)).state ≠ .filling ∧
          firingSlot s (d.toNat % 16) = false
        next := fun s => s.past.modTile s.cur.who.tile (fun y => y.modOs ((slotOf s (d.toNat % 16)).getD 0) (fun o =>
          { o with state := .empty, sticky := false, format := none, lastDone := false })) }
  | .mstat t => some (mstatAct t.toL)
  | .mstatL t => some (mstatAct t)
  | .mred t => some
      { ready := fun s => (accOf s (t.d.toNat % 4)).isSome = true ∧ (accAt s (t.d.toNat % 4)).state = .full ∧
          (accAt s (t.d.toNat % 4)).busy = false
        next := State.past }
  | _ => none

/-- MATRIX_CONFIG (R279). -/
def badConfig (reason index : Nat) (acc : Bool) (found expected : Nat := 0) : Cause :=
  { code := .matrixConfig
    info := BitVec.ofNat 64 (reason + index * 2 ^ 4 + (if acc then 2 ^ 8 else 0) + found * 2 ^ 16 + expected * 2 ^ 20) }

/-- A slot that is not held (R186). -/
def slotHeld (s : State) (j : Nat) : Option Cause := if (slotOf s j).isSome then none else some (unheld 1 j)

/-- An accumulator that is not held (R186). -/
def accHeld (s : State) (j : Nat) : Option Cause := if (accOf s j).isSome then none else some (unheld 2 j)

/-- The first role of another active rule of the tile, by accumulator, that names a slot for another format: that format (R257,
R263). -/
def otherRole (s : State) (acc : Option Nat) (slot format : Nat) : Option Nat :=
  ((s.tile s.cur.who.tile).ac.filter (fun e => e.2.rule.active && decide (some e.1 ≠ acc))).findSome? (fun e =>
    (e.2.rule.roles.find? (fun r => decide (r.1 = slot) && decide (r.2 ≠ format))).map (·.2))

/-- MFILL and MSCL, in the order of R257: reserved bits, the range, alignment and rights of the words, the slot's state, its format, the
roles of active rules. -/
def fillCause (side : Bool) (t : LTail) (s : State) : Option Cause :=
  let j := t.d.toNat % 16
  let d := val s t.srcB.loc
  let f := theFill side d
  let o := slotAt s j
  if (if side then bitsOf d 18 46 ≠ 0 else d.getLsbD 7 = true ∨ d.getLsbD 15 = true ∨ bitsOf d 22 42 ≠ 0 ∨ 8 ≤ bitsOf d 16 4) then
    some (badConfig 3 j false)
  else if (if side then 256 < f.first + f.count else 128 < f.first + f.count) then some (badConfig 5 j false)
  else ((wordsCause s (imageBase t s) (f.count * f.size / 8)).orElse (fun _ =>
    if o.state = .full ∧ (f.start = false ∨ o.sticky = true) then some (wrongState 1 j false)
    else if f.start = true ∧ o.state ≠ .empty then none
    else
      match f.format with
      | none => none
      | some x =>
        match o.format with
        | some y => if y = x then (otherRole s none ((slotOf s j).getD 16) x).map (fun y => badConfig 4 j false x y) else some (badConfig 10 j false x y)
        | none => (otherRole s none ((slotOf s j).getD 16) x).map (fun y => badConfig 4 j false x y)))

/-- MRULE, in the order of R263: reserved bits, M, N, one slot in two formats, the staged feedback, the formats of the named slots, an
active rule. -/
def ruleCause (p : Pair) (t : LTail) (s : State) : Option Cause :=
  let j := t.d.toNat % 4
  let a := t.sub.toNat % 16
  let b := t.sub.toNat / 16 % 16
  let c := val s t.srcA.loc
  let names := roleNames s p j a b
  if bitsOf c 15 1 ≠ 0 ∨ bitsOf c 35 29 ≠ 0 then some (badConfig 3 j true)
  else if (if p = .f4f4 then 64 else 128) < bitsOf c 0 8 then some (badConfig 1 j true)
  else if 64 < bitsOf c 8 7 then some (badConfig 2 j true)
  else if a = b ∧ (pairInfo p).fa ≠ (pairInfo p).fb then some (badConfig 8 a false)
  else
    (((accAt s j).stage.fb.bind (fun x =>
      if (pairInfo p).back = some x.2 then none else some (badConfig 4 j true x.2 ((pairInfo p).back.getD 0)))).orElse (fun _ =>
        names.findSome? (fun x => (slotAt s x.1).format.bind (fun f =>
          ((names.find? (fun y => decide (slotOf s y.1 = slotOf s x.1) && decide (y.2 ≠ f))).map (·.2)).orElse
            (fun _ => otherRole s (accOf s j) ((slotOf s x.1).getD 16) f) |>.map (fun y => badConfig 4 x.1 false f y))))).orElse (fun _ =>
      if (accAt s j).rule.active then some (wrongState 2 j true) else none)

/-- MDRAIN (R273): the format, then alignment and rights of the elements. -/
def drainCause (t : LTail) (s : State) : Option Cause :=
  let j := t.d.toNat % 4
  let fmt := t.sub.toNat % 8
  let r := (accAt s j).rule
  let x := imageBase t s
  let pitch := if bitsOf (val s t.srcB.loc) 0 20 = 0 then r.n * elemBytes fmt else bitsOf (val s t.srcB.loc) 0 20
  if decide (4 ≤ fmt) ≠ (accAt s j).int then some (badConfig 6 j true)
  else if r.m = 0 ∨ r.n = 0 then none
  else if x % elemBytes fmt ≠ 0 then some { code := .misaligned, info := whereAndHow x 1 }
  else if 2 ≤ r.m ∧ pitch % elemBytes fmt ≠ 0 then some { code := .misaligned, info := whereAndHow ((x + pitch) % 2 ^ 20) 1 }
  else
    (((List.range (r.m * r.n)).map (fun e => (x + e / r.n * pitch + e % r.n * elemBytes fmt) % 2 ^ 20)).filter
      (fun y => (s.localPhys s.cur.who y).isNone)).min?.map (fun y => { code := .accessDenied, info := whereAndHow y 1 })

/-- No firing and no request is under way on an accumulator that is not FULL: it never will be (R272, R278). -/
def neverFull (x : Accum) : Bool := decide (x.state ≠ .full) && !x.busy && !x.rule.active

/-- The traps of the matrix instructions of a strand that is fused in no gang (R186, R257, R263, R268, R272 to R275, R278, R279). -/
def matrixCause (i : Instr) (s : State) : Option Cause :=
  let acc := fun (d : BitVec 6) => accHeld s (d.toNat % 4)
  let never := fun (d : BitVec 6) => if neverFull (accAt s (d.toNat % 4)) then some (wrongState 4 (d.toNat % 4) true) else none
  let status := fun (t : LTail) => if t.sub.toNat % 4 = 0 then accHeld s t.a.toNat else if t.sub.toNat % 4 = 1 then slotHeld s t.a.toNat else none
  match i with
  | .mfill t => (slotHeld s (t.d.toNat % 16)).orElse (fun _ => fillCause false t s)
  | .mscl t => (slotHeld s (t.d.toNat % 16)).orElse (fun _ => fillCause true t s)
  | .mrule p t => ((acc t.d).orElse (fun _ => (roleNames s p (t.d.toNat % 4) (t.sub.toNat % 16) (t.sub.toNat / 16 % 16)).findSome?
      (fun x => slotHeld s x.1))).orElse (fun _ => ruleCause p t s)
  | .mtag t => (acc t.d).orElse (fun _ =>
      if (List.range 32).any (fun n => decide (bitsOf (val s t.srcA.loc) (2 * n) 2 = 3)) then some (badConfig 9 (t.d.toNat % 4) true) else none)
  | .mrulxTags t => acc t.d
  | .mrulxFill t => acc t.d
  | .mrulxFb t => acc t.d
  | .mrulxNofb t => acc t.d
  | .mwait d => (acc d).orElse (fun _ => if (s.strand s.cur.who).mwait.isNone then never d else none)
  | .mwaitClr d => acc d
  | .mdrain t => (acc t.d).orElse (fun _ => drainCause t s)
  | .mclrAcc d => acc d
  | .mclrSlot d => (slotHeld s (d.toNat % 16)).orElse (fun _ =>
      if (slotAt s (d.toNat % 16)).state = .filling then some (wrongState 3 (d.toNat % 16) false) else none)
  | .mstat t => status t.toL
  | .mstatL t => status t
  | .mred t => (acc t.d).orElse (fun _ => never t.d)
  | _ => none

/-- What the matrix instructions wait for: kind 8, with 16 and the name of a slot, or the name of an accumulator (R106, R257, R263, R272
to R274, R278); a first MWAIT keeps the completion count that it finds. -/
def matrixWait (i : Instr) (s u : State) (kind file index : Nat) : Prop :=
  kind = 8 ∧ file = 0 ∧
    match i with
    | .mfill t => u = s ∧ index = 16 + t.d.toNat % 16 ∧ (theFill false (val s t.srcB.loc)).start = true ∧ (slotAt s (t.d.toNat % 16)).state ≠ .empty
    | .mscl t => u = s ∧ index = 16 + t.d.toNat % 16 ∧ (theFill true (val s t.srcB.loc)).start = true ∧ (slotAt s (t.d.toNat % 16)).state ≠ .empty
    | .mrule _ t => u = s ∧ index = t.d.toNat % 4 ∧ (accAt s (t.d.toNat % 4)).busy = true
    | .mwait d =>
      let n := (s.strand s.cur.who).mwait.getD (accAt s (d.toNat % 4)).completions
      u = s.modStrand s.cur.who (fun x => { x with mwait := some n }) ∧ index = d.toNat % 4 ∧ (accAt s (d.toNat % 4)).state ≠ .full ∧
        (accAt s (d.toNat % 4)).completions = n
    | .mwaitClr d => u = s ∧ index = d.toNat % 4 ∧ ((accAt s (d.toNat % 4)).state ≠ .clear ∨ (accAt s (d.toNat % 4)).busy = true)
    | .mdrain t => u = s ∧ index = t.d.toNat % 4 ∧ (firingAcc s (t.d.toNat % 4) = true ∨ (accAt s (t.d.toNat % 4)).busy = true)
    | .mclrAcc d => u = s ∧ index = d.toNat % 4 ∧ (firingAcc s (d.toNat % 4) = true ∨ (accAt s (d.toNat % 4)).busy = true)
    | .mclrSlot d => u = s ∧ index = 16 + d.toNat % 16 ∧ firingSlot s (d.toNat % 16) = true
    | .mred t => u = s ∧ index = t.d.toNat % 4 ∧ ((accAt s (t.d.toNat % 4)).state ≠ .full ∨ (accAt s (t.d.toNat % 4)).busy = true)
    | _ => False

/-! ### Vectors (R132 to R157) -/

/-- Lane i of source n. -/
def ln (xs : List VWord) (n i : Nat) : Lane := (xs.getD n 0).extractLsb' (32 * i) 32

/-- A low part of a source: the mask that a k register gives. -/
def kOf (xs : List VWord) (n : Nat) : BitVec 32 := (xs.getD n 0).setWidth 32

/-- The lanes below n that a mask leaves on. -/
def onBelow (m : BitVec 32) (n : Nat) : List Nat := (List.range n).filter (fun i => m.getLsbD i)

/-- The strand has gone on, and has made its SR draws, one for each active lane (R121). -/
def drawn (s : State) (o : VecOp) : State :=
  if o.sr then s.past.modStrand s.cur.who (fun x => { x with rndSeed := drawState (onBelow (s.maskVal s.cur.who o.k) 32).length x.rndSeed })
  else s.past

/-- A vector instruction (R132 to R139): its sources are taken in order, its active lanes are written, its pointers take their
strides; a LONG one owes its register, inactive lanes keeping the old value. -/
def vecAct (o : VecOp) (long : Option (Nat × Nat)) : Act :=
  { vec := true, mask := o.k.toNat, srcs := o.srcs, dests := [o.dst], memory := o.memory
    units := fun s => o.units s s.cur.who, accs := fun s => o.accs s s.cur.who
    ready := fun s => o.fault s s.cur.who = none ∧
      s.dstPrivileged s.cur.who o.dst = false ∧
      ioWait (drawn s o) s.cur.who o.srcs (if long.isSome then .none else o.dst) (if long.isSome then 1 else 2) = none ∧
      (posted (o.srcs.map (·.loc) ++ [o.dst])).Nodup
    next := fun s =>
      let m := s.maskVal s.cur.who o.k
      let (xs, u) := takeVectors s (drawn s o) s.cur.who o.srcs
      match long with
      | none => (putVector s u s.cur.who o.dst (o.lanes xs m) (o.f s s.cur.who m xs)).bumps s.cur.who o.post
      | some (lo, hi) =>
        (u.bumps s.cur.who o.post).sendLong s.cur.who lo (some hi)
          (.long [.v (blend (o.lanes xs m) (o.f s s.cur.who m xs) (s.vector s.cur.who o.dst))]) (o.dst.ref s.cur.who).toList }

/-- A result lane by lane. -/
def each (k : BitVec 3) (srcs : List Src) (d : Loc) (f : List VWord → Nat → Lane) : VecOp :=
  { k := k, srcs := srcs, dst := d, f := fun _ _ _ xs => ofLanes (f xs) }

/-- An operation on the lanes of a and b. -/
def two32 (t : LTail) (f : Lane → Lane → Lane) : VecOp := each t.k [vSrcA t, vSrcB t] (vDst t) (fun xs i => f (ln xs 0 i) (ln xs 1 i))

/-- An operation on the lanes of a. -/
def one32 (t : LTail) (f : Lane → Lane) : VecOp := each t.k [vSrcA t] (vDst t) (fun xs i => f (ln xs 0 i))

/-- An operation that rounds by sub [2:0]; under mode 4 lane i rounds with the draw of its place among the active lanes (R118,
R121). -/
def rounds (t : LTail) (srcs : List Src) (f : Nat → Nat → Lane → Lane → Lane → Lane) : VecOp :=
  { k := t.k, srcs := srcs, dst := vDst t, sr := decide (t.sub.toNat % 8 = 4)
    f := fun s w m xs => ofLanes (fun i =>
      f (t.sub.toNat % 8) (if t.sub.toNat % 8 = 4 then drawNth (s.strand w).rndSeed (onBelow m i).length else 0) (ln xs 0 i) (ln xs 1 i) (ln xs 2 i)) }

/-- A comparison into a k register (R143). -/
def compares (t : LTail) (f : Lane → Lane → Bool) : VecOp :=
  { k := t.k, srcs := [vSrcA t, vSrcB t], dst := vDst t
    f := fun _ _ _ xs => BitVec.ofNat 1024 (((List.range 32).map (fun i => if f (ln xs 0 i) (ln xs 1 i) then 2 ^ i else 0)).sum) }

/-- The integer conditions of R79 on lanes. -/
def holds32 (code : Nat) (x y : Lane) : Bool :=
  match code with
  | 0 => decide (x = y)
  | 1 => decide (x ≠ y)
  | 2 => decide (x.toInt < y.toInt)
  | 3 => decide (y.toInt ≤ x.toInt)
  | 4 => decide (x.toNat < y.toNat)
  | _ => decide (y.toNat ≤ x.toNat)

/-- A sum or difference that wraps, or saturates to the signed or the unsigned range (R142). -/
def saturated (sub : Nat) (f : Int → Int → Int) (x y : Lane) : Lane :=
  if sub = 0 then BitVec.ofInt 32 (f x.toInt y.toInt)
  else if sub = 1 then BitVec.ofInt 32 (max (-2147483648) (min 2147483647 (f x.toInt y.toInt)))
  else BitVec.ofInt 32 (max 0 (min 4294967295 (f x.toNat y.toNat)))

/-- A product: low, high signed, high unsigned (R142). -/
def product32 (sub : Nat) (x y : Lane) : Lane :=
  if sub = 0 then BitVec.ofNat 32 (x.toNat * y.toNat)
  else if sub = 1 then BitVec.ofInt 32 (x.toInt * y.toInt / 4294967296)
  else BitVec.ofNat 32 (x.toNat * y.toNat / 4294967296)

/-- The smaller or larger of two integers (R142). -/
def pick32 (big unsigned : Bool) (x y : Lane) : Lane :=
  let less := if unsigned then decide (x.toNat < y.toNat) else decide (x.toInt < y.toInt)
  if big then (if less then y else x) else (if less then x else y)

/-- KOP by sub [2:0] (R146). -/
def kop32 (op : Nat) (x y : BitVec 32) : BitVec 32 :=
  match op with
  | 0 => x &&& y
  | 1 => x ||| y
  | 2 => x ^^^ y
  | 3 => x &&& ~~~y
  | 4 => ~~~x
  | _ => x

/-- KCNT: how many bits are set, the lowest, the highest; 32 where there is none (R146). -/
def kcnt32 (op : Nat) (x : BitVec 32) : Nat :=
  let l := onBelow x 32
  if op = 0 then l.length else if op = 1 then l.headD 32 else l.getLastD 32

/-- The low bits of the lanes of a, then those of b, one behind the other (R148). -/
def packs (width : Nat) (xs : List VWord) : VWord :=
  BitVec.ofNat 1024 (((List.range 64).map (fun j =>
    (ln xs (j / 32) (j % 32)).toNat % 2 ^ width * 2 ^ (width * j))).sum)

/-- Element j of a packed register, zero- or sign-extended (R148). -/
def unpacks (width : Nat) (signed : Bool) (xs : List VWord) (j : Nat) : Lane :=
  let v := (xs.getD 0 0).toNat / 2 ^ (width * j) % 2 ^ width
  if signed ∧ 2 ^ (width - 1) ≤ v then BitVec.ofInt 32 ((v : Int) - 2 ^ width) else BitVec.ofNat 32 v

/-- Neighbours are combined, five times over 32 values (R151). -/
def treeOf (op : Lane → Lane → Lane) : Nat → List Lane → List Lane
  | 0, l => l
  | n + 1, l => treeOf op n ((List.range (l.length / 2)).map (fun i => op (l.getD (2 * i) 0) (l.getD (2 * i + 1) 0)))

/-- The values of the active lanes below n, in lane order. -/
def valuesOn (m : BitVec 32) (xs : List VWord) (n : Nat) : List Lane := (onBelow m n).map (ln xs 0)

/-- The extreme value of FP32 lanes: the first NaN, quietened, where there is one (R151). -/
def extreme (big : Bool) : List Lane → Lane
  | [] => 0
  | x :: r => match (x :: r).find? isNan with | some y => quieten y | none => r.foldl (fpick big false) x

/-- A reduction over the active lanes (R151). -/
def reduces (t : LTail) (f : BitVec 32 → List VWord → Lane) : VecOp :=
  { k := t.k, srcs := [vSrcA t], dst := vDst t, f := fun _ _ m xs => ofLanes (fun _ => f m xs) }

/-- A running result: what it is before the first active lane, and how the first value and each further one enter (R152). -/
def running (before : Lane) (first : Lane → Lane) (step : Lane → Lane → Lane) : List Lane → Lane
  | [] => before
  | x :: r => r.foldl step (first x)

/-- VSCAN: sum, integer sum, maximum, integer maximum (R152). -/
def scans (t : LTail) (m : BitVec 32) (xs : List VWord) (i : Nat) : Lane :=
  let l := valuesOn m xs (if t.sub.getLsbD 4 then i else i + 1)
  let quiet := fun (x : Lane) => if isNan x then quieten x else x
  match t.sub.toNat / 4 % 4 with
  | 0 => running 0 quiet (fadd false (t.sub.toNat % 4) 0) l
  | 1 => running 0 id (· + ·) l
  | 2 => running 0xFF800000 quiet (fpick true false) l
  | _ => running 0x80000000 id (pick32 true false) l

/-- Lane i stands before lane j in the ranking of VTOPK: it is larger, or equal and lower; every NaN is below all numbers (R153). -/
def ranksBefore (xs : List VWord) (i j : Nat) : Bool :=
  let r := fun (n : Nat) => if isNan (ln xs 0 n) then (-1099511627776 : Int) else rank32 (ln xs 0 n)
  decide (r j < r i) || (decide (r i = r j) && decide (i < j))

/-- The active lane of rank n. -/
def ranked (m : BitVec 32) (xs : List VWord) (n : Nat) : Option Nat :=
  (onBelow m 32).find? (fun j => decide (((onBelow m 32).filter (fun i => ranksBefore xs i j)).length = n))

/-- The lane number that VROT, VEXTR and VINS take: from lane 0 of b, or the immediate (R154). -/
def laneIndex (t : LWTail) (xs : List VWord) : Nat :=
  match t with
  | .l _ => (ln xs 1 0).toNat % 32
  | .w t => t.imm.toNat % 32

/-- Their sources. -/
def indexSrcs : LWTail → List Src
  | .l t => [vSrcA t, vSrcB t]
  | .w t => [{ loc := vLoc t.fa t.a, trap := t.ta, items := 2 }]

/-- Their destination. -/
def indexDst : LWTail → Loc
  | .l t => vDst t
  | .w t => .v t.d.toNat

/-- The format of VQNT: E4M3, E5M2 or E2M1, and its largest finite value (R150). -/
def quantFormat (n : Nat) : Fmt × Lane :=
  if n = 0 then (e4m3, 0x43E00000) else if n = 1 then (e5m2, 0x47600000) else (e2m1, 0x40C00000)

/-- Whether VBCAST takes its value through a pointer (R154). -/
def castPointer : LWTail → Option (Nat × Bool)
  | .w _ => none
  | .l t => if t.fa = 1 then some (t.a.toNat % 8, !t.a.getLsbD 3) else none

/-- The vector instructions whose operands are registers, 128 bytes of scratchpad and queues; with a range of cycles those that are
LONG. -/
def vectorOp : Instr → Option (VecOp × Option (Nat × Nat))
  | .vmov t => some (one32 t.toL id, none)
  | .vmovL t => some (one32 t id, none)
  | .vbcast (.w t) => some (each t.k [] (.v t.d.toNat) (fun _ _ => t.imm), none)
  | .vbcast (.l t) =>
    if t.fa = 1 then none
    else some (each t.k [{ vSrcA t with items := 1 }] (vDst t) (fun xs _ => ln xs 0 (if t.fa = 0 then t.sub.toNat % 32 else 0)), none)
  | .vadd t => some (rounds t.toL [vSrcA t.toL, vSrcB t.toL] (fun mode r x y _ => fadd false mode r x y), none)
  | .vaddL t => some (rounds t [vSrcA t, vSrcB t] (fun mode r x y _ => fadd false mode r x y), none)
  | .vsub t => some (rounds t.toL [vSrcA t.toL, vSrcB t.toL] (fun mode r x y _ => fadd true mode r x y), none)
  | .vsubL t => some (rounds t [vSrcA t, vSrcB t] (fun mode r x y _ => fadd true mode r x y), none)
  | .vmul t => some (rounds t.toL [vSrcA t.toL, vSrcB t.toL] (fun mode r x y _ => fmul mode r x y), none)
  | .vmulL t => some (rounds t [vSrcA t, vSrcB t] (fun mode r x y _ => fmul mode r x y), none)
  | .vfma t => some (rounds t.toL [vSrcA t.toL, vSrcB t.toL, vSrcD t.toL] (ffma false false), none)
  | .vfmaL t => some (rounds t [vSrcA t, vSrcB t, vSrcD t] (ffma false false), none)
  | .vfms t => some (rounds t.toL [vSrcA t.toL, vSrcB t.toL, vSrcD t.toL] (ffma false true), none)
  | .vfmsL t => some (rounds t [vSrcA t, vSrcB t, vSrcD t] (ffma false true), none)
  | .vfnma t => some (rounds t.toL [vSrcA t.toL, vSrcB t.toL, vSrcD t.toL] (ffma true false), none)
  | .vfnmaL t => some (rounds t [vSrcA t, vSrcB t, vSrcD t] (ffma true false), none)
  | .vmin t => some (two32 t.toL (fpick false (t.toL.sub.getLsbD 0)), none)
  | .vminL t => some (two32 t (fpick false (t.sub.getLsbD 0)), none)
  | .vmax t => some (two32 t.toL (fpick true (t.toL.sub.getLsbD 0)), none)
  | .vmaxL t => some (two32 t (fpick true (t.sub.getLsbD 0)), none)
  | .vabs t => some (one32 t.toL (fun x => BitVec.ofNat 32 (x.toNat % 2 ^ 31)), none)
  | .vabsL t => some (one32 t (fun x => BitVec.ofNat 32 (x.toNat % 2 ^ 31)), none)
  | .vneg t => some (one32 t.toL (fun x => x + 0x80000000), none)
  | .vnegL t => some (one32 t (fun x => x + 0x80000000), none)
  | .vdiv t => some (rounds t.toL [vSrcA t.toL, vSrcB t.toL] (fun mode r x y _ => fdiv mode r x y), some (20, 28))
  | .vdivL t => some (rounds t [vSrcA t, vSrcB t] (fun mode r x y _ => fdiv mode r x y), some (20, 28))
  | .vsqrt t => some (rounds t.toL [vSrcA t.toL] (fun mode r x _ _ => fsqrt mode r x), some (20, 28))
  | .vsqrtL t => some (rounds t [vSrcA t] (fun mode r x _ _ => fsqrt mode r x), some (20, 28))
  | .vrcp t => some (one32 t.toL frcp, some (16, 24))
  | .vrcpL t => some (one32 t frcp, some (16, 24))
  | .vrsq t => some (one32 t.toL frsq, some (16, 24))
  | .vrsqL t => some (one32 t frsq, some (16, 24))
  | .vexp2 t => some (one32 t.toL fexp2, some (16, 24))
  | .vexp2L t => some (one32 t fexp2, some (16, 24))
  | .vlog2 t => some (one32 t.toL flog2, some (16, 24))
  | .vlog2L t => some (one32 t flog2, some (16, 24))
  | .vtanh t => some (one32 t.toL ftanh, some (16, 24))
  | .vtanhL t => some (one32 t ftanh, some (16, 24))
  | .vcmp t => some (compares t (fcond (t.sub.toNat % 8)), none)
  | .vclass t => some (one32 t fclass, none)
  | .vselk t => some ({ k := 0, srcs := [vSrcA t, vSrcB t, { loc := .k t.k.toNat }], dst := vDst t,
                        f := fun _ _ _ xs => ofLanes (fun i => if (kOf xs 2).getLsbD i then ln xs 0 i else ln xs 1 i) }, none)
  | .viadd t => some (two32 t.toL (saturated t.toL.sub.toNat (· + ·)), none)
  | .viaddL t => some (two32 t (saturated t.sub.toNat (· + ·)), none)
  | .visub t => some (two32 t.toL (saturated t.toL.sub.toNat (· - ·)), none)
  | .visubL t => some (two32 t (saturated t.sub.toNat (· - ·)), none)
  | .vimul t => some (two32 t.toL (product32 t.toL.sub.toNat), none)
  | .vimulL t => some (two32 t (product32 t.sub.toNat), none)
  | .vimad t => some (each t.toL.k [vSrcA t.toL, vSrcB t.toL, vSrcD t.toL] (vDst t.toL)
      (fun xs i => BitVec.ofNat 32 ((ln xs 0 i).toNat * (ln xs 1 i).toNat + (ln xs 2 i).toNat)), none)
  | .vimadL t => some (each t.k [vSrcA t, vSrcB t, vSrcD t] (vDst t)
      (fun xs i => BitVec.ofNat 32 ((ln xs 0 i).toNat * (ln xs 1 i).toNat + (ln xs 2 i).toNat)), none)
  | .vand t => some (two32 t.toL (fun x y => x &&& y), none)
  | .vandL t => some (two32 t (fun x y => x &&& y), none)
  | .vor t => some (two32 t.toL (fun x y => x ||| y), none)
  | .vorL t => some (two32 t (fun x y => x ||| y), none)
  | .vxor t => some (two32 t.toL (fun x y => x ^^^ y), none)
  | .vxorL t => some (two32 t (fun x y => x ^^^ y), none)
  | .vshl t => some (two32 t.toL (fun x y => BitVec.ofNat 32 (x.toNat * 2 ^ (y.toNat % 32))), none)
  | .vshlL t => some (two32 t (fun x y => BitVec.ofNat 32 (x.toNat * 2 ^ (y.toNat % 32))), none)
  | .vshr t => some (two32 t.toL (fun x y => BitVec.ofNat 32 (x.toNat / 2 ^ (y.toNat % 32))), none)
  | .vshrL t => some (two32 t (fun x y => BitVec.ofNat 32 (x.toNat / 2 ^ (y.toNat % 32))), none)
  | .vsar t => some (two32 t.toL (fun x y => BitVec.ofInt 32 (x.toInt / 2 ^ (y.toNat % 32))), none)
  | .vsarL t => some (two32 t (fun x y => BitVec.ofInt 32 (x.toInt / 2 ^ (y.toNat % 32))), none)
  | .vimin t => some (two32 t.toL (pick32 false (t.toL.sub.getLsbD 0)), none)
  | .viminL t => some (two32 t (pick32 false (t.sub.getLsbD 0)), none)
  | .vimax t => some (two32 t.toL (pick32 true (t.toL.sub.getLsbD 0)), none)
  | .vimaxL t => some (two32 t (pick32 true (t.sub.getLsbD 0)), none)
  | .vicmp t => some (compares t (holds32 (t.sub.toNat % 8)), none)
  | .vcvt t => some (rounds t [vSrcA t] (fun mode r x _ _ =>
      if t.sub.toNat / 128 % 4 = 0 then narrow (t.sub.toNat / 8 % 16) mode r x else widen (t.sub.toNat / 8 % 16) mode r x), none)
  | .vqnt t =>
    if t.sub.getLsbD 5 then
      some (one32 t (fun x => BitVec.ofNat 32 (s20Of (fdiv 0 0 x (quantFormat (t.sub.toNat / 8 % 4)).2))), none)
    else
      some (rounds t [vSrcA t, vSrcB t] (fun mode r x y _ =>
        BitVec.ofNat 32 (quantise (quantFormat (t.sub.toNat / 8 % 4)).1 mode r x (y.toNat % 2 ^ 20))), none)
  | .vqxmax t => some (one32 t (fun x => if isNan x then quieten x else x), some (12, 24))
  | .vpack t => some ({ k := 0, srcs := [vSrcA t, vSrcB t], dst := vDst t,
                        f := fun _ _ _ xs => packs (16 / 2 ^ (t.sub.toNat % 4)) xs }, none)
  | .vunpk t => some (each 0 [vSrcA t] (vDst t)
      (fun xs i => unpacks (16 / 2 ^ (t.sub.toNat % 4)) (t.sub.getLsbD 2) xs (32 * (t.sub.toNat / 8 % 8) + i)), none)
  | .vrsum t => some (reduces t.toL (fun m xs =>
      (treeOf (fadd false (t.toL.sub.toNat % 4) 0) 5 ((List.range 32).map (fun i => if m.getLsbD i then ln xs 0 i else 0x80000000))).headD 0), none)
  | .vrsumL t => some (reduces t (fun m xs =>
      if t.sub.getLsbD 2 then BitVec.ofNat 32 ((valuesOn m xs 32).map (·.toNat)).sum
      else (treeOf (fadd false (t.sub.toNat % 4) 0) 5 ((List.range 32).map (fun i => if m.getLsbD i then ln xs 0 i else 0x80000000))).headD 0), none)
  | .vrmax t => some (reduces t.toL (fun m xs => extreme true (valuesOn m xs 32)), none)
  | .vrmaxL t => some (reduces t (fun m xs =>
      if t.sub.getLsbD 2 then running 0 id (pick32 true (t.sub.getLsbD 3)) (valuesOn m xs 32) else extreme true (valuesOn m xs 32)), none)
  | .vrmin t => some (reduces t.toL (fun m xs => extreme false (valuesOn m xs 32)), none)
  | .vrminL t => some (reduces t (fun m xs =>
      if t.sub.getLsbD 2 then running 0 id (pick32 false (t.sub.getLsbD 3)) (valuesOn m xs 32) else extreme false (valuesOn m xs 32)), none)
  | .vscan t => some ({ k := t.k, srcs := [vSrcA t], dst := vDst t, f := fun _ _ m xs => ofLanes (scans t m xs) }, none)
  | .vtopk t =>
    let idx := t.sub.getLsbD 0
    some ({ k := t.k, srcs := if idx then [vSrcA t, vSrcB t] else [vSrcA t], dst := vDst t, lanes := fun _ _ => BitVec.allOnes 32,
            f := fun _ _ m xs => ofLanes (fun j =>
              match ranked m xs j with
              | some i => ln xs (if idx then 1 else 0) i
              | none => if idx then 0xFFFFFFFF else 0x7FC00000) }, none)
  | .vshuf t => some ({ each t.k [vSrcA t, vSrcB t] (vDst t)
      (fun xs i => if (ln xs 1 i).getLsbD 5 then 0 else ln xs 0 ((ln xs 1 i).toNat % 32)) with cross := true }, none)
  | .vrot t => some ({ each (maskOf t) (indexSrcs t) (indexDst t) (fun xs i => ln xs 0 ((i + laneIndex t xs) % 32)) with cross := true }, none)
  | .vextr t => some ({ each (maskOf t) (indexSrcs t) (indexDst t) (fun xs _ => ln xs 0 (laneIndex t xs)) with cross := true }, none)
  | .vins t => some ({ each (maskOf t) (indexSrcs t) (indexDst t) (fun xs _ => ln xs 0 0) with
                       cross := true, only := some (laneIndex t), lanes := fun xs m => m &&& BitVec.ofNat 32 (2 ^ laneIndex t xs) }, none)
  | .vcomp t => some ({ k := t.k, srcs := [vSrcA t], dst := vDst t, lanes := fun _ _ => BitVec.allOnes 32,
                        f := fun _ _ m xs => ofLanes (fun i => (valuesOn m xs 32).getD i 0) }, none)
  | .vexpd t => some ({ k := t.k, srcs := [vSrcA t], dst := vDst t, cross := true,
                        f := fun _ _ m xs => ofLanes (fun i => ln xs 0 (onBelow m i).length) }, none)
  | .kop t => some ({ k := t.k, srcs := if t.sub.toNat % 8 < 4 then [vSrcA t, vSrcB t] else [vSrcA t], dst := vDst t,
                      f := fun _ _ _ xs => (kop32 (t.sub.toNat % 8) (kOf xs 0) (kOf xs 1)).setWidth 1024 }, none)
  | .kcnt t => some (each t.k [vSrcA t] (vDst t) (fun xs _ => BitVec.ofNat 32 (kcnt32 t.sub.toNat (kOf xs 0))), none)
  | .viota t => some (each t.toL.k [] (vDst t.toL) (fun _ i => BitVec.ofNat 32 i), none)
  | .viotaL t => some (each t.k [] (vDst t) (fun _ i => BitVec.ofNat 32 i), none)
  | .viotaK t => some (each t.k [vSrcA t] (vDst t) (fun xs i => BitVec.ofNat 32 (onBelow (kOf xs 0) i).length), none)
  | _ => none

/-- A vector load or store whose words are its own (R155 to R157): sources, then the words, then the pointer. -/
def vecMemAct (o : VecMem) : Act :=
  { vec := true, mask := o.k.toNat, srcs := { loc := .m o.base false } :: o.srcs, dests := [o.dst, .m o.base o.post], memory := true
    units := fun s => (s.wordUnits s.cur.who (o.whole s s.cur.who) ++ o.op.units s s.cur.who).dedup
    accs := fun s => s.wordAccs s.cur.who o.store (o.moved s s.cur.who) ++ o.op.accs s s.cur.who
    ready := fun s => o.fault s s.cur.who = none ∧
      s.dstPrivileged s.cur.who o.dst = false ∧ ioWait s.past s.cur.who o.srcs o.dst 2 = none ∧
      (posted (o.srcs.map (·.loc) ++ [o.dst, .m o.base o.post])).Nodup
    next := fun s =>
      let m := s.maskVal s.cur.who o.k
      let (xs, u) := takeVectors s s.past s.cur.who o.srcs
      let u := if o.store then o.stored s u s.cur.who m xs
        else putVector s u s.cur.who o.dst m (ofLanes (fun i =>
          match o.word s s.cur.who xs i with | some x => BitVec.ofNat 32 (s.readLocal s.cur.who x 4) | none => 0))
      let u := u.bumps s.cur.who o.op.post
      if o.post then u.modStrand s.cur.who (fun y => y.writeP o.base
        { y.readP o.base with addr := BitVec.ofInt 20 ((y.readP o.base).addr.toNat + o.step * (y.readP o.base).stride.toInt) }) else u }

/-- The address in a pointer register. -/
def pointerAt (s : State) (w : Who) (i : Nat) : Nat := ((s.strand w).readP i).addr.toNat

/-- The words of n lanes from an offset behind a pointer, modulo 2^20 (R155). -/
def blockWords (k : BitVec 3) (base : Nat) (post store : Bool) (srcs : List Src) (d : Loc) (size off : Nat) : VecMem :=
  { k := k, base := base, post := post, store := store, srcs := srcs, dst := d
    span := fun s w _ _ => (List.range (32 / 2 ^ size)).map (fun i => (pointerAt s w base + off + 4 * i) % 2 ^ 20)
    word := fun s w _ i => if i < 32 / 2 ^ size then some ((pointerAt s w base + off + 4 * i) % 2 ^ 20) else none }

/-- The offset of the W form, sign-extended, modulo 2^20. -/
def blockOffset (t : WTail) : Nat := (t.imm.toInt % 2 ^ 20).toNat

/-- The word of lane j of VGATH and VSCAT: the pointer's address plus the low 20 bits of the lane's offset (R157). -/
def offsetWord (s : State) (w : Who) (i : Nat) (xs : List VWord) (n j : Nat) : Nat := (pointerAt s w i + (ln xs n j).toNat % 2 ^ 20) % 2 ^ 20

/-- VLD, VST, VLDS, VGATH, VSCAT, and VBCAST through a pointer (R154 to R157). -/
def vectorMem : Instr → Option VecMem
  | .vbcast (.l t) =>
    if t.fa = 1 then some
      { k := t.k, base := t.a.toNat % 8, post := !t.a.getLsbD 3, store := false, srcs := [], dst := vDst t
        span := fun s w _ _ => [pointerAt s w (t.a.toNat % 8)], word := fun s w _ _ => some (pointerAt s w (t.a.toNat % 8)) }
    else none
  | .vld (.l t) => some (blockWords t.k (t.a.toNat % 8) (!t.a.getLsbD 3) false [] (.v t.d.toNat) (t.sub.toNat % 4) 0)
  | .vld (.w t) => some (blockWords t.k (t.a.toNat % 8) false false [] (.v t.d.toNat) (t.sub.toNat % 4) (blockOffset t))
  | .vst (.l t) => some (blockWords t.k (t.d.toNat % 8) (!t.d.getLsbD 3) true [vSrcA t] .none (t.sub.toNat % 4) 0)
  | .vst (.w t) => some (blockWords t.k (t.d.toNat % 8) false true [{ loc := vLoc t.fa t.a, trap := t.ta, items := 2 }] .none
      (t.sub.toNat % 4) (blockOffset t))
  | .vlds t =>
    let i := t.a.toNat % 8
    let word := fun (s : State) (w : Who) (j : Nat) =>
      (((pointerAt s w i : Int) + j * ((s.strand w).readP i).stride.toInt) % 2 ^ 20).toNat
    some { k := t.k, base := i, post := !t.a.getLsbD 3, step := 32, store := false, srcs := [], dst := vDst t
           span := fun s w m _ => (onBelow m 32).map (word s w), word := fun s w _ j => some (word s w j) }
  | .vgath t => some
      { k := t.k, base := t.a.toNat % 8, post := false, store := false, srcs := [vSrcB t], dst := vDst t
        span := fun s w m xs => (onBelow m 32).map (offsetWord s w (t.a.toNat % 8) xs 0)
        word := fun s w xs j => some (offsetWord s w (t.a.toNat % 8) xs 0 j) }
  | .vscat t => some
      { k := t.k, base := t.d.toNat % 8, post := false, store := true, srcs := [vSrcA t, vSrcB t], dst := .none
        span := fun s w m xs => (onBelow m 32).map (offsetWord s w (t.d.toNat % 8) xs 1)
        word := fun s w xs j => some (offsetWord s w (t.d.toNat % 8) xs 1 j) }
  | _ => none

/-- The vector instructions. -/
def vectorRule (i : Instr) : Option Act :=
  match vectorOp i, vectorMem i with
  | some (o, l), _ => some (vecAct o l)
  | none, some o => some (vecMemAct o)
  | none, none => none

/-! ### What arrives (R43, R163, R169 to R176, R211, R226, R240 to R247) -/

/-- A flight is under way and may take effect. -/
def lands (s : State) (id : Nat) (x : Flight) : Prop := s.flight id = some x ∧ s.ready x = true

/-- A flight has ended. -/
def without (s : State) (id : Nat) : State := { s with flights := s.flights.filter (fun y => y.id != id) }

/-- A flight has turned into the answer to its issuer, on its way from the next cycle on (R43). -/
def answered (s : State) (x : Flight) (v : Word) : State :=
  { s with flights := s.flights.map (fun y =>
      if y.id = x.id then { y with kind := .long [.s v], lo := (s.die y.die).clock + 1, hi := none } else y) }

/-- An answer that no register waits for is dropped. -/
def replied (s : State) (x : Flight) (v : Word) : State := if x.dests = [] then without s x.id else answered s x v

/-- The issuer may reach the registers of a tile: a system strand those of any, a user strand only where its partition runs
(R176). -/
def mayTouch (s : State) (w : Who) (t : Nat) : Prop :=
  (s.strand w).system = true ∨ ((s.tile t).place ≠ none ∧ (s.tile t).part = (s.tile w.tile).part)

/-- The register is in a block that its strand does not hold (R47). -/
def absent (s : State) (r : RegRef) : Prop := ∃ w, r.who = some w ∧ (s.strand w).lacks r.loc = true

/-- The register's bank is drowsy (R48). -/
def drowses (s : State) (r : RegRef) : Prop := ∃ w, r.who = some w ∧ (s.strand w).drowsy = true

/-- The bank of a strand's registers wakes within 64 cycles (R48). -/
def wakened (s : State) (w : Who) : State :=
  s.modStrand w (fun y => { y with waking := some (y.waking.getD (s.now w.tile + 64)) })

/-- RFILL may write: a register that is not PENDING, with .e only an EMPTY one; g0 and k0 discard it (R37, R43). -/
def open_ (s : State) (e : Bool) (r : RegRef) : Prop :=
  (∃ w, r = .g w 0 ∨ r = .k w 0) ∨ (if e then s.regFill r = .empty else s.regFill r ≠ .pending)

/-- One of some waiting fills is for the register and may write: it came earlier, and goes first (R45). -/
def outrun (s : State) (ids : List Nat) (r : RegRef) : Prop :=
  ∃ i ∈ ids, ∃ y e v, s.flight i = some y ∧ y.kind = .rfill e r v ∧ open_ s e r

/-- A fill waits no more. -/
def unwaiting (s : State) (r : RegRef) (id : Nat) : State :=
  s.modTile r.tile (fun y => { y with fills := y.fills.filter (· != id) })

/-- An access to a strand's register keeps its banks awake (R48). -/
def touching (s : State) (r : RegRef) : State :=
  match r.who with
  | some w => s.modStrand w (fun y => { y with touched := s.now w.tile })
  | none => s

/-- The fill is written and OK goes back. -/
def filled (s : State) (x : Flight) (r : RegRef) (v : Word) : State :=
  answered ((touching (unwaiting s r x.id) r).fillReg r (.s v)) x 0

/-- A request waits its turn at the banks of units of a tile (R163). -/
def atBank (s : State) (id t : Nat) (units : List Nat) : State :=
  s.modTile t (fun y => { y with bankQ := y.bankQ ++ units.map (fun u => { flight := id, unit := u }) })

/-- It waits there already. -/
def waitsAtBank (s : State) (id t : Nat) : Prop := ∃ r ∈ (s.tile t).bankQ, r.flight = id ∧ r.engine = none

/-- The state in which an access that is a release at DIE scope is performed (R308, R314, R321). -/
def released (s : State) (x : Flight) (rel : Option Nat) : State := s.showDie x.owner (rel.getD 0) x.id

/-- What an access does in HBM, and what it answers (R169, R171). -/
def inHbm (s : State) (x : Flight) (pa n : Nat) : AccOp → Option State
  | .load u => some (replied s x (extendBytes u n (s.hbmRead pa n)))
  | .store v => some (without (s.hbmWrite pa v n) x.id)
  | .amo o v => some (replied (s.hbmWrite pa (amoOp o (BitVec.ofNat (8 * n) (s.hbmRead pa n)) (BitVec.ofNat (8 * n) v)).toNat n) x
      (extendBytes false n (s.hbmRead pa n)))
  | .cas e v => some (replied (if s.hbmRead pa n = e % 256 ^ n then s.hbmWrite pa v n else s) x (BitVec.ofNat 64 (s.hbmRead pa n)))
  | _ => none

/-- The event by which an access is performed. -/
noncomputable def accessEvent (id : Nat) (op : AccOp) (tile : Bool) : Instr :=
  match op, tile with
  | .load _, _ => .globalAccessPerformed id
  | .amo _ _, _ => .globalAccessPerformed id
  | .cas _ _, _ => .globalAccessPerformed id
  | .store _, false => .postedStorePerformed id
  | _, _ => .remoteStoreArrival id

/-- The bytes of a tile as a little-endian number. -/
def numAt (y : Tile) (pa n : Nat) : Nat := leNat (fun i => y.look (pa + i)) n

/-- The number that an access puts into the n bytes that it addresses at a tile, if it writes them (R166, R169, R171). -/
def putsAt (y : Tile) (pa n : Nat) : AccOp → Option Nat
  | .store v => some v
  | .stf v => some v
  | .ste v => if y.tag pa then none else some v
  | .amo o v => some (amoOp o (BitVec.ofNat (8 * n) (numAt y pa n)) (BitVec.ofNat (8 * n) v)).toNat
  | .cas e v => if numAt y pa n = e % 256 ^ n then some v else none
  | _ => none

/-- The tag of the word that it leaves (R166, R167). -/
def tagsAs (y : Tile) (pa : Nat) : AccOp → Bool
  | .stf _ => true
  | .ste _ => true
  | .tagF => true
  | .tagE => false
  | _ => y.tag pa

/-- What it answers (R166, R167, R169, R171). -/
def answersWith (y : Tile) (pa n : Nat) : AccOp → Option Word
  | .load u => some (extendBytes u n (numAt y pa n))
  | .amo _ _ => some (extendBytes false n (numAt y pa n))
  | .cas _ _ => some (BitVec.ofNat 64 (numAt y pa n))
  | .ste _ => some (if y.tag pa then 0 else 1)
  | .tagQ => some (if y.tag pa then 1 else 0)
  | _ => none

/-! ### Tickets at their source (R235 to R248) -/

/-- Nothing waits at any source for an entry. -/
def noWaiters (s : State) : Prop := ∀ e ∈ s.sources, e.2.waiting = []

/-- A source answers a presented ticket (R241). -/
def ticketSays (s : State) (t : Word) (part : Option Nat) : Nat :=
  let e := s.entry (ticketSource t) (ticketEntry t)
  if t.toNat % 2 ^ 16 ≠ s.ticketCheck (ticketSource t) (t.toNat / 2 ^ 16) then 3
  else if ∃ p, part = some p ∧ p ≠ t.toNat / 2 ^ 16 % 2 ^ 6 then 3
  else if e.st = .free ∨ e.gen ≠ t.extractLsb' 22 16 then 1
  else if e.st = .redeeming then 2
  else 0

/-- The data of an entry sets out to its redeem (R237, R243). -/
def delivering (s : State) (r : Nat) (data : List Byte) : State :=
  match s.flight r with
  | some y =>
    match y.kind with
    | .redeem t w p h _ _ => s.setKind r (.redeem t w p h (some ((List.range w).map (fun i => data.getD i 0))) 0)
    | _ => s
  | none => s

/-- A ticket is presented to its entry in this fabric cycle (R238). -/
def seenNow (s : State) (t : Word) : State :=
  if (s.entry (ticketSource t) (ticketEntry t)).st = .free then s
  else s.modEntry (ticketSource t) (ticketEntry t) (fun e => { e with seen := some ((s.die (sourceDie (ticketSource t))).clock / 2) })

/-- A delivery has ended: its entry is FREE, if it is still the one that the redeem took (R237). -/
def freed (t : Word) (redeem : Nat) (s : State) : State :=
  let e := s.entry (ticketSource t) (ticketEntry t)
  if e.st = .redeeming ∧ e.gen = t.extractLsb' 22 16 ∧ e.redeem = some redeem then s.freeEntry (ticketSource t) (ticketEntry t) else s

/-- The words of a fetch, little-endian. -/
def fetched (ws : List (Option Nat)) : List Byte := ws.flatMap (fun w => leBytes (w.getD 0) 8)

/-- The entries of a source are listed once each. -/
def onceEach (s : State) (key : Nat) : Prop := ((s.source key).entries.map (·.1)).Nodup

/-! ### Items at a port (R211, R218) -/

/-- A port that holds endpoint e of a queue. -/
def endsAt (s : State) (q e t pn : Nat) (p : Port) : Prop :=
  (s.queue q).eps[e]? = some (t, pn) ∧ s.port t pn = some p ∧ p.consumer = true ∧ p.queue = q

/-- No other copy of a push is under way. -/
def lastCopy (s : State) (id q push : Nat) : Prop :=
  ∀ y ∈ s.flights, y.id ≠ id → ∀ e is f o, y.kind ≠ .item q e push is f o

/-- The state in which what a strand sent to a queue is stored: with a queue of DIE scope a release (R308, R314, R321). -/
def handed (s : State) (x : Flight) (q : Nat) : State := s.showDie x.owner (s.queue q).scope x.id

/-- An item is stored behind the others with the port's ordinal, which goes on modulo 2^48 (R211). -/
def stored (p : Port) (x : Item) : Port :=
  { p with items := p.items ++ [{ ordinal := p.ordinal, item := x }], ordinal := (p.ordinal + 1) % 2 ^ 48, moved := true
           channel := if p.recording.isSome then p.channel ++ [{ ordinal := p.ordinal, item := x }] else p.channel }

/-! ### Waits that last too long (R18, R106) -/

/-- WAIT_TIMEOUT of a strand whose park, at this slot of it, has lasted more than WAIT_LIMIT. -/
def lateCause (s : State) (w : Who) : Option Cause :=
  match (s.strand w).park with
  | none => none
  | some p =>
    if (s.strand w).running = true ∧ (s.strand w).dying = false ∧ (s.strand w).waitLimit ≠ 0 ∧ (s.strand w).waitLimit.toNat < p.cycles + 8 then
      some { code := .waitTimeout, info := BitVec.ofNat 64 (p.kind + 2 ^ 4 * p.file + 2 ^ 6 * p.index + 2 ^ 32 * min (p.cycles + 8) 0xFFFFFFFF) }
    else none

/-! ### Engines (R282 to R294) -/

/-- The engine is idle and this command stands first in its buffer. -/
def popsCommand (s : State) (e : Nat) (c : Cmd) (r : List Cmd) : Prop := (s.engine e).run = none ∧ (s.engine e).buf = c :: r

/-- The command an engine performs, at a phase. -/
def atPhase (s : State) (e : Nat) (r : Run) (p : EPhase) : Prop := (s.engine e).run = some r ∧ r.phase = p

/-- An engine's command goes to a phase. -/
def toPhase (s : State) (e : Nat) (p : EPhase) : State := s.modRun e (fun x => { x with phase := p })

/-- The engine's command has ended, and from this cycle on it can pop the next (R282). -/
def engineIdle (s : State) (e : Nat) : State := s.modEngine e (fun x => { x with run := none, since := (s.die (e / 64)).clock })

/-- The engine's last piece of work was an element (R282). -/
def worked (s : State) (e : Nat) : State := s.modEngine e (fun x => { x with strip := false })

/-- A command that has been popped, at a phase. -/
def begun (s : State) (e : Nat) (c : Cmd) (r : List Cmd) (p : EPhase) : State :=
  s.modEngine e (fun x => { x with buf := r, run := some { cmd := c, busy := (s.die (e / 64)).clock, phase := p } })

/-- The phase with which a command that writes into no operand slot begins: it runs, or it ends with a status (R282, R290, R299). -/
def firstPhase (s : State) (c : Cmd) : EPhase :=
  if c.aborted then .ended 7 0
  else if s.malformed c then .ended 1 0
  else if c.dkind = 2 ∧ s.loadState (bitsOf (c.word 2) 34 2) = false then .ended 6 (c.word 2).toNat
  else if c.dkind = 4 ∧ ((s.queue (bitsOf (c.word 2) 0 16)).state = 0 ∨ (s.queue (bitsOf (c.word 2) 0 16)).type ≠ 0 ∨
      (s.queue (bitsOf (c.word 2) 0 16)).part ≠ c.part) then .ended 2 (c.word 2).toNat
  else .run

/-- The data of an element: the fill word over and over, or the source's bytes as it has read them, perhaps before the element's turn
(R286, R319). -/
def elementBytes (s : State) (r : Run) (a : Access) : List Byte :=
  if r.cmd.op = 1 then (List.range r.cmd.size).map (fun j => (r.cmd.word 3).extractLsb' (8 * (j % 8)) 8)
  else
    match r.ahead.find? (fun x => x.1 == r.next) with
    | some x => x.2
    | none => s.seenOf r a.src

/-- What a write of a command puts at its place: its data, or for a reduce-add the sums of the old values and its data (R286). -/
def landedBytes (s : State) (c : Cmd) (p : Piece) (data : List Byte) : List Byte :=
  if 4 ≤ c.op then raddBytes c.op (s.spotBytes p) (data.take p.n) else data.take p.n

/-- The engine moves n bytes, 64 bytes in a fabric cycle, which is two cycles (R282). -/
def moving (s : State) (e n : Nat) : State := s.modEngine e (fun x => { x with free := (s.die (e / 64)).clock + 2 * ((n + 63) / 64) })

/-- Where a write of a command that was formed for physical address pa of a tile lands: a local address and a mirror view are translated
as the write is performed (R177, R285; assumption 32). -/
def landingAt (s : State) (c : Cmd) (p : Piece) (t pa : Nat) : Nat :=
  if c.dkind = 1 then (if c.aborted = true then pa else (s.cmdPhys c p.addr).getD pa)
  else if 2 ^ 56 ≤ p.addr then (s.tile t).winPhys (p.addr % 2 ^ 20)
  else pa

/-- A write of n bytes of a command is performed: the barrier counts it, or with rel at DEVICE scope or above the command owes it until
it ends (R288, R296, R321). -/
def counted (s : State) (e : Nat) (c : Cmd) (n : Nat) : State :=
  if (c.word 0).getLsbD 28 = true ∧ 4 ≤ bitsOf (c.word 0) 29 3 then s.modRun e (fun x => { x with owed := x.owed + n }) else s.countWrite c n

/-- What a command owes its barrier is counted at its end. -/
def paid (s : State) (r : Run) : State := if r.owed = 0 then s else s.countWrite r.cmd r.owed

/-- The command goes on to its next element: 64 bytes in a fabric cycle, which is two cycles (R282). -/
def nextElement (r : Run) (now n : Nat) : Run :=
  { r with next := r.next + 1, item := 0, served := [], busy := now + 2 * ((n + 63) / 64)
           ahead := r.ahead.filter (fun e => decide (r.next < e.1))
           phase := if r.cmd.total ≤ r.next + 1 then .ended 0 0 else .run }

/-- A ring whose slot at the write index has been filled (R294). -/
def ringFilled (g : Ring) (x : Word) : Ring := { g with slots := FMap.set g.slots g.wr x, wr := (g.wr + 1) % g.size }

/-- A tile whose ring n is replaced. -/
def withRing (n : Nat) (g : Ring) (y : Tile) : Tile := { y with rings := FMap.set y.rings n g }

/-- Engines that wait for a bank of a weight store run again (R300). -/
def afterRefresh (d b : Nat) (l : FMap Engine) : FMap Engine :=
  l.map (fun x => (x.1, { x.2 with run := x.2.run.map (fun y => if y.phase = .refresh d b then { y with phase := .run } else y) }))

/-! ### The array at work (R258, R264 to R273) -/

/-- The physical slot on which the feedback of a rule waits and which is EMPTY (R264, R271). -/
def writesBack (y : Tile) (j p : Nat) : Prop :=
  ∃ f, (y.accum j).rule.ext.fb = some (some p, f) ∧ (y.accum j).rule.active = true ∧ (y.accum j).rule.waiting = true ∧
    (y.oslot p).state = .empty

/-- A rule is ready: it is active and does not wait, firings are left, its accumulator takes them, and the slots that it reads are
FULL (R264). -/
def firesOn (y : Tile) (j : Nat) (slots : List Nat) : Prop :=
  let x := y.accum j
  x.rule.active = true ∧ x.rule.waiting = false ∧ x.rule.count < x.rule.kf ∧ x.state ≠ .full ∧ x.busy = false ∧
    x.rule.operands = some slots ∧ ∀ p ∈ slots, (y.oslot p).state = .full

/-- The slot as a completed request on it leaves it (R258, R289). -/
def settledSlot (s : State) (tile p : Nat) (last : Bool) : OSlot :=
  let o := { (s.tile tile).oslot p with lastDone := ((s.tile tile).oslot p).lastDone || last }
  if s.outstanding tile p ≠ 0 ∨ o.state ≠ .filling then o
  else if o.spoiled then { o with state := .empty, format := none, lastDone := false, spoiled := false }
  else if o.lastDone then { o with state := .full, lastDone := false }
  else o

/-- The element of an accumulator's region that a firing computes (R265, R270). -/
def computes (x : Accum) (mask : OSlot) (i c : Nat) : Prop :=
  i < x.rule.m ∧ c < x.rule.n ∧
    (x.rule.ext.tagsOn = false ∨ bitsOf x.rule.ext.tags (8 * (i / 16) + 2 * (c / 16)) 2 = 0 ∨
      (bitsOf x.rule.ext.tags (8 * (i / 16) + 2 * (c / 16)) 2 = 2 ∧ (mask.byte (8 * i + c / 8)).testBit (c % 8) = true))

/-- A drain of accumulator j has written its last byte and was issued in an earlier cycle, so that it ends now (R273). -/
def drainOver (s : State) (n : Nat) (r : PathReq) (j : Nat) : Prop :=
  ∃ f m k pitch, r.kind = .drain j f m k pitch ∧ r.total ≤ r.moved ∧ r.issued < s.now n

/-! ### Placements and the translation unit (R346 to R372) -/

/-- A placement's state goes to DRAINING with a cause (R346, R418). -/
def drained (s : State) (a cause : Nat) : State :=
  ((s.setPlaceState a 4).modRcb a 16 (fun x => putField x 16 8 cause)).modNode a (fun n => { n with cause := some (BitVec.ofNat 8 cause) })

/-- The first position of a placement all of whose tiles are free is this one (R348). -/
def firstPosition (s : State) (a : Nat) (ts : List Nat) : Prop :=
  ∃ before after, s.positions a = before ++ ts :: after ∧ (∀ t ∈ ts, (s.tile t).place = none ∧ s.reserved t = false) ∧
    ∀ us ∈ before, ∃ t ∈ us, (s.tile t).place ≠ none ∨ s.reserved t = true

/-- A cut of a kind on which the supervisor may act now: every placement is FROZEN (R359, R385). -/
def cutReached (s : State) (rgn kind : Nat) (c : Cut) : Prop :=
  s.cutOf rgn = some c ∧ c.kind = kind ∧ c.acting = false ∧ c.done = false ∧ s.allFrozen rgn = true

/-- A region's cut is replaced. -/
def withCut (s : State) (rgn : Nat) (c : Option Cut) : State := s.modNode rgn (fun n => { n with cut := c })

/-- A command stands first at a die's translation unit: its code, partition and words (R368). -/
def commandFirst (s : State) (d : Nat) (x : Item) (r : List Item) : Prop := (s.die d).commands = x :: r

/-- The unit has taken it. -/
def commandTaken (s : State) (d : Nat) (r : List Item) : State := s.modDie d (fun y => { y with commands := r })

/-- The merge entry of a page of a partition at a die (R365). -/
def mergeOf (s : State) (d part page : Nat) : Option Merge := (s.die d).merge.find? (fun m => m.part == part && m.page == page)

/-- The merge entry of a page is gone (R368). -/
def unmerged (s : State) (d part page : Nat) : State :=
  s.modDie d (fun y => { y with merge := y.merge.filter (fun m => !(m.part == part && m.page == page)) })

/-- A request stands first at a port of the allocator of a die (R372). -/
def asksAllocator (s : State) (d q : Nat) (x : Stored) (pn : Nat) : Prop :=
  ∃ p r, (s.tile (512 * d + 2)).ports.find? (fun e => e.2.queue == q && e.2.consumer) = some (pn, p) ∧ p.items = x :: r ∧
    (s.die d).allocQueue = some q

/-- A service answers through an OPEN queue: one item, no tag, no fence (R371, R372). -/
def serviceSays (s : State) (t q : Nat) (words : List Word) : State :=
  s.post ⟨t, 0⟩ q [{ header := itemHeader words.length 0 false 0, words := words }]

/-- The uncorrectable errors of a tile's data and registers: the structure, the tile and the place of each (R407, R408). -/
def errorsAt (s : State) (t : Nat) : List (Nat × Nat × Nat) :=
  ((s.tile t).poison.filter (·.2)).map (fun e => (1, t, e.1)) ++ ((s.tile t).badRegs t).map (fun r => (0, t, r.errKey))

/-- A system strand of a service, which runs (R7, R371): its program is not in the spec, and none of its bundles issues (assumption 109). -/
def serviceStrand (i : Nat) : Strand := { Strand.fresh i with system := true, running := true, startAt := 2 ^ 64 }

/-- The CONSUMER ports of the service on the reserved tile in column c, on the service queues of its die from q on (assumption 69). -/
def servicePorts (q c : Nat) : FMap Port :=
  let l : List Nat := [[4], [0, 1, 5], [3], [6, 7]].getD c []
  (List.range l.length).map (fun i => (i, { queue := (q + l.getD i 0) % 65536, consumer := true }))

/-! ### The host (R374 to R380, R398) -/

/-- A request of a session that the device accepts: its tag holds, and its sequence is above all accepted ones, or new within the 64
below the highest (R374 to R376). -/
def admitted (s : State) (f : Frame) (k : Session) : Prop :=
  s.takes f = true ∧ FMap.find s.sessions f.session = some k ∧ (∀ e ∈ k.replies, e.1 ≠ f.seq) ∧
    (∀ h, k.highest = some h → h < f.seq ∨ (h ≤ f.seq + 64 ∧ f.seq ∉ k.accepted))

/-- The request behind an accepted frame. -/
def request (f : Frame) : Req := ⟨f.session, f.seq, f⟩

/-- The session has accepted the sequence: it is remembered while it is within the 64 below the highest, and so are the last 64 replies
(R376). -/
def noticed (s : State) (f : Frame) (k : Session) : State :=
  { s with sessions := FMap.set s.sessions f.session { k with
      highest := some (max (k.highest.getD 0) f.seq)
      accepted := (k.accepted ++ [f.seq]).filter (fun n => decide (max (k.highest.getD 0) f.seq ≤ n + 64))
      replies := (k.replies ++ [(f.seq, none)]).drop (k.replies.length + 1 - 64) } }

/-- The device answers a request: the reply goes out, and is kept for a repeat (R376). -/
def sendsReply (u : State) (f : Frame) (payload : List Byte) : State :=
  match FMap.find u.sessions f.session with
  | none => u
  | some k =>
    let b := replyFrame ((FMap.find k.versions 0).getD (0, 0)) f.op f.part f.session f.seq (some k.keyOut) payload
    { u with sessions := FMap.set u.sessions f.session { k with replies := k.replies.map (fun e => if e.1 = f.seq then (e.1, some b) else e) }
             outbox := u.outbox ++ [.datagram b] }

/-- The answer is a status alone. -/
def replyCode (u : State) (f : Frame) (status : Nat) : State := sendsReply u f [BitVec.ofNat 8 status]

/-- The host operations with the frame, the operation code and the selector (R377, R398, R404). -/
def hostEvent : Instr → Option (Frame × Nat × Option Nat)
  | .hostRegister f => some (f, 2, none)
  | .hostUnregister f => some (f, 3, none)
  | .hostPlace f => some (f, 4, none)
  | .hostBeacon f => some (f, 5, none)
  | .hostRead f => some (f, 6, none)
  | .hostWrite f => some (f, 7, none)
  | .hostPush f => some (f, 8, none)
  | .hostAttest f => some (f, 11, none)
  | .hostEnd f => some (f, 12, none)
  | .hostRegionCap f => some (f, 13, none)
  | .hostMeasure f => some (f, 14, none)
  | .healthStatus f => some (f, 9, some 1)
  | .healthSetCap f => some (f, 9, some 2)
  | .healthLantern f => some (f, 9, some 3)
  | .traceCounters f => some (f, 10, some 1)
  | .traceDigest f => some (f, 10, some 2)
  | .traceMask f => some (f, 10, some 3)
  | .traceRecords f => some (f, 10, some 4)
  | .tracePeriscope f => some (f, 10, some 5)
  | .traceBreak f => some (f, 10, some 6)
  | .traceClaim f => some (f, 10, some 7)
  | .traceRelease f => some (f, 10, some 8)
  | .traceWatch f => some (f, 10, some 9)
  | .traceStatus f => some (f, 10, some 10)
  | .traceResume f => some (f, 10, some 11)
  | _ => none

/-- The frame carries the operation of the event. -/
def carries (f : Frame) (op : Nat) (selector : Option Nat) : Prop := f.op = op ∧ ∀ n, selector = some n → f.selector = n

/-- An accepted request of an operation in the session's own partition. -/
def asks (s : State) (f : Frame) (k : Session) (op : Nat) (selector : Option Nat) : Prop :=
  admitted s f k ∧ k.part = f.part ∧ carries f op selector

/-- A region control block that a request may name: it exists, and its policy field does not hold 3 (R340). -/
def named (s : State) (a : Nat) : Prop := FMap.find s.nodes a ≠ none ∧ bitsOf (s.rcb a 0) 15 2 ≠ 3

/-- A number of n bytes at an offset of the payload. -/
def field (f : Frame) (off n : Nat) : Nat := leAt f.payload off n

/-- A range of whole pages below 2^56 (R366, R377). -/
def wholeRange (base len : Nat) : Prop := base % 2 ^ 21 = 0 ∧ len % 2 ^ 21 = 0 ∧ 0 < len ∧ base + len ≤ 2 ^ 56

/-- A request waits (R377). -/
def waitsFor (u : State) (f : Frame) (k : CallKind) : State :=
  { u with calls := FMap.set u.calls u.nextId { session := f.session, seq := f.seq, frame := f, kind := k }, nextId := u.nextId + 1 }

/-- A READ or WRITE waits for its bytes in tile windows: one request goes to the bank of every unit of 64 bytes (R163, R377). -/
def windowed (u t : State) (f : Frame) (ts : List Target) : Prop :=
  (∃ c, FMap.find t.calls u.nextId = some c ∧ c.session = f.session ∧ c.seq = f.seq ∧ c.kind = .window ts []) ∧
    t.outbox = u.outbox ∧ SameMemory u t ∧
    ∀ n off, (∃ x ∈ t.flights, x.kind = .host u.nextId n (64 * off)) ↔
      (∃ x ∈ u.flights, x.kind = .host u.nextId n (64 * off)) ∨ ∃ o, Target.tile n o ∈ ts ∧ o / 64 = off

/-- A TRACE request on a tile of the session's partition, the unused fields zero (R378, R398). -/
def traces (s : State) (f : Frame) (k : Session) (selector : Nat) (port first second : Bool) : Prop :=
  asks s f k 10 (some selector) ∧ f.payload.length = 24 ∧ zeroAt f.payload 1 2 = true ∧ (port = false → zeroAt f.payload 4 5 = true) ∧
    zeroAt f.payload 5 8 = true ∧ (first = false → zeroAt f.payload 8 16 = true) ∧ (second = false → zeroAt f.payload 16 24 = true) ∧
    validTile (field f 2 2) = true ∧ (f.part = 0 ∨ ((s.tile (field f 2 2)).place ≠ none ∧ (s.tile (field f 2 2)).part = f.part))

/-! ### Power, resets, boot and links (R10, R399 to R417) -/

/-- The average of the last ten samples of module power, in mW (R400). -/
def average (l : List Nat) : Nat := if l.length = 0 then 0 else l.sum / l.length

/-- A die above 105 °C, or held since it was and not yet below 100 °C (R400). -/
def tooHot (s : State) (temps : List Int) (d : Nat) : Prop :=
  105 < temps.getD d 0 ∨ (d ∈ s.power.hot ∧ 100 ≤ temps.getD d 0)

/-- The throttle step that the power control has set for a die; it governs from the next fabric cycle on (R399). -/
def stepOf (s : State) (d : Nat) : Nat := ((s.die d).pwrDue.getD (s.die d).pwrStep).toNat

/-- A count that stays at its maximum (R402). -/
def raised (x : Word) (n : Nat) : Word := if x.toNat + n < 2 ^ 64 then x + BitVec.ofNat 64 n else 2 ^ 64 - 1

/-- Nothing is under way: every strand, register and engine is as after reset (R10, R50); the strands of the reserved tiles are
system strands that run once the package has booted (R7). -/
def AsAfterReset (t : State) : Prop :=
  (∀ w, t.strand w = if t.boot.booted = true ∧ w.tile < 2048 ∧ w.tile % 512 < 4 ∧ w.strand < 8 then serviceStrand w.strand
    else Strand.fresh w.strand) ∧ (∀ n, (t.tile n).c = [] ∧ (t.tile n).scratch = [] ∧ (t.tile n).place = none) ∧ (∀ e, t.engine e = {}) ∧
    t.flights = [] ∧ t.sessions = [] ∧ t.calls = [] ∧ ∀ d, (t.die d).clock = 0

/-- The ROM and stage 1 verify what they load, the system programs and the management firmware: the digest of stage 1 (R409). -/
def verified (d : List Byte) : Prop :=
  stage1Digest = some d ∧ Config.stage1Verifies (shake256 Config.systemImage 64) (Config.firmwareSignature 2) = true ∧
    Config.stage1Verifies (shake256 Config.managementFirmware 64) (Config.firmwareSignature 3) = true

/-- An entry of the tree topology table: its package, its parent and its zero bits (R411). -/
def node (l : List Word) (i : Nat) : Nat × Nat × Nat :=
  (bitsOf (l.getD i 0) 0 10, bitsOf (l.getD i 0) 16 10, bitsOf (l.getD i 0) 10 6 + bitsOf (l.getD i 0) 26 38)

/-- A rejected entry (R411). -/
def rejectedEntry (l : List Word) (i : Nat) : Prop :=
  (i ≠ 0 ∧ i ≤ (node l i).2.1) ∨ (i = 0 ∧ (node l i).2.1 ≠ 0) ∨ (node l i).2.2 ≠ 0 ∨ ∃ j, j < i ∧ (node l j).1 = (node l i).1

/-- What a reset of a root package leads to: it boots where all that it loads verifies and entry 0 of its table stands, every entry of the
table checked before it serves one; else it stays unbooted, and the boot status array says why (R409 to R412). -/
def rootBoots (s t : State) : Prop :=
  let l := s.boot.topology
  (∀ d, verified d → (l = [] ∨ ¬ rejectedEntry l 0) → t.boot.booted = true ∧
    (∀ i, i < l.length → (rejectedEntry l i → FMap.find t.boot.status i = some 1) ∧ (¬ rejectedEntry l i → FMap.find t.boot.status i = none)) ∧
    ∀ c, c < 2 → t.measure c 0 = shake256 (List.replicate 64 0 ++ d) 64 ∧
      t.measure c 1 = shake256 (List.replicate 64 0 ++ shake256 Config.systemImage 64) 64 ∧
      t.measure c 2 = (if l = [] then List.replicate 64 0 else shake256 (List.replicate 64 0 ++ shake256 (topologyBytes l) 64) 64) ∧
      ∀ i, 3 ≤ i → i < 8 → t.measure c i = List.replicate 64 0) ∧
  (∀ d, verified d → l ≠ [] → rejectedEntry l 0 → t.boot.booted = false ∧
    ∀ i, i < l.length → (rejectedEntry l i → FMap.find t.boot.status i = some 1) ∧ (¬ rejectedEntry l i → FMap.find t.boot.status i = some 2)) ∧
  ((∀ d, ¬ verified d) → t.boot.booted = false ∧ FMap.find t.boot.status 0 = some 3)

/-- A port of a Limis link. -/
def linkAt (t : State) (port : Nat) : Link := FMap.get {} t.links port

/-- An access to another package that loses its last path waits from now on; one that had none before goes on waiting, and one that has
another goes on (R414). -/
def losesPaths (s t : State) : Prop :=
  t.flights.map (·.id) = s.flights.map (·.id) ∧
    ∀ id x b p n va o r c, s.flight id = some x → x.kind = .access b (.peer p n va) o r c →
      t.flight id = some (if s.hasPath p = true ∧ t.hasPath p = false then { x with lo := max x.lo (s.die x.die).clock } else x)

/-- A reduction group of the all-reduce units. -/
def withGroup (s : State) (group : Nat) (g : Group) : State := { s with groups := FMap.set s.groups group g }

/-! ### Frames (R14, R43) -/

/-- What a rule's instructions may change of the tile and of the strand besides registers, scratchpad and queue ports: these functions
leave it out. -/
structure Keeps where
  tile : Tile → Tile := id
  strand : Strand → Strand := id
  all : State → State := id
  /-- Of another strand of the tile. -/
  other : State → Who → Strand → Strand := fun _ _ x => x
  /-- The pages of scratchpad that it may give away. -/
  page : State → Nat → Prop := fun _ _ => False
  /-- The registers that it says something about, before and after. -/
  looks : State → State → Loc → Prop := fun _ _ _ => True

/-- A tile without its strands, common registers, ports, bytes, tags, poison marks, trace counts and bank times. -/
def bare (y : Tile) : Tile :=
  { y with strands := [], c := [], ports := [], scratch := [], tags := [], poison := [], traceNext := 0, traceLen := 0, bankHeld := [] }

/-- A strand without its registers, the slots that bank conflicts consume, and what it has sent to other dies. -/
def plainStrand (x : Strand) : Strand := { x with g := [], k := [], v := [], p := [], skip := 0, circuits := [], dieShown := 0 }

/-- The bytes that an act stores to. -/
def Act.writesAt (r : Act) (s : State) (a : Nat) : Prop := ∃ x ∈ r.accs s, x.store = true ∧ x.pa ≤ a ∧ a < x.pa + x.n

/-- It stores to a page of records: that changes ports, crews, rings and barriers (R159, assumption 73). -/
def Act.storesRecord (r : Act) (s : State) : Prop := ∃ a, r.writesAt s a ∧ recordPage a = true

/-- Against the state in which the strand has only gone on: HBM, weight stores, other tiles and strands, and everything else outside
the tile stay but for what is in flight; in the tile every register that is no destination stays, every byte that is not stored to
(the trace ring in pages 14 and 15 apart, where a queue is an operand), every tag outside the units accessed, and what the rule keeps;
pages that it gives away apart. -/
def Stays (k : Keeps) (r : Act) (s t : State) : Prop :=
  let u := s.onward
  let w := s.cur.who
  let y := t.tile w.tile
  k.all { t with tiles := u.tiles, flights := u.flights, nextId := u.nextId } = k.all u ∧
    (∀ n, n ≠ w.tile → t.tile n = u.tile n) ∧ (¬ r.storesRecord s → k.tile (bare y) = k.tile (bare (u.tile w.tile))) ∧
    (k.tile (bare y)).setRecords ⟨[], [], [], []⟩ = (k.tile (bare (u.tile w.tile))).setRecords ⟨[], [], [], []⟩ ∧
    (∀ x, x ≠ w → k.other s x (t.strand x) = k.other s x (u.strand x)) ∧ k.strand (plainStrand (t.strand w)) = k.strand (plainStrand (u.strand w)) ∧
    (∀ i, .g i ∉ r.dests → k.looks s t (.g i) → (t.strand w).readG i = (u.strand w).readG i) ∧
    (∀ i, .k i ∉ r.dests → k.looks s t (.k i) → (t.strand w).readK i = (u.strand w).readK i) ∧
    (∀ i, .v i ∉ r.dests → k.looks s t (.v i) → (t.strand w).readV i = (u.strand w).readV i) ∧
    (∀ i, .p i ∉ r.dests → (∀ b, .m i b ∉ r.operands) → (t.strand w).readP i = (u.strand w).readP i) ∧
    (∀ i, .c i ∉ r.dests → FMap.get {} y.c i = FMap.get {} (u.tile w.tile).c i) ∧
    (∀ a, ¬ r.writesAt s a → ¬ k.page s (a / 4096) → (a < 57344 ∨ 65536 ≤ a ∨ ∀ l ∈ r.operands, l.isQ = false) → y.byte a = (u.tile w.tile).byte a) ∧
    ∀ a, a / 64 ∉ r.units s → ¬ k.page s (a / 4096) → y.tag a = (u.tile w.tile).tag a

/-- Every instruction of a table that completes keeps the frame of its rule. -/
def Framed (k : Keeps) (table : Instr → Option Act) : Prop :=
  ∀ (i : Instr) (r : Act) (s t : State), table i = some r → i.wf = true → s.Alone → r.Due s → exec i s = .next t → Stays k r s t

/-- A register that the strand holds before and after (R39). -/
def heldThroughout (s t : State) (l : Loc) : Prop := (s.strand s.cur.who).lacks l = false ∧ (t.strand s.cur.who).lacks l = false

/-- A register that is in stream mode neither before nor after (R297). -/
def neverStream (s t : State) (l : Loc) : Prop :=
  ∀ i, l = .v i → FMap.find (s.strand s.cur.who).streams i = none ∧ FMap.find (t.strand s.cur.who).streams i = none

/-- A table without one of its instructions. -/
def butFor (x : Instr → Bool) (table : Instr → Option Act) (i : Instr) : Option Act := if x i then none else table i

/-- BPASS freezes its tile, SPAWN starts another strand, STOP ends its own. -/
def alone : Instr → Bool
  | .bpass => true
  | .spawn _ => true
  | .stop => true
  | _ => false

/-- The instructions that acquire or release units, and those by which a strand leaves its crew. -/
def gives : Instr → Bool
  | .acq _ => true
  | .acqm _ => true
  | .rel _ => true
  | .relm _ => true
  | .cjoinX _ => true
  | .cjoinXL _ => true
  | _ => false

/-- CJOIN.X, by which a crew may retire. -/
def leaves : Instr → Bool
  | .cjoinX _ => true
  | .cjoinXL _ => true
  | _ => false

/-- The mask by which REL and RELM name units of a class: extension blocks 0 and 1, pages 2 (R194). -/
def releaseMask (i : Instr) (s : State) (c : Nat) : Nat :=
  match i with
  | .rel t => if c = classOf t then countVal t s else 0
  | .relm t => bitsOf (val s t.srcA.loc) (if c = 0 then 0 else if c = 1 then 3 else 6) (if c = 2 then 32 else 3)
  | _ => 0

/-- A page that a crew instruction may give away: one that nobody holds, one that it releases, and where the crew may retire, every page
of the crew; the content of a page that returns to the pool is lost, and a page that is granted reads zero with its tags FULL (R160,
R186, R193, R194, R196). -/
def pageGiven (i : Instr) (s : State) (p : Nat) : Prop :=
  gives i = true ∧ (p ∈ (s.tile s.cur.who.tile).freeUnits 2 ∨
    ∃ c, myCrew s = some c ∧ ∃ e ∈ c.window, e.2 = p ∧ (leaves i = true ∨ (releaseMask i s 2).testBit e.1 = true))

/-- A register of an extension block that the instruction releases. -/
def inReleased (i : Instr) (s : State) : Loc → Prop
  | .g n => 16 ≤ n ∧ (leaves i = true ∨ (releaseMask i s 0).testBit ((n - 16) / 16) = true)
  | .v n => 8 ≤ n ∧ (leaves i = true ∨ (releaseMask i s 1).testBit ((n - 8) / 8) = true)
  | _ => False

/-- What a grant may change of a strand that waits for it (R193). -/
def ungranted (x : Strand) : Strand := { x with xg := [], xv := [], g := [], v := [], streams := [], granted := none }

/-- What a crew instruction may change: a grant or a release concerns the crews, the waiters, the operand slots and accumulators and the
units in quarantine, the strands that wait, and pages; a crew that retires also loses its requests and commands (R181 to R198). -/
def crewKeeps (i : Instr) : Keeps :=
  if gives i then
    { tile := fun y => { y with crews := [], waiters := [], quar := [], os := [], ac := [], path := if leaves i then [] else y.path
                                job := if leaves i then none else y.job }
      all := fun a => { a with choices := 0, engines := if leaves i then [] else a.engines }
      strand := fun x => { ungranted x with crewId := if leaves i then 0 else x.crewId }
      other := fun s x y => if x.tile = s.cur.who.tile ∧ ∃ e ∈ (s.tile x.tile).waiters, e.strand = x.strand then ungranted y else y
      page := pageGiven i
      looks := fun s t l => heldThroughout s t l ∧ ¬ inReleased i s l }
  else
    { tile := fun y => { y with crews := [] }
      strand := fun x => { x with crewId := 0, gangShape := 0, fuse := none, matched := false } }

/-! ### Encoding, fetching and stepping (R9, R19 to R28, R53 to R58) -/

/-- The bits of a head: three more units of 16 bits at most follow it (R20). -/
def bitsOfHead (h : BitVec 16) : Nat := 16 * (1 + h.toNat / 2 ^ 14)

/-- Head and tail as the opcode table numbers them: the head above its tail. -/
def tableNumber (h : BitVec 16) (t : BitVec 48) : Nat := h.toNat * 2 ^ (bitsOfHead h - 16) + t.toNat % 2 ^ (bitsOfHead h - 16)

/-- In the current cycle of tile t its strand w may issue a bundle: it runs, has started, waits for no bank to wake, holds nothing in issue,
is fused in no gang, owes no slot, has no strike to take, and neither its tile is frozen nor its line in error (R9, R11 to R13, R90,
R244, R396, R408). -/
def mayIssue (s : State) (w : Who) : Prop :=
  let x := s.strand w
  x.running = true ∧ x.dying = false ∧ x.waking = none ∧ x.startAt ≤ s.now w.tile ∧ x.hold = none ∧ x.fused = false ∧ x.skip = 0 ∧
    x.struck = [] ∧ (s.tile w.tile).frozen = false ∧ x.ip.toNat / 64 ∉ (s.tile w.tile).badLines

/-- The IP of the bundle behind one that starts at an IP: in the same line, or at the start of the next one (R27). -/
def behind (ip : Word) (next : Option Nat) : Word :=
  match next with
  | some h => BitVec.ofNat 64 (ip.toNat / 64 * 64 + 2 * h)
  | none => BitVec.ofNat 64 (ip.toNat / 64 * 64 + 64)

/-- The state in which strand w issues a bundle. -/
def issuing (s : State) (w : Who) (b : Bundle) : State :=
  { s with cur := { who := w, ip := (s.strand w).ip, next := behind (s.strand w).ip b.next, sWord := Machine.wordOf b.scalar, vWord := Machine.wordOf b.vector } }

end Sys2Proof.Claims

open Sys2Proof Sys2Proof.Machine Sys2Proof.Claims

/-- The instructions whose sources and destinations are scalar registers or queues. -/
def Sys2Proof.Claims.scalarForm (i : Instr) : Option Act := (scalarRule i).orElse (fun _ => divisionRule i)

/-- Every register that an act names is held, and it pushes to no system queue at user level (R39, R67). -/
def Sys2Proof.Claims.Allowed (r : Act) (s : State) : Prop :=
  (∀ x ∈ r.srcs, (s.strand s.cur.who).lacks x.loc = false) ∧
    ∀ l ∈ r.dests, (s.strand s.cur.who).lacks l = false ∧ s.dstPrivileged s.cur.who l = false

/-! ### Scalar results, register changes and control -/

/-- R71 to R84, R93: SHORT scalar instructions write their results. R74: DIV and REM owe their results to their destinations. -/
def Obligations.ScalarResult : Prop :=
  (Completes scalarRule) ∧
  (Completes divisionRule)

/-- R43, R52, R76, R84, R93: MOV.E, the pointer instructions and SWR. That a common register that MOV.E empties shows its condition as a
written one does is the model's choice (assumption 113). -/
def Obligations.RegisterChange : Prop := Completes registerRule

/-- R86 to R91: transfers of control, taken and not taken, SPAWN and NOP. R90: SPAWN of a strand that runs parks with kind 13. -/
def Obligations.ControlResult : Prop :=
  Completes controlRule ∧
  Parks controlRule controlCause controlWait

/-- SHORT scalar instructions change nothing but their destination: against the state in which the strand has only gone on. -/
def Obligations.ScalarFrame : Prop :=
  ∀ (i : Instr) (r : Act) (s t : State) (d : Loc), scalarRule i = some r → i.wf = true → s.Alone → r.Due s → r.dests = [d] → exec i s = .next t →
    (r.plain → OnlyRegister s.onward t s.cur.who d) ∧ OnlyQueues s.onward t s.cur.who d r.operands

/-! ### Parks and traps of a bundle -/

/-- R16, R43: the first source that is EMPTY or PENDING and has no trap bit parks the strand with kind 1, and nothing else changes. R17:
a destination that is PENDING parks the writer with kind 10, whatever the result would be. R106: the kinds. -/
def Obligations.OperandParks : Prop :=
  (∀ (i : Instr) (r : Act) (s : State) (before after : List Src) (x : Src), scalarForm i = some r → i.wf = true → s.Alone → r.On s →
      Allowed r s → r.srcs = before ++ x :: after → (∀ y ∈ before, s.locFill s.cur.who y.loc = .full) →
      s.locFill s.cur.who x.loc ≠ .full → (∀ y ∈ r.srcs, y.trap = false) → (s.strand s.cur.who).waitLimit = 0 →
      exec i s = .next (parked s 1 x.loc.file x.loc.index)) ∧
  (∀ (i : Instr) (r : Act) (s : State) (d : Loc) (q : RegRef), scalarForm i = some r → i.wf = true → s.Alone → r.On s → Allowed r s →
      s.Readable r.srcs → s.srcsFault s.cur.who r.srcs = none → r.dests = [d] → d.ref s.cur.who = some q → s.regFill q = .pending →
      (s.strand s.cur.who).waitLimit = 0 → exec i s = .next (parked s 10 d.file d.index))

/-- R44: with its trap bit set the source raises EMPTY_SOURCE instead, with the register in TRAP_INFO. R39: an extension register in a
block that the strand does not hold raises ACCESS_DENIED, the first source before the destination. R18: a bundle that still waits in
a slot after which its park has lasted longer than a nonzero WAIT_LIMIT raises WAIT_TIMEOUT, with what it waits for and for how long
in TRAP_INFO (R106). -/
def Obligations.OperandTraps : Prop :=
  (∀ (i : Instr) (r : Act) (s : State) (before after : List Src) (x : Src), scalarForm i = some r → i.wf = true → s.Lone → r.On s →
      Allowed r s → r.srcs = before ++ x :: after → (∀ y ∈ r.srcs, y.loc.isQ = false) →
      (∀ y ∈ before, s.locFill s.cur.who y.loc = .full ∨ y.trap = false) → s.locFill s.cur.who x.loc ≠ .full → x.trap = true →
      exec i s = .next (s.takeTrap s.cur.who
        { code := .emptySource, info := BitVec.ofNat 64 (x.loc.index + 64 * x.loc.file + 512 * natOfBool x.isB) } s.cur.ip)) ∧
  (∀ (i : Instr) (r : Act) (s : State) (before after : List Src) (x : Src) (d : Loc), scalarForm i = some r → i.wf = true →
      s.Lone → r.dests = [d] → s.dstPrivileged s.cur.who d = false →
      ((r.srcs = before ++ x :: after → (∀ y ∈ before, (s.strand s.cur.who).lacks y.loc = false) →
          (s.strand s.cur.who).lacks x.loc = true →
          exec i s = .next (s.takeTrap s.cur.who
            { code := .accessDenied, info := BitVec.ofNat 64 (x.loc.index + 64 * x.loc.file + 512 * natOfBool x.isB) } s.cur.ip)) ∧
        ((∀ y ∈ r.srcs, (s.strand s.cur.who).lacks y.loc = false) → (s.strand s.cur.who).lacks d = true →
          exec i s = .next (s.takeTrap s.cur.who
            { code := .accessDenied, info := BitVec.ofNat 64 (d.index + 64 * d.file + 512) } s.cur.ip)))) ∧
  (∀ (i : Instr) (r : Act) (s : State) (before after : List Src) (x : Src) (p : Park), scalarForm i = some r → i.wf = true →
      s.Lone → r.On s → Allowed r s → r.srcs = before ++ x :: after → (∀ y ∈ before, s.locFill s.cur.who y.loc = .full) →
      s.locFill s.cur.who x.loc ≠ .full → (∀ y ∈ r.srcs, y.trap = false) → (s.strand s.cur.who).park = some p →
      (s.strand s.cur.who).waitLimit ≠ 0 → (s.strand s.cur.who).waitLimit.toNat < p.cycles + 8 →
      exec i s = .next (s.takeTrap s.cur.who
        { code := .waitTimeout
          info := BitVec.ofNat 64 (1 + 16 * x.loc.file + 64 * x.loc.index + 2 ^ 32 * min (p.cycles + 8) 0xFFFFFFFF) } s.cur.ip))

/-- R64: an instruction of the scalar class whose mask bit is clear does nothing: the strand goes on, whatever its operands hold, full or
not (that it waits for none of them is the model's reading, assumption 98). -/
def Obligations.MaskedOff : Prop :=
  ∀ (i : Instr) (h : Half) (s : State), halfOf i = some h → h.vec = false → i.wf = true → s.Alone → s.MaskOff h.mask →
    (∀ x ∈ h.srcs, (s.strand s.cur.who).lacks x.loc = false) → (∀ d ∈ h.dests, (s.strand s.cur.who).lacks d = false) →
    h.illegal s s.cur.who = false → h.privileged s s.cur.who = false → h.names s s.cur.who = none → exec i s = .next s.onward

/-! ### Taking a trap and returning from one -/

/-- R99: a trap of a strand of a crew with a handler saves the cause with bit 7, the bundle's IP and the information, and the strand
goes on at TRAP_VEC; its wait is over. No other strand changes. R100, R103, R104: without a crew the strand stops alone; in a
handler, or without a handler, the trap is fatal to the crew; a cause of placement reach ends the placement. -/
def Obligations.TrapTaken : Prop :=
  (∀ (s : State) (w : Who) (c : Cause) (ip : Word), s.debugged w c = false → c.placement = false → c.poster = none →
      (s.strand w).crewId ≠ 0xF → (s.strand w).trapCause.getLsbD 7 = false → s.trapVec w ≠ 0 →
      let t := s.takeTrap w c ip
      (t.strand w).trapCause = 0x80 ||| c.code.code ∧ (t.strand w).trapPc = ip ∧ (t.strand w).trapInfo = c.info ∧
        (t.strand w).ip = s.trapVec w ∧ (t.strand w).park = none ∧ (t.strand w).running = (s.strand w).running ∧
        (t.strand w).crewId = (s.strand w).crewId ∧ (∀ x, x ≠ w → t.strand x = s.strand x) ∧
        (t.strand w).g = (s.strand w).g ∧ (t.strand w).k = (s.strand w).k ∧ (t.strand w).v = (s.strand w).v ∧
        (t.strand w).p = (s.strand w).p ∧ (∀ n, (t.tile n).c = (s.tile n).c) ∧ SameMemory s t) ∧
  (∀ (s : State) (w : Who) (c : Cause) (ip : Word), s.debugged w c = false → c.poster = none →
      let u := s.abandonWait w
      (c.placement = true → s.takeTrap w c ip = u.placementFatal w c ip) ∧
        (c.placement = false → (s.strand w).crewId = 0xF → s.takeTrap w c ip = u.stopAlone w c ip) ∧
        (c.placement = false → (s.strand w).crewId ≠ 0xF → ((s.strand w).trapCause.getLsbD 7 = true ∨ s.trapVec w = 0) →
          s.takeTrap w c ip = u.crewFatal w c ip))

/-- R96, R101: TRAP raises SOFTWARE with its code, BRK raises BREAKPOINT, both with the next bundle's IP in TRAP_INFO; TRET goes on at
TRAP_PC and clears bit 7 of TRAP_CAUSE. -/
def Obligations.TrapInstructions : Prop :=
  ∀ (s : State), s.Lone →
    (∀ t : WTail, Instr.wf (.trap t) = true → s.MaskOn t.k.toNat → exec (.trap t) s = .next (s.takeTrap s.cur.who
        { code := .software, info := BitVec.ofNat 64 (t.imm.toNat + 2 ^ 32 * (s.cur.next.toNat % 2 ^ 17)) } s.cur.ip)) ∧
      ((s.strand s.cur.who).ignoreOnce = false → exec .brk s = .next (s.takeTrap s.cur.who
        { code := .breakpoint, info := BitVec.ofNat 64 (2 ^ 32 * (s.cur.next.toNat % 2 ^ 17)) } s.cur.ip)) ∧
      ((s.strand s.cur.who).ignoreOnce = true → exec .brk s = .next s.onward) ∧
      ((s.strand s.cur.who).trapCause.getLsbD 7 = true → exec .tret s = .next ((s.past.modStrand s.cur.who (fun x =>
        { x with ip := (s.strand s.cur.who).trapPc, trapCause := x.trapCause &&& 0x7F })).settleStreams s.cur.who)) ∧
      ((s.strand s.cur.who).trapCause.getLsbD 7 = false → exec .tret s = .next (s.takeTrap s.cur.who
        { code := .illegalOpcode, info := s.cur.sWord } s.cur.ip))

/-- R26, R67, R68, R86: an encoding that is no instruction raises ILLEGAL_OPCODE with its word; a fetch that fails raises ILLEGAL_LINE
with the head index. R86, R90: a taken transfer to an odd target raises MISALIGNED with the target, SPAWN of the own index
ILLEGAL_OPCODE. R135: a vector instruction that post-increments one pointer twice raises ILLEGAL_OPCODE. R52, R67, R214, R352: SWR at
user level to a register that only the system may write, BCN, QBIND to a port of a system queue, and every push to a system queue at
user level, CPY and a vector push among them, raise PRIVILEGED with the instruction's word. -/
def Obligations.EncodingTraps : Prop :=
  (∀ (s : State),
      (∀ (head : BitVec 16) (tail : BitVec 48), s.Lone →
        let u := { s with cur := { s.cur with sWord := tail ++ head, vWord := tail ++ head } }
        exec (.illegalOpcode head tail) s = .next (u.takeTrap s.cur.who { code := .illegalOpcode, info := tail ++ head } s.cur.ip)) ∧
        (∀ (w : Who) (ip : Word) (head : Nat), (s.strand w).fused = false → (s.strand w).matched = false → (s.tile w.tile).frozen = false →
          exec (.illegalLine w ip head) s = .next (({ s with cur := { s.cur with who := w, ip := ip } }).takeTrap w
            { code := .illegalLine, info := BitVec.ofNat 64 (head % 32) } ip))) ∧
  Raises controlRule controlCause ∧
  (∀ (s : State) (t : WTail) (nz : Bool) (i : Instr), s.Lone → (i = .bz t ∧ nz = false ∨ i = .bnz t ∧ nz = true) → i.wf = true →
      s.MaskOn t.k.toNat → s.Readable [t.srcA] → s.Moves [t.srcA] .none 1 →
      decide (a1 (takeScalars s s.past s.cur.who [t.srcA]).1 = 0) ≠ nz → (away s t.imm).getLsbD 0 = true →
      exec i s = .next (s.takeTrap s.cur.who (oddTo (away s t.imm)) s.cur.ip)) ∧
  (∀ (s : State) (t : WTail), s.Lone → Instr.wf (.gbr t) = true → s.Readable [{ loc := .k t.a.toNat }] →
      ((s.strand s.cur.who).readK t.a.toNat).val.getLsbD 0 = true → (away s t.imm).getLsbD 0 = true →
      exec (.gbr t) s = .next (s.takeTrap s.cur.who (oddTo (away s t.imm)) s.cur.ip)) ∧
  (∀ (i : Instr) (r : Act) (s : State), vectorRule i = some r → s.Lone → ¬ (posted (r.srcs.map (·.loc) ++ r.dests)).Nodup →
      exec i s = .next (s.takeTrap s.cur.who (ofWord .illegalOpcode s true) s.cur.ip)) ∧
  (∀ (s : State), s.Lone →
      (∀ t : WTail, Instr.wf (.swr t) = true → sysNumber t ≠ 0x019 → (s.strand s.cur.who).system = false →
        exec (.swr t) s = .next (s.takeTrap s.cur.who (ofWord .privileged s) s.cur.ip)) ∧
        (∀ t : LTail, (s.strand s.cur.who).system = false → exec (.bcn t) s = .next (s.takeTrap s.cur.who (ofWord .privileged s) s.cur.ip)) ∧
        (∀ (t : WTail) (p : Port), (s.strand s.cur.who).system = false →
          FMap.find (s.tile s.cur.who.tile).ports (fieldNat t.imm 0 5) = some p → (s.queue p.queue).system = true →
          exec (.qbind t) s = .next (s.takeTrap s.cur.who (ofWord .privileged s) s.cur.ip)) ∧
        (∀ (i : Instr) (r : Act) (n : Nat), scalarRule i = some r ∨ queueRule i = some r ∨ engineRule i = some r ∨
            ((∃ t, i = .ld t) ∧ localRule i = some r) → .q n ∈ r.dests → s.dstPrivileged s.cur.who (.q n) = true →
          exec i s = .next (s.takeTrap s.cur.who (ofWord .privileged s) s.cur.ip)) ∧
        (∀ (i : Instr) (r : Act) (n : Nat), vectorRule i = some r → (posted (r.srcs.map (·.loc) ++ r.dests)).Nodup → .q n ∈ r.dests →
          s.dstPrivileged s.cur.who (.q n) = true → exec i s = .next (s.takeTrap s.cur.who (ofWord .privileged s true) s.cur.ip)))

/-! ### Memory -/

/-- R165 to R168, R177, R178: local loads and stores, tagged words, MFLIP. The bytes of the pages of records are free values (assumption
73). -/
def Obligations.LocalAccess : Prop := Completes localRule

/-- R94, R166, R167, R169, R171, R174, R176: global accesses, atomics, remote tags and registers, FENCE. -/
def Obligations.GlobalAccess : Prop := Completes globalRule

/-- R161, R165, R166, R170, R172: an access whose operands are ready raises the trap of its checks before anything commits. LDF of an
EMPTY word and STE of a FULL one park with kind 7; an access whose page the tile has no translation for parks with kind 9 and asks
for it. -/
def Obligations.AccessTraps : Prop :=
  ∀ (i : Instr) (r : Act) (s : State), (localRule i = some r ∨ globalRule i = some r) → i.wf = true → s.Lone → r.On s →
    s.Readable r.srcs → s.Writable r.dests → (∀ d ∈ r.dests, s.dstPrivileged s.cur.who d = false) →
    (localRule i = some r → ∀ t n kind, localSize i = some (t, n, kind) →
      (∀ c, localCause s (localAt t s) n kind = some c → exec i s = .next (s.takeTrap s.cur.who c s.cur.ip)) ∧
      (touchable s (localAt t s) n (decide (kind = 0)) → s.Moves (r.srcs.drop 1) (r.dests.headD .none) 1 → r.Clear s →
        (s.strand s.cur.who).waitLimit = 0 → i = .ldf t ∧ tagFull t s = false ∨ i = .ste t ∧ tagFull t s = true →
        exec i s = .next (parked s 7 0 0))) ∧
    (globalRule i = some r → ∀ t n kind window, globalSize i = some (t, n, kind, window) →
      (∀ c, globalCause s (globalAt t s) n kind window = some c → exec i s = .next (s.takeTrap s.cur.who c s.cur.ip)) ∧
      (globalAt t s < 2 ^ 56 → window = false → globalCause s (globalAt t s) n kind window = none → heldEntry s (globalAt t s) = none →
        s.Moves (r.srcs.drop 1) .none 1 → r.Clear s → (s.strand s.cur.who).waitLimit = 0 →
        exec i s = .next (parked (s.joinMerge s.cur.who
          { page := globalAt t s / 2 ^ 21, write := decide (kind ≠ 0), kind := if kind = 0 then 0 else 1 }) 9 0 0)))

/-! ### Crews and gangs -/

/-- R92, R181 to R184, R188, R189, R193 to R195, R198: crews, acquisition, release, HOLD, GFUSE, STOP. R190: what raises CLAIM_INVALID
and CLAIM_EXCEEDED, with their words; R198: what GFUSE raises; R106: what these instructions wait for. What requested holds under the
reasons 6 and 7, and the order in which CJOIN looks at its statuses, are the model's choice (assumptions 119, 124). -/
def Obligations.CrewResult : Prop :=
  Completes crewRule ∧
  Raises crewRule crewCause ∧
  Parks crewRule crewCause crewWait

/-- R199, R201 to R203, R206: on every member of a gang, or on a strand that is fused in none, GBR, GRED, GXCH and GSPLIT do their part,
all with the same values; GSPLIT needs a gang. R206: GSPLIT of a strand that is fused in no gang raises GANG_MISMATCH with reason 9.
R207: SPAWN, STOP, CREW and CJOIN in a gang raise GANG_MISMATCH with reason 8 on every member. R86, R201: a GBR that the gang takes to an
odd target raises MISALIGNED on every member. R107: the words of these traps. That a member with a clear mask still gives its value is
the model's reading (assumption 17). -/
def Obligations.GangResult : Prop :=
  (∀ (i : Instr) (r : GangAct) (s : State), gangRule i = some r → i.wf = true → (i = .gsplit → (s.strand s.cur.who).fused = true) →
      (∀ t, i = .gbr t → (away s t.imm).getLsbD 0 = false) →
      (∀ w ∈ s.members s.cur.who, (s.tile w.tile).frozen = false ∧ (s.strand w).fused = (s.strand s.cur.who).fused ∧
        s.members w = s.members s.cur.who ∧ (1 < (s.members s.cur.who).length →
          (s.strand w).running = true ∧ (s.strand w).dying = false ∧ s.leader w = s.leader s.cur.who) ∧ (seenBy s w).MaskOn r.mask ∧
        (seenBy s w).Readable r.srcs ∧ (seenBy s w).Writable r.dests) →
      (s.members s.cur.who).Nodup →
      exec i s = .next ((s.members s.cur.who).foldl (fun u w => u.settleStreams w)
        ((s.members s.cur.who).foldl (fun u w => r.member s w u) (allPast s (s.members s.cur.who))))) ∧
  (∀ (s : State), s.Lone → exec .gsplit s = .next (s.takeTrap s.cur.who
      { code := .gangMismatch, info := BitVec.ofNat 64 (9 * 2 ^ 60) } s.cur.ip)) ∧
  (∀ (i : Instr) (r : Act) (s : State), controlRule i = some r ∨ crewRule i = some r → notInGang i = true → i.wf = true →
      (∀ t, i = .spawn t → t.d.toNat % 8 ≠ s.cur.who.strand) → Gathered s r.mask r.srcs r.dests →
      ∃ t, exec i s = .next t ∧ ∀ w ∈ s.members s.cur.who, handles s t w .gangMismatch (BitVec.ofNat 64 (8 * 2 ^ 60))) ∧
  (∀ (u : WTail) (s : State), Instr.wf (.gbr u) = true → Gathered s 0 [{ loc := .k u.a.toNat }] [] → (away s u.imm).getLsbD 0 = true →
      (if u.bit 0 then ∀ m ∈ s.members s.cur.who, ((s.strand m).readK u.a.toNat).val.getLsbD 0 = true
        else ∃ m ∈ s.members s.cur.who, ((s.strand m).readK u.a.toNat).val.getLsbD 0 = true) →
      ∃ t, exec (.gbr u) s = .next t ∧ ∀ w ∈ s.members s.cur.who, handles s t w .misaligned (away s u.imm))

/-- R191: the check answers GRANTED, SHORT or UNSAFE: SHORT when units are missing, GRANTED when they are there, and some order of the
crews lets each finish with what is free and what those before it give back. -/
def Obligations.BankersCheck : Prop :=
  ∀ (b : Bank) (crew : Nat) (req : Counts),
    (b.check crew req = 0 ∨ b.check crew req = 1 ∨ b.check crew req = 2) ∧
    (b.check crew req = 1 ↔ ∃ i, i < 5 ∧ b.avail.at i < req.at i) ∧
    (b.check crew req = 0 ↔
      (∀ i, i < 5 → req.at i ≤ b.avail.at i) ∧
        ∃ order : List (Counts × Counts), order.Perm ((b.grant crew req).crews.map (·.2)) ∧
          ∀ (before after : List (Counts × Counts)) (x : Counts × Counts), order = before ++ x :: after → ∀ i, i < 5 →
            x.1.at i - x.2.at i ≤ b.avail.at i - req.at i + b.quar.at i + (before.map (fun y => y.2.at i)).sum)

/-! ### Queues -/

/-- R214, R216, R217, R222, R225 to R227, R352, R355: queue instructions. R217, R219, R223, R228: what raises QUEUE_FAULT, with its word,
and what parks with kind 2, 3 or 15; the same of the queues among the operands of a scalar instruction. That the word of BPASS names q0
is the model's choice (assumption 107). -/
def Obligations.QueueResult : Prop :=
  Completes queueRule ∧
  Raises queueRule queueCause ∧
  Parks queueRule queueCause queueWait ∧
  (∀ (i : Instr) (r : Act) (s : State) (c : Cause), i.wf = true → s.Lone → r.Examined s →
      (∀ (before after : List Src) (x : Src) (q : Nat), scalarForm i = some r → r.srcs = before ++ x :: after →
        (∀ y ∈ before, y.loc.isQ = false) → x.loc = .q q → popCause s q false = some c → exec i s = .next (s.takeTrap s.cur.who c s.cur.ip)) ∧
      (∀ q, scalarRule i = some r → (∀ y ∈ r.srcs, y.loc.isQ = false) → r.dests = [.q q] → pushCause s q false = some c →
        exec i s = .next (s.takeTrap s.cur.who c s.cur.ip))) ∧
  (∀ (i : Instr) (r : Act) (s u : State) (q kind file index : Nat), i.wf = true → s.Alone → r.Examined s → s.Writable r.dests →
      s.acquiring s.cur.who = false → (s.strand s.cur.who).waitLimit = 0 → s.srcsFault s.cur.who r.srcs = none →
      (∀ d ∈ r.dests, s.dstFault s.cur.who d = none) →
      (∀ (before after : List Src) (x : Src), scalarForm i = some r → r.srcs = before ++ x :: after → (∀ y ∈ before, y.loc.isQ = false) →
        x.loc = .q q → popWaits s u q kind file index → exec i s = .next (parked u kind file index)) ∧
      (scalarRule i = some r → (∀ y ∈ r.srcs, y.loc.isQ = false) → r.dests = [.q q] → pushWaits s u q 1 kind file index →
        exec i s = .next (parked u kind file index)))

/-- R222, R223: QTRY and QPEEK answer at once, with a record and words, whatever the port holds. R224: QSEL pops from the register that
it chooses, and keeps the choice; with .t it answers EMPTY where no register has anything (the q field 0 of that record is the model's
choice, assumption 126). R219, R224, R228: what makes them raise QUEUE_FAULT, and QSEL park. That the first QSEL of a strand starts at q0
is assumption 128. -/
def Obligations.QueueLook : Prop :=
  (∀ (i : Instr) (t : LTail) (meets : State → Port → Found → Prop) (look : Found → State → State) (memory : Bool) (s : State) (n : Nat)
      (p : Port) (f : Found), lookRule i = some (t, meets, look, memory) → i.wf = true → s.Alone → s.MaskOn t.k.toNat →
      s.Readable [{ loc := .q t.a.toNat, trap := t.ta }] → s.Writable (popRegs t true) → (memory = true → s.acquiring s.cur.who = false) →
      popsFrom s t.a.toNat n p → meets s p f → exec i s = .next ((look f s).settleStreams s.cur.who)) ∧
  (∀ (t : LTail) (s : State), Instr.wf (.qsel t) = true → s.Alone → s.MaskOn t.k.toNat → s.Readable [t.srcA] → s.Writable (popRegs t true) →
      s.acquiring s.cur.who = false → (s.strand s.cur.who).lastSel < 16 →
      bitsOf (val s t.srcA.loc) 0 16 ≠ 0 →
      (∀ q, q < 16 → (val s t.srcA.loc).getLsbD q = true → ∃ n p, popsFrom s q n p) →
      (∀ (q : Nat) (x : Stored) (n : Nat) (p : Port), chosen s (val s t.srcA.loc) q → bound s q = some (n, p) →
        ((finds s p (.item x) → exec (.qsel t) s = .next (((popResult s (unqueued s (taken s q)) (popRegs t true)
            (recordWord 0 q x :: wordsOf x (popCount t))).modStrand s.cur.who (fun y => { y with lastSel := q })).settleStreams s.cur.who)) ∧
          (finds s p (.beacon x) → x.item.cooperative = true → exec (.qsel t) s = .next (((popResult s (unqueued s s.past) (popRegs t true)
            (recordWord 1 q x :: wordsOf x (popCount t))).modStrand s.cur.who (fun y => { y with lastSel := q })).settleStreams s.cur.who)))) ∧
      ((∀ q, q < 16 → (val s t.srcA.loc).getLsbD q = true → ¬ poppable s q) → t.bit 3 = true →
        exec (.qsel t) s = .next ((statusOnly t (emptyRecord 0) s).settleStreams s.cur.who)) ∧
      (∀ q x n p, chosen s (val s t.srcA.loc) q → bound s q = some (n, p) → finds s p (.beacon x) → x.item.cooperative = false →
        (s.strand s.cur.who).waitLimit = 0 → exec (.qsel t) s = .next (parked (s.queueUp s.cur.who n) 3 0 n)) ∧
      ((∀ q, q < 16 → (val s t.srcA.loc).getLsbD q = true → ¬ poppable s q) → t.bit 3 = false → (s.strand s.cur.who).waitLimit = 0 →
        let ports := (picked (val s t.srcA.loc)).filterMap (fun q => (bound s q).map (·.1))
        exec (.qsel t) s = .next (parked (ports.foldl (fun (u : State) n => u.queueUp s.cur.who n) s) 3 0 (ports.headD 0)))) ∧
  (∀ (i : Instr) (t : LTail) (meets : State → Port → Found → Prop) (look : Found → State → State) (memory : Bool) (s : State) (c : Cause),
      lookRule i = some (t, meets, look, memory) → i.wf = true → s.Lone → s.MaskOn t.k.toNat →
      s.Readable [{ loc := .q t.a.toNat, trap := t.ta }] → (∀ d ∈ popRegs t true, (s.strand s.cur.who).lacks d = false) →
      popCause s t.a.toNat true = some c → exec i s = .next (s.takeTrap s.cur.who c s.cur.ip)) ∧
  (∀ (t : LTail) (s : State) (c : Cause), Instr.wf (.qsel t) = true → s.Lone → s.MaskOn t.k.toNat → s.Readable [t.srcA] →
      (∀ d ∈ popRegs t true, (s.strand s.cur.who).lacks d = false) → selCause s (val s t.srcA.loc) = some c →
      exec (.qsel t) s = .next (s.takeTrap s.cur.who c s.cur.ip))

/-! ### Tickets and engines -/

/-- R240, R242, R244, R246: LDT, TKQ, TKD and the quiet redeems. -/
def Obligations.TicketResult : Prop := Completes ticketRule

/-- R244: a trapping redeem sets out and its bundle is held in issue: the strand is out of its park and keeps its IP. R244: once the
answer of a held redeem has come, the bundle commits: the destination is PENDING on the delivery, the strand goes on behind the
bundle; a STALE or DOUBLE ticket traps with the ticket in TRAP_INFO. -/
def Obligations.TrappingRedeem : Prop :=
  (∀ (i : Instr) (r : Act) (req : State → RedeemReq) (s : State), heldRule i = some (r, req) → i.wf = true → s.Alone → r.Due s →
      exec i s = .next (s.startHold s.cur.who (req s))) ∧
  (∀ (s : State) (w : Who) (h : Hold), (s.strand w).hold = some h →
      (h.answer = none → s.finishHold w = s) ∧
        (h.answer = some 0 → (∀ r, h.dest = some r → s.regFill r ≠ .pending) →
          ((s.finishHold w).strand w).hold = none ∧ ((s.finishHold w).strand w).ip = h.next ∧
            (∀ f t n p d st, s.flight h.redeem = some f → f.kind = .redeem t n p true d st → ∀ r, h.dest = some r →
              (s.finishHold w).regFill r = .pending)) ∧
        (∀ a, h.answer = some a → a ≠ 0 → s.finishHold w = (s.modStrand w (fun x => { x with hold := none })).takeTrap w
          { code := if a = 1 then .ticketStale else .ticketDouble, info := h.ticket } (s.strand w).ip))

/-- R283, R295 to R297: CPY, completion rings, phase barriers, SBIND and SUNB. R217, R283, R298: their traps, STREAM_FAULT among them, and
what they wait for. R298: a vector instruction that writes a register in stream mode, or reads one behind its last strip or a strip
that was refused, raises STREAM_FAULT. -/
def Obligations.EngineResult : Prop :=
  Completes engineRule ∧
  Raises engineRule engineCause ∧
  Parks engineRule engineCause engineWait ∧
  (∀ (i : Instr) (r : Act) (s : State) (j : Nat), vectorRule i = some r → i.wf = true → s.Lone → r.Examined s →
      (posted (r.srcs.map (·.loc) ++ r.dests)).Nodup → r.dests.head? = some (.v j) → (streamOf s j).isSome = true →
      (∀ o l, vectorOp i = some (o, l) → o.fault s s.cur.who = none) → (∀ o, vectorMem i = some o → o.fault s s.cur.who = none) →
      exec i s = .next (s.takeTrap s.cur.who (streamWord 1 j 0) s.cur.ip)) ∧
  (∀ (i : Instr) (o : VecOp) (l : Option (Nat × Nat)) (s : State) (before after : List Src) (x : Src) (j : Nat) (z : Stream),
      vectorOp i = some (o, l) → i.wf = true → s.Lone → s.LanesOn o.k.toNat → o.srcs = before ++ x :: after → s.Readable (before ++ after) →
      (∀ y ∈ o.srcs, y.loc.isQ = false ∧ y.loc.isM = false) → o.dst.isM = false → s.dstPrivileged s.cur.who o.dst = false →
      (s.strand s.cur.who).lacks o.dst = false → (s.strand s.cur.who).lacks x.loc = false → s.locBad s.cur.who x.loc = false →
      x.loc = .v j → streamOf s j = some z →
      (z.total ≤ z.taken → exec i s = .next (s.takeTrap s.cur.who (streamWord 2 j 0) s.cur.ip)) ∧
        (z.taken < z.total → z.landed.head? = some none →
          exec i s = .next (s.takeTrap s.cur.who (streamWord 3 j (z.addr z.taken)) s.cur.ip)))

/-! ### The matrix array and vectors -/

/-- R257, R263, R268, R269, R272 to R275, R278: the instructions of the matrix array; MRED of a strand that is fused in no gang leaves
its accumulator as it is. R278: MRED in a gang makes each member's accumulator busy and OPEN; a member before the last of its chain
owes its part, the last the sum, within 512 + 64 p cycles. R279: what raises MATRIX_CONFIG and SLOT_STATE, with their words, and what
the matrix instructions wait for; in a gang the members whose types differ from the leader's, or that have feedback on, raise theirs, and
the others GANG_MISMATCH with the member mask (R204). -/
def Obligations.MatrixResult : Prop :=
  (Completes matrixRule) ∧
  (Raises matrixRule matrixCause) ∧
  (Parks matrixRule matrixCause matrixWait) ∧
  (∀ (u : LTail) (s : State), let j := u.d.toNat % 4
      let differs := fun (w : Who) => decide ((accAt (seenBy s w) j).int ≠ (accAt (seenBy s (s.leader s.cur.who)) j).int)
      let feeds := fun (w : Who) => (accAt (seenBy s w) j).rule.active && (accAt (seenBy s w) j).rule.ext.fb.isSome
      let bad := (s.members s.cur.who).filter (fun w => differs w || feeds w)
      Instr.wf (.mred u) = true → Gathered s 0 [] [] →
      (∀ w ∈ s.members s.cur.who, (accOf (seenBy s w) j).isSome = true ∧ (accAt (seenBy s w) j).state = .full ∧
        (accAt (seenBy s w) j).busy = false ∧ colOf (s.leader s.cur.who).tile ≤ colOf w.tile ∧
        rowOf (s.leader s.cur.who).tile ≤ rowOf w.tile) → bad ≠ [] →
      ∃ t, exec (.mred u) s = .next t ∧ ∀ w ∈ s.members s.cur.who,
        if differs w then handles s t w .matrixConfig (badConfig 7 j true).info
        else if feeds w then handles s t w .slotState (wrongState 5 j true).info
        else handles s t w .gangMismatch (maskOfMembers s w bad)) ∧
  (∀ (t : LTail) (s : State) (acc : Who → Nat), let j := t.d.toNat % 4
      let ms := s.members s.cur.who
      let chain := fun (w : Who) => ms.filter (fun m => !t.sub.getLsbD 0 || decide (rowOf m.tile = rowOf w.tile))
      let place := fun (w : Who) => ((chain w).takeWhile (fun m => decide (m ≠ w))).length
      Instr.wf (.mred t) = true → (s.strand s.cur.who).fused = true → ms.Nodup → s.leader s.cur.who ∈ ms →
      (∀ w ∈ ms, (s.tile w.tile).frozen = false ∧ (s.strand w).running = true ∧ (s.strand w).dying = false ∧ (s.strand w).fused = true ∧
        s.members w = ms ∧ s.leader w = s.leader s.cur.who ∧
        accOf (seenBy s w) j = some (acc w) ∧
        (accAt (seenBy s w) j).state = .full ∧ (accAt (seenBy s w) j).busy = false ∧
        (accAt (seenBy s w) j).int = (accAt (seenBy s (s.leader s.cur.who)) j).int ∧
        ((accAt (seenBy s w) j).rule.active = true → (accAt (seenBy s w) j).rule.ext.fb = none)) →
      (ms.map (·.tile)).Nodup →
      exec (.mred t) s = .next (ms.foldl (fun u w => u.settleStreams w) (ms.foldl (fun u w =>
        let v := u.modTile w.tile (fun y => y.modAc (acc w) (fun x => { x with busy := true, state := .opened }))
        if place w + 1 < (chain w).length then v.send w 1 (some (512 + 64 * place w + 1)) (.mredPart w.tile (acc w))
        else v.send w 1 (some (512 + 64 * place w)) (.mredSum w.tile (acc w) (s.chainSum j (chain w)))) (allPast s ms))))

/-- R132 to R157: every vector instruction, on registers, scratchpad and queues. What a memory operand checks, when stochastic rounding
draws, the words that VINS and VEXTR access, and the item that VINS pushes to a queue are the model's readings (assumptions 21, 24, 87,
100). -/
def Obligations.VectorResult : Prop := Completes vectorRule

/-! ### Arrivals -/

/-- R43, R45, R103: a LONG result is written to its registers, which become full, before the fills that wait for them are tried again; a
discarded one changes no register. R45, R47 to R49, R174 to R176: a remote fill or read is denied, finds no register, wakes a drowsy
bank, meets a parity error, waits for the register's condition, or behind a fill that came earlier and may be written, or takes effect; a
waiting fill is written as soon as the condition and the order of arrival allow it, and answers ABSENT where its block has been released
since. A stopped strand without an access for 1,024 cycles becomes drowsy, and a waking bank is awake. R407: the error record, with
structure 0 for a register (assumption 78). -/
def Obligations.RegistersArrive : Prop :=
  (∀ (s : State) (id : Nat) (x : Flight) (vals : List Val), lands s id x → x.kind = .long vals →
      exec (.longResultArrival id) s = .next (if x.live then
        ((x.dests.map RegRef.tile).dedup).foldl (fun (a : State) t => a.serveFills t) ((without s id).fillRegs x.dests vals)
        else without s id)) ∧
  (∀ (s : State) (id : Nat) (x : Flight) (r : RegRef),
      (∀ (e : Bool) (v : Word), lands s id x → x.kind = .rfill e r v →
        (¬ mayTouch s x.owner r.tile → exec (.rfillArrival id) s = .next (answered s x 2)) ∧
          (mayTouch s x.owner r.tile → absent s r → exec (.rfillArrival id) s = .next (answered s x 1)) ∧
          (mayTouch s x.owner r.tile → ¬ absent s r → ∀ w, r.who = some w → (s.strand w).drowsy = true →
            exec (.rfillArrival id) s = .next (wakened s w)) ∧
          (mayTouch s x.owner r.tile → ¬ absent s r → ¬ drowses s r → id ∉ (s.tile r.tile).fills →
            (open_ s e r → ¬ outrun s (s.tile r.tile).fills r → exec (.rfillArrival id) s = .next (filled s x r v)) ∧
              (¬ open_ s e r ∨ outrun s (s.tile r.tile).fills r →
                exec (.rfillArrival id) s = .next ((touching s r).modTile r.tile (fun y => { y with fills := y.fills ++ [id] }))))) ∧
        (∀ (e : Bool) (v : Word), s.flight id = some x → x.kind = .rfill e r v → id ∈ (s.tile r.tile).fills →
          (absent s r → exec (.rfillEFill id) s = .next (answered (unwaiting s r id) x 1)) ∧
            (¬ absent s r → open_ s e r → ¬ outrun s ((s.tile r.tile).fills.takeWhile (fun i => i != id)) r →
              exec (.rfillEFill id) s = .next (filled s x r v)) ∧
            (¬ absent s r → (¬ open_ s e r ∨ outrun s ((s.tile r.tile).fills.takeWhile (fun i => i != id)) r) →
              exec (.rfillEFill id) s = .next s)) ∧
        (∀ status : Bool, lands s id x → x.kind = .rget status r →
          (¬ mayTouch s x.owner r.tile → exec (.rgetArrival id) s = .next (answered s x (if status then 2 else 0))) ∧
            (mayTouch s x.owner r.tile → absent s r → exec (.rgetArrival id) s = .next (answered s x (if status then 1 else 0))) ∧
            (mayTouch s x.owner r.tile → ¬ absent s r → ∀ w, r.who = some w → (s.strand w).drowsy = true →
              exec (.rgetArrival id) s = .next (wakened s w)) ∧
            (mayTouch s x.owner r.tile → ¬ absent s r → ¬ drowses s r → s.regBad r = true →
              exec (.rgetArrival id) s = .next (answered
                ((touching s r).noteError (dieOf r.tile) 0 r.tile r.errKey x.owner.tile x.owner.strand 0 (s.tile r.tile).place) x (if status then 3 else 0))) ∧
            (mayTouch s x.owner r.tile → ¬ absent s r → ¬ drowses s r → s.regBad r = false →
              exec (.rgetArrival id) s = .next (answered (touching s r) x (if status then 0 else s.regValue r)))) ∧
        ∀ w : Who,
          ((s.strand w).running = false → (s.strand w).drowsy = false → (s.strand w).touched + 1024 ≤ s.now w.tile →
            exec (.registersDrowsy w) s = .next (s.modStrand w (fun y => { y with drowsy := true, waking := none }))) ∧
          ((s.strand w).waking ≠ none →
            exec (.registerBankWake w) s = .next (s.modStrand w (fun y => { y with drowsy := false, waking := none, touched := s.now w.tile }))))

/-- R163, R169, R171 to R173, R414: an access that arrives is performed at its HBM address or weight-store offset, goes out to another
package, or waits its turn at the bank of its tile; a request refused for 16 cycles takes its bank. R163, R164, R166, R167, R169, R171,
R173: an access that waits alone at a bank that nothing holds takes effect in the cycle, also at a frozen tile: the bytes and the tag
that it addresses, and its answer. What a peer's memory holds, and that an access to it leaves as one flit and is answered in the same
event, is the model's choice (assumptions 8, 74); so are the bytes of the pages of records (assumption 73). -/
def Obligations.AccessArrives : Prop :=
  (∀ (s : State) (id : Nat) (x : Flight) (op : AccOp) (n : Nat) (rel : Option Nat) (acq : Bool), lands s id x →
      (∀ (pa : Nat) (u : State), x.kind = .access op (.hbm pa) n rel acq → inHbm (released s x rel) x pa n op = some u →
        exec (accessEvent id op false) s = .next u) ∧
        (∀ (d off : Nat) (u : Bool), x.kind = .access op (.ws d off) n rel acq → op = .load u →
          exec (.globalAccessPerformed id) s =
            .next (replied (released s x rel) x (extendBytes u n (leNat (fun i => FMap.get 0 (s.die d).ws (off + i)) n)))) ∧
        (∀ (p pa va : Nat) (u : Bool), x.kind = .access op (.peer p pa va) n rel acq → op = .load u →
          let u := (released s x rel).sendFlit p
          ∃ v, exec (.globalAccessPerformed id) s = .next (replied { u with choices := u.choices + 1 } x v)) ∧
        (∀ (p pa va v : Nat), x.kind = .access op (.peer p pa va) n rel acq → op = .store v →
          let u := (released s x rel).sendFlit p
          exec (.postedStorePerformed id) s = .next (without { u with choices := u.choices + 1 } id)) ∧
        (∀ (t off : Nat), x.kind = .access op (.tile t off) n rel acq →
          (¬ waitsAtBank s id t → exec (accessEvent id op true) s = .next (atBank s id t [(s.tile t).winPhys off / 64])) ∧
            (waitsAtBank s id t → exec (accessEvent id op true) s = .next s)) ∧
        ∀ (t : Nat) (r : BankReq), r ∈ (s.tile t).bankQ → 16 ≤ r.refused → r.bank ∉ (s.tile t).bankTaken →
          exec (.bankStarvationGrant t r.bank) s = .next (s.modTile t (fun y => { y with bankTaken := y.bankTaken ++ [r.bank] }))) ∧
  (∀ (s : State) (id : Nat) (x : Flight) (op : AccOp) (t off n refused : Nat) (rel : Option Nat) (acq : Bool) (rest : List Move),
      let y := s.tile t
      let pa := y.winPhys off
      s.due = .endCycle t :: rest → s.flight id = some x → x.kind = .access op (.tile t off) n rel acq →
      y.bankQ = [{ flight := id, unit := pa / 64, refused := refused }] → y.bankTaken = [] → y.path = [] → y.job = none → y.fills = [] →
      s.banksFree t [bankOf pa] = true → (∀ l b, y.strikes { pa := pa, n := n, load := l, store := b } = none) → pa % n = 0 → n ∣ 8 →
      (n = 8 ∨ ∀ v, op ≠ .ste v ∧ op ≠ .stf v) →
      ∃ u, step s = .next u ∧
        (∀ a, (u.tile t).byte a = match putsAt y pa n op with
          | some v => if pa ≤ a ∧ a < pa + n ∧ recordPage a = false then BitVec.ofNat 8 (v / 256 ^ (a - pa)) else y.byte a
          | none => y.byte a) ∧
        (∀ a, (u.tile t).tag a = if a / 8 = pa / 8 then tagsAs y pa op else y.tag a) ∧
        u.flight id = match answersWith y pa n op with
          | some v => if x.dests = [] then none else some { x with kind := .long [.s v], lo := (s.die x.die).clock + 1, hi := none }
          | none => none)

/-- R237 to R240, R251: an LDT request gets a FREE entry and its ticket, the null ticket, or waits; the data that a fetch has read
is stored, and makes its entry READY; at a tile source it reads and writes through the banks, and stands where the entry's data does.
R237, R241, R243, R244, R246: a redeem, a query or a drop is presented to its source, which answers OK, STALE, DOUBLE or, for a forged
ticket, ends the placement; the entry of an accepted redeem is REDEEMING, and its
delivery starts once its data is there. -/
def Obligations.TicketEvents : Prop :=
  (∀ (s : State) (id : Nat) (x : Flight), lands s id x →
      (∀ (key : Nat) (tgt : Target) (va code : Nat) (trying : Bool) (owner : TOwner) (part : Nat) (node : Option Nat),
        x.kind = .ldt key tgt va code trying owner part node → id ∉ (s.source key).waiting →
        (s.ticketFits node = true → (∃ e, e < tableSize (key / 4096) ∧ (s.entry key e).st = .free) →
          ∃ e t, exec (.ldtRequestArrival id) s = .next t ∧ e < tableSize (key / 4096) ∧ (s.entry key e).st = .free ∧
            t.entry key e = { st := .fetching, gen := (s.entry key e).gen, size := code, addr := va, owner := owner, part := part, node := node
                              arrived := (s.entry key e).arrived, bad := (s.entry key e).bad } ∧
            (∀ k i, (k, i) ≠ (key, e) → t.entry k i = s.entry k i) ∧
            t.flight id = some { x with kind := .long [.s (s.ticketOf key e (s.entry key e).gen part)]
                                        lo := (s.die x.die).clock + 1, hi := none } ∧
            ∃ f ∈ t.flights, f.owner = x.owner ∧
              f.kind = .fetch key e (s.entry key e).gen tgt (8 * 2 ^ code) (List.replicate (2 ^ code) none) id) ∧
          ((s.ticketFits node = false ∨ ∀ e, e < tableSize (key / 4096) → (s.entry key e).st ≠ .free) →
            exec (.ldtRequestArrival id) s = .next
              (if trying then answered s x 0 else s.modSource key (fun y => { y with waiting := y.waiting ++ [id] })))) ∧
        (∀ (key e : Nat) (g : BitVec 16) (tgt : Target) (n : Nat) (ws : List (Option Nat)) (req : Nat), x.kind = .fetch key e g tgt n ws req →
          (∀ t off, tgt = .tile t off → ¬ waitsAtBank s id t →
            exec (.fetchDataStored id) s = .next (atBank s id t (if ∃ w ∈ ws, w = none
              then ((List.range ws.length).map (fun i => (s.tile t).winPhys (off + 8 * i) / 64)).dedup
              else unitsAt (0x8000 + 128 * e) n))) ∧
          ((∀ t off, tgt ≠ .tile t off) → (∀ w ∈ ws, w ≠ none) → s.targetBad tgt n = false →
            ((s.entry key e).gen ≠ g ∨ (s.entry key e).st = .free ∨ (s.entry key e).st = .ready →
              exec (.fetchDataStored id) s = .next (without s id)) ∧
            ((s.entry key e).gen = g → (s.entry key e).st = .fetching →
              (s.entry key e).seen ≠ some ((s.die (sourceDie key)).clock / 2) → ∃ t, exec (.fetchDataStored id) s = .next t ∧
              t.entry key e = { s.entry key e with data := fetched ws, arrived := (s.die (sourceDie key)).clock / 2, st := .ready } ∧
              (∀ k i, (k, i) ≠ (key, e) → t.entry k i = s.entry k i) ∧ t.flights = (without s id).flights)))) ∧
  (∀ (s : State) (id : Nat) (x : Flight) (key e t u off n req unit refused : Nat) (ws : List (Option Nat)) (rest : List Move),
      let y := s.tile t
      s.due = .endCycle t :: rest → s.flight id = some x → x.kind = .fetch key e (s.entry key e).gen (.tile u off) n ws req →
      (∀ w ∈ ws, w ≠ none) → s.targetBad (.tile u off) n = false → (s.entry key e).st = .fetching →
      (s.entry key e).seen ≠ some ((s.die (sourceDie key)).clock / 2) → y.bankQ = [{ flight := id, unit := unit, refused := refused }] →
      y.bankTaken = [] → y.path = [] → y.job = none → y.fills = [] → s.banksFree t [bankOf (64 * unit)] = true →
      ∃ r, step s = .next r ∧
        r.entry key e = { s.entry key e with data := fetched ws, arrived := (s.die (sourceDie key)).clock / 2, st := .ready } ∧
        r.flight id = none ∧
        ∀ a, recordPage a = false → (r.tile t).byte a = if 0x8000 + 128 * e ≤ a ∧ a < 0x8000 + 128 * e + n ∧ a / 64 = unit
          then (fetched ws).getD (a - (0x8000 + 128 * e)) 0 else y.byte a) ∧
  (∀ (s : State) (id : Nat) (x : Flight), lands s id x →
      (∀ (t : Word) (p : Nat) (node : Option Nat) (r : Nat) (q : Bool), x.kind = .present t p node r q none →
        (s.entry (ticketSource t) (ticketEntry t)).bad = false → r ≠ id →
        let a := ticketSays s t (some p)
        let e := s.entry (ticketSource t) (ticketEntry t)
        let u := { seenNow s t with flights := s.flights.map (fun y =>
          if y.id = id then { y with kind := .present t p node r q (some a), lo := (s.die y.die).clock + 1 } else y) }
        let v := u.modEntry (ticketSource t) (ticketEntry t) (fun y => { y with st := .redeeming, redeem := some r })
        exec (.redeemPresentation id) s = .next (if a ≠ 0 then u else if e.st = .ready then delivering v r e.data else v)) ∧
        (∀ (drop : Bool) (t : Word) (part node : Option Nat), x.kind = .query drop t part node →
          (s.entry (ticketSource t) (ticketEntry t)).bad = false →
          let a := ticketSays s t part
          let e := s.entry (ticketSource t) (ticketEntry t)
          let u := seenNow s t
          (a = 3 → exec (if drop then .tkdPresentation id else .tkqPresentation id) s = .next { u with flights := s.flights.map (fun y =>
              if y.id = id then { y with kind := .present t 0 node y.id true (some 3), lo := (s.die y.die).clock + 1 } else y) }) ∧
            (a = 1 ∨ a = 2 → drop = true → exec (.tkdPresentation id) s = .next (answered u x (BitVec.ofNat 64 a))) ∧
            (a = 0 → drop = true →
              exec (.tkdPresentation id) s = .next ((answered u x 0).freeEntry (ticketSource t) (ticketEntry t))) ∧
            (a = 1 → drop = false → exec (.tkqPresentation id) s = .next (answered u x 0)) ∧
            (a = 2 → drop = false → exec (.tkqPresentation id) s = .next (answered u x (BitVec.ofNat 64 (3 + 4 * e.size)))) ∧
            (a = 0 → drop = false → e.st = .fetching →
              exec (.tkqPresentation id) s = .next (answered u x (BitVec.ofNat 64 (1 + 4 * e.size)))) ∧
            (a = 0 → drop = false → e.st = .ready →
              exec (.tkqPresentation id) s = .next (answered u x (BitVec.ofNat 64 (2 + 4 * e.size +
                65536 * (((s.die (sourceDie (ticketSource t))).clock / 2 - e.arrived) % 2 ^ 48)))))))

/-- R241, R243, R244: the answer to a redeem reaches its strand: a quiet form gets its status, and without an OK zeros for its data; the
bundle of a trapping form is told; a forged ticket ends the placement. A delivery writes its register, or its bytes through the bank of
its tile, and frees the entry. R237, R247 to R249: a retirement notice frees the owner's FETCHING and READY entries and withdraws its
requests; above its mark a source frees the orphan that arrived first, and reports it. R240: that the notice withdraws the requests that
are under way is the model's reading (assumption 103). -/
def Obligations.RedeemEvents : Prop :=
  (∀ (s : State) (id : Nat) (x : Flight), lands s id x →
      (∀ (t : Word) (p : Nat) (node : Option Nat) (r : Nat) (q : Bool) (a : Nat), x.kind = .present t p node r q (some a) →
        (a = 3 → node = (s.tile x.owner.tile).place → exec (.redeemAnswer id) s = .next
          ((without (without s id) r).placementFatal x.owner { code := .ticketForged, info := t, placement := true, detail := t } (s.strand x.owner).ip)) ∧
          (a = 0 → q = true → exec (.redeemAnswer id) s = .next (if x.live then (without s id).fillRegs x.dests [.s 0] else without s id)) ∧
          (a = 1 ∨ a = 2 → q = true → ∀ (y : Flight) (t' : Word) (w st : Nat) (p' : Option (Nat × Nat)) (d : Option (List Byte)), s.flight r = some y →
            r ≠ id → y.kind = .redeem t' w p' false d st → x.live = true → y.live = true →
            let u := (without s id).fillRegs x.dests [.s (BitVec.ofNat 64 a)]
            (p' = none → exec (.redeemAnswer id) s = .next
              ((without u r).fillRegs y.dests (y.dests.map (fun z => match z with | .v _ _ => .v 0 | _ => .s 0)))) ∧
              (p' ≠ none → exec (.redeemAnswer id) s = .next (u.setKind r (.redeem t' w p' false (some (List.replicate w 0)) a)))) ∧
          (a ≠ 3 → q = false → ∀ h : Hold, (s.strand x.owner).hold = some h → h.redeem = r → exec (.redeemAnswer id) s = .next
            ((if a = 0 then without s id else without (without s id) r).modStrand x.owner (fun y => { y with hold := some { h with answer := some a } })))) ∧
        (∀ (t : Word) (w : Nat) (place : Option (Nat × Nat)) (l : List Byte), x.kind = .redeem t w place false (some l) 0 →
          (place = none → x.live = true → exec (.deliveryComplete id) s = .next
            (((without s id).fillRegs x.dests (x.dests.map (fun r => match r with
              | .v _ _ => .v (BitVec.ofNat 1024 (ofLe l)) | _ => .s (BitVec.ofNat 64 (ofLe l))))) |> freed t id)) ∧
          (∀ tl pa, place = some (tl, pa) → ¬ waitsAtBank s id tl → exec (.deliveryComplete id) s = .next (atBank s id tl (unitsAt pa w))))) ∧
  (∀ (s : State),
      (∀ (id : Nat) (x : Flight) (o : TOwner) (key : Nat), lands s id x → x.kind = .retire o key → onceEach s key → noWaiters s →
        ∃ t, exec (.retirementNotice id) s = .next t ∧ t.flight id = none ∧
          (∀ g ∈ s.flights, g.id < id → g.kind.requests o = some key → t.flight g.id = none) ∧
          (∀ e, (s.entry key e).owner = o → ((s.entry key e).st = .fetching ∨ (s.entry key e).st = .ready) →
            t.entry key e = { gen := nextGen (s.entry key e).gen }) ∧
          (∀ e, (s.entry key e).owner ≠ o ∨ ((s.entry key e).st ≠ .fetching ∧ (s.entry key e).st ≠ .ready) →
            t.entry key e = s.entry key e) ∧
          ∀ k e, k ≠ key → t.entry k e = s.entry k e) ∧
        (∀ (kind n e : Nat) (x : Entry), highWater kind < ((s.source (sourceKey kind n)).entries.filter (fun y => y.2.st != .free)).length →
          (s.source (sourceKey kind n)).reclaimed ≠ some ((s.die (sourceDie (sourceKey kind n))).clock / 2) →
          s.orphan (sourceKey kind n) = some (e, x) → exec (.orphanReclaim kind n) s = .next
            (((((s.modSource (sourceKey kind n) (fun y => { y with reclaimed := some ((s.die (sourceDie (sourceKey kind n))).clock / 2) })).countTickets
              x.node 0).freeEntry (sourceKey kind n) e)).report x.owner.tile (if x.owner.crewed then x.owner.idx else 15) 3
                [s.ticketOf (sourceKey kind n) e x.gen x.part,
                  BitVec.ofNat 64 (((s.die (sourceDie (sourceKey kind n))).clock / 2 - x.arrived) % 2 ^ 48 + x.size * 2 ^ 48)])))

/-- R211, R218, R226, R229: the copy of an item is stored behind the port's items with the port's ordinal; a command joins its engine's
buffer; a cancel removes the items with its tag, but no beacon, also at the translation unit and at an engine; an endpoint whose buffer
is lost, or in error, fails. The cancel at an engine's buffer and at the translation unit is the model's reading (assumption 57), as is
the answer to copies of a lost endpoint (assumption 111). -/
def Obligations.ItemArrives : Prop :=
  ∀ (s : State) (id : Nat) (x : Flight),
    (∀ (q e push : Nat) (i : Item) (failed : Nat) (first : Option Nat) (t pn : Nat) (p : Port), lands s id x →
      x.kind = .item q e push [i] failed first → i.beacon = false → endsAt s q e t pn p → (s.queue q).broken.getLsbD e = false →
      e < 16 → (∀ b n, p.breakAt = some (b, n) → b ≠ p.ordinal) → lastCopy s id q push → failed = 0 →
      exec (.itemStored id) s = .next { without ((handed s x q).modPort t pn (fun _ => stored p i)) id with via := FMap.erase s.via push }) ∧
      (∀ (q : Nat) (c : Cmd) (n k : Nat) (r : List (Nat × Nat)), lands s id x → x.kind = .command q c → (s.queue q).eps = (n, k) :: r →
        exec (.itemStored id) s = .next ((without (handed s x q) id).modEngine n (fun y =>
          { y with buf := y.buf ++ [c], since := if y.buf = [] ∧ y.run = none then (s.die (n / 64)).clock else y.since }))) ∧
      (∀ (q e : Nat) (tag : BitVec 8) (t pn : Nat) (p : Port), lands s id x → x.kind = .cancel q e tag → endsAt s q e t pn p →
        (s.tile t).traceMask.getLsbD pn = false →
        let keep := p.items.filter (fun y => y.item.beacon || decide (y.item.header.extractLsb' 0 8 ≠ tag))
        exec (.cancelArrival id) s = .next ((without s id).modPort t pn (fun _ =>
          { p with items := keep, cancelled := p.cancelled + BitVec.ofNat 32 (p.items.length - keep.length) }))) ∧
      (∀ (q e : Nat) (tag : BitVec 8), lands s id x → x.kind = .cancel q e tag → s.epPort q e = none → s.waitsForResume q e = false →
        (∀ d, s.unitQueue q = some d → exec (.cancelArrival id) s = .next ((without s id).modDie d (fun y =>
          { y with commands := y.commands.filter (fun z => z.beacon || decide (z.header.extractLsb' 0 8 ≠ tag)) }))) ∧
        (∀ n k r, s.unitQueue q = none → (s.queue q).type = 2 → (s.queue q).eps = (n, k) :: r →
          exec (.cancelArrival id) s = .next (if tag = 0 then (without s id).modEngine n (fun y => { y with buf := [] }) else without s id))) ∧
      ∀ q e : Nat, (s.queue q).type ≠ 2 → ((0 < s.toward q e ∧ s.epLost q e = true) ∨ (∃ t pn p, s.epPort q e = some (t, pn, p) ∧
          (s.badBuffer t pn p).isSome = true ∧ (s.queue q).broken.getLsbD e = false)) →
        exec (.endpointFailure q e) s = .next ((s.noteBuffer q e).failEndpoint q e)

/-! ### Crews, beacons, engines and the array at work -/

/-- R18, R106: at a slot at which its park has lasted more than WAIT_LIMIT a strand takes WAIT_TIMEOUT, with the wait and the length of
the park in TRAP_INFO: a strand of a crew with a handler goes on at TRAP_VEC, with the bundle that waited in TRAP_PC. R203, R204: in a
gang each member whose park is over its limit raises it, and all members trap together. R196: a unit in quarantine that nothing uses any
more returns to the pool: what it held is lost, and the tile's waiters are looked at again; one still in use stays. When the content
goes, and that the completion count stays, is the model's choice (assumptions 29, 115). -/
def Obligations.CrewEvents : Prop :=
  (∀ (s : State) (w : Who), (s.tile w.tile).frozen = false → (s.strand w).fused = false → (s.strand w).matched = false →
      let ip := (s.strand w).ip
      let u := { s with cur := { s.cur with who := w, ip := ip } }
      (lateCause s w = none → exec (.waitTimeout w) s = .next s) ∧
        ∀ c, lateCause s w = some c → exec (.waitTimeout w) s = .next (u.takeTrap w c ip) ∧
          (s.debugged w c = false → (s.strand w).crewId ≠ 0xF → (s.strand w).trapCause.getLsbD 7 = false → s.trapVec w ≠ 0 →
            ∃ t, exec (.waitTimeout w) s = .next t ∧ (t.strand w).trapCause = 0x84 ∧ (t.strand w).trapPc = ip ∧
              (t.strand w).trapInfo = c.info ∧ (t.strand w).ip = s.trapVec w ∧ (t.strand w).park = none ∧
              (∀ x, x ≠ w → t.strand x = s.strand x) ∧ SameMemory s t)) ∧
  (∀ (s : State) (w : Who), (s.strand w).fused = true → 1 < (s.gang w).length →
      let ip := (s.strand w).ip
      let u := { s with cur := { s.cur with who := w, ip := ip } }
      let late := (s.gang w).filterMap (fun m => (lateCause s m).map (fun c => (m, c)))
      (s.gangHeld (s.gang w) = true ∨ late = [] → exec (.waitTimeout w) s = .next s) ∧
        (s.gangHeld (s.gang w) = false → late ≠ [] → exec (.waitTimeout w) s = .next (u.gangTrap (s.gang w) late ip))) ∧
  (∀ (s : State) (tile cls unit : Nat), (⟨cls, unit⟩ : Quar) ∈ (s.tile tile).quar →
      (s.unitBusy tile cls unit = true → exec (.quarantineReturn tile cls unit) s = .next s) ∧
        (s.unitBusy tile cls unit = false →
          exec (.quarantineReturn tile cls unit) s = .next ((s.modTile tile (fun y =>
            { y.loseUnit cls unit with quar := y.quar.filter (· ≠ ⟨cls, unit⟩) })).wakeWaiters tile) ∧
          ((s.tile tile).waiters = [] → ∃ t, exec (.quarantineReturn tile cls unit) s = .next t ∧
            (t.tile tile).quar = (s.tile tile).quar.filter (· ≠ ⟨cls, unit⟩) ∧ (∀ n, n ≠ tile → t.tile n = s.tile n) ∧
            (∀ a, (t.tile tile).byte a = if cls = 2 ∧ a / 4096 = unit then 0 else (s.tile tile).byte a) ∧
            (∀ a, (t.tile tile).tag a = if cls = 2 ∧ a / 4096 = unit then true else (s.tile tile).tag a) ∧
            (∀ p, (t.tile tile).oslot p = if cls = 3 ∧ p = unit then {} else (s.tile tile).oslot p) ∧
            ∀ j, (t.tile tile).accum j = if cls = 4 ∧ j = unit then { completions := ((s.tile tile).accum j).completions }
              else (s.tile tile).accum j)))

/-- R353 to R357: a beacon is stored where the tile runs a placement inside its region, and the port closes; elsewhere it is removed; at
a loop-back port it ends the recording. A tile that a forced cut finds freezes, and its beacons go out as they are admitted. The owner of
a hardware forward and what a loop-back port does with a beacon are the model's readings (assumption 45); the drop of a beacon at a queue
that is not OPEN is its choice (assumption 129). -/
def Obligations.BeaconEvents : Prop :=
  ∀ (s : State),
    (∀ (id : Nat) (x : Flight) (q e push : Nat) (i : Item) (first : Option Nat) (t pn : Nat) (p : Port), lands s id x →
      x.kind = .item q e push [i] 0 first → i.beacon = true → endsAt s q e t pn p → (s.queue q).broken.getLsbD e = false →
      p.breakSeq ≠ some i.cut.seq → (∀ b n, p.breakAt = some (b, n) → b ≠ p.ordinal) → lastCopy s id q push →
      (((s.tile t).place = none ∨ ∃ a, (s.tile t).place = some a ∧ s.inside a i.cut.rgn = false) →
        exec (.beaconArrival id) s = .next { without (handed s x q) id with via := FMap.erase s.via push }) ∧
      (∀ a, (s.tile t).place = some a → s.inside a i.cut.rgn = true → (s.tile t).traceMask.getLsbD pn = false →
        ((s.queue q).loopBack = false → exec (.beaconArrival id) s = .next { without ((handed s x q).modPort t pn (fun _ =>
            { p with items := p.items ++ [{ ordinal := p.ordinal, item := i }], ordinal := (p.ordinal + 1) % 2 ^ 48
                     closed := true, moved := true })) id with via := FMap.erase s.via push }) ∧
        ((s.queue q).loopBack = true → exec (.beaconArrival id) s = .next { without ((handed s x q).modPort t pn (fun _ =>
            { p with ordinal := (p.ordinal + 1) % 2 ^ 48, arrivedSeq := some i.cut.seq, moved := true
                     recording := if p.recording = some i.cut.seq then none else p.recording })) id with via := FMap.erase s.via push }))) ∧
      (∀ (t : Nat) (c : TileCut), (s.tile t).cut = none → (s.tile t).place ≠ none →
        (s.tile t).strands.any (fun e => e.2.running && e.2.hold.isSome) = false →
        ((s.tile t).cutDue = some c ∨ ((s.tile t).cutDue = none ∧ s.cutReady t = some c ∧ c.kind ≠ 1 ∧ c.kind ≠ 4)) →
        exec (.forcedCutFreeze t) s = .next (s.freezeTile t c ((s.outputSet t).map (·.1)))) ∧
      ∀ (t pn : Nat) (c : TileCut) (p : Port), (s.tile t).beaconDue.find? (fun e => e.1 == pn) = some (pn, c) → s.port t pn = some p →
        let sent := fun (b : State) => b.modTile t (fun y => { y with beaconDue := y.beaconDue.filter (· ≠ (pn, c)) })
        ((s.queue p.queue).state = 1 → s.admits ⟨t, 8⟩ p.queue 1 = true → exec (.beaconForward t pn) s = .next
          (sent ((s.countPush ⟨t, 8⟩ pn p.queue [beaconItem c]).post ⟨t, 8⟩ p.queue [beaconItem c]))) ∧
          ((s.queue p.queue).state ≠ 1 → exec (.beaconForward t pn) s = .next (sent s))

/-- R282, R289, R290, R299: an idle engine takes the next command of its buffer; a command that writes into an operand slot waits for the
slot, opens it or ends. R163, R285 to R288, R291, R300: the engine performs the next element of its command and sends its writes on, or
what hinders it ends the command or makes it wait; a write lands in memory, or goes to the banks of its tile. That an aborted command
ends with status 7 and address 0 (assumptions 32, 35), what counts as a strip in the alternation with streams (assumption 104), and
addresses outside a layout (assumption 34) are the model's choices. -/
def Obligations.CommandProceeds : Prop :=
  (∀ (s : State) (e : Nat) (c : Cmd) (r : List Cmd), popsCommand s e c r →
      (c.dkind ≠ 3 ∨ c.aborted = true ∨ s.malformed c = true →
        exec (.engineCommandPop e) s = .next (begun s e c r (firstPhase s c))) ∧
      (c.dkind = 3 → c.aborted = false → s.malformed c = false →
        (s.cmdSlot c = none → exec (.engineCommandPop e) s = .next (begun s e c r (.ended 2 (c.word 2).toNat))) ∧
        ∀ p, s.cmdSlot c = some p →
          let o := (s.tile c.who.tile).oslot p
          let first := (c.word 2).getLsbD 23
          (o.state = .full → (o.sticky = true ∨ first = false) →
            exec (.engineCommandPop e) s = .next (begun s e c r (.ended 4 (c.word 2).toNat))) ∧
          (first = true → o.state ≠ .empty → ¬ (o.state = .full ∧ o.sticky = true) →
            exec (.engineCommandPop e) s = .next (begun s e c r (.slot p))) ∧
          ((o.state = .empty ∨ (o.state = .filling ∧ first = false)) →
            let other := (∃ f, o.format = some f ∧ f ≠ bitsOf (c.word 2) 19 4) ∨
              ((s.tile c.who.tile).disallowed none p (bitsOf (c.word 2) 19 4)).isSome = true
            ((c.word 2).getLsbD 4 = false → other →
              exec (.engineCommandPop e) s = .next (begun s e c r (.ended 4 (c.word 2).toNat))) ∧
            (((c.word 2).getLsbD 4 = true ∨ ¬ other) →
              ∃ t, exec (.engineCommandPop e) s = .next t ∧
                (t.engine e).run = some { cmd := c, busy := (s.die (e / 64)).clock, slot := some p } ∧ (t.engine e).buf = r ∧
                (t.tile c.who.tile).oslot p = { o with
                  state := .filling, format := if (c.word 2).getLsbD 4 then o.format else some (bitsOf (c.word 2) 19 4) })))) ∧
  (∀ (s : State) (e : Nat) (r : Run), atPhase s e r .run → r.busy ≤ (s.die (e / 64)).clock → (s.engine e).free ≤ (s.die (e / 64)).clock →
      (∀ a, s.accessOf e r = .ok a → s.hindered e r a = none → r.cmd.dkind < 3 →
        let n := (elementBytes s r a).length
        let u := (s.strikePieces e r.cmd false (a.src ++ a.index)).afterPieces (a.src ++ a.index)
        let v := moving ((u.postWrites e r.cmd a.dst (elementBytes s r a)).engineMoved e n) e n
        exec (.engineElement e) s = .next (worked (v.modRun e (fun x => nextElement x (v.die (e / 64)).clock n)) e)) ∧
        (∀ h, (s.accessOf e r = .error h ∨ ∃ a, s.accessOf e r = .ok a ∧ s.hindered e r a = some h) →
          (∀ x, h = .denied x → exec (.engineElement e) s = .next (worked (toPhase s e (.ended 2 x)) e)) ∧
            (∀ x, h = .gone x → exec (.engineElement e) s =
              .next (worked ((engineIdle s e).engineFatal e r.cmd.who x .unregistered) e)) ∧
            (∀ k x, h = .miss k x → exec (.engineElement e) s =
              .next (worked ((toPhase s e (.page k.page x)).joinMerge r.cmd.who k (some e)) e)) ∧
            (∀ d b, h = .refresh d b → exec (.engineElement e) s = .next (worked (toPhase s e (.refresh d b)) e)) ∧
            (∀ l, h = .bank l → exec (.engineElement e) s = .next (worked (l.foldl (fun (b : State) x =>
              b.modTile x.1 (fun y => { y with bankQ := y.bankQ ++ [{ flight := 0, unit := x.2, engine := some e }] })) (toPhase s e .bank)) e)) ∧
            (h = .queue → exec (.engineElement e) s = .next (worked (toPhase s e (.ended 5 (r.cmd.word 2).toNat)) e)) ∧
            (h = .room → exec (.engineElement e) s = .next (worked (toPhase s e .room) e)) ∧
            (∀ p x, h = .path p x → exec (.engineElement e) s = .next (worked (toPhase s e (.peer p x (s.die (e / 64)).clock)) e)) ∧
            (h = .order → exec (.engineElement e) s = .next (worked s e)))) ∧
  (∀ (s : State) (id : Nat) (x : Flight) (e : Nat) (c : Cmd) (p : Piece) (data : List Byte) (rest : List Move), let u := { s with due := rest }
      s.due = .land id :: rest → s.flight id = some x → u.arrived x = true → u.queued x = false → x.kind = .ewrite e c p data →
      (∀ pa, p.spot = .hbm pa →
        step s = .next (counted ((without u id).hbmWrite pa (ofLe (landedBytes s c p data)) p.n) e c p.n)) ∧
        (∀ t pa, p.spot = .pad t pa → step s = .next (atBank u id t (unitsAt (landingAt s c p t pa) p.n))))

/-- R290, R292, R294, R296, R298: a command that has ended reports a fault, then writes its ring; a ring write fills the slot at the
write index; a phase of a barrier that is complete gives way to the next; a strip lands in its stream, or goes to the banks of a tile.
R288, R321: a command with rel ends once its writes are performed, at DEVICE scope and above once its circuits are swept besides. R163,
R289 to R291, R300, R414: what an engine waited for has come, and its command goes on. That a command whose crew has lost the slot ends
with ACCESS and word 2 as its address (assumption 35) and whose turn it is at an engine (assumption 104) are the model's choices. -/
def Obligations.CommandEnds : Prop :=
  (∀ (s : State) (e : Nat) (r : Run),
      (∀ status x, atPhase s e r (.ended status x) → (r.cmd.word 0).getLsbD 28 = true →
        (s.owesLanding e r.cmd = true → exec (.commandEnd e) s = .next s) ∧
        (s.owesLanding e r.cmd = false → 4 ≤ bitsOf (r.cmd.word 0) 29 3 → r.circuits ≠ [] → exec (.commandEnd e) s = .next
          (r.circuits.foldl (fun (a : State) k => a.send (engineWho e) 1 none (.sweep k)) (s.modRun e (fun y => { y with circuits := [] })))) ∧
        (s.owesLanding e r.cmd = false → bitsOf (r.cmd.word 0) 29 3 < 4 → s.owesWrites e r.cmd = false)) ∧
      (∀ x, atPhase s e r (.ended 0 x) → s.owesWrites e r.cmd = false → r.slot = none →
        (∀ n, r.cmd.ring = some n → (FMap.find (s.tile r.cmd.who.tile).rings n).isSome = true →
          exec (.commandEnd e) s = .next (toPhase (paid s r) e (.ring 0))) ∧
        (r.cmd.ring = none → exec (.commandEnd e) s = .next (engineIdle (paid s r) e))) ∧
      (∀ status x, atPhase s e r (.ended status x) → s.owesWrites e r.cmd = false → status ≠ 0 → status ≠ 7 → r.slot = none → r.cmd.ring = none →
        exec (.commandEnd e) s = .next (engineIdle ((paid s r).reportTo r.cmd.who.tile
          (if (r.cmd.word 4).getLsbD 16 then some (bitsOf (r.cmd.word 4) 0 16) else r.cmd.crew.bind (s.reportQueue r.cmd.who.tile))
          (if status = 6 then 4 else 1)
          [BitVec.ofNat 64 (e + 2 ^ 8 * status + 2 ^ 16 * r.cmd.tag + 2 ^ 32 * (r.cmd.who.tile % 2048) + 2 ^ 43 * (r.cmd.who.strand % 8)),
            BitVec.ofNat 64 x, BitVec.ofNat 64 r.bytes]) e)) ∧
      (∀ status n g, atPhase s e r (.ring status) → r.cmd.ring = some n → FMap.find (s.tile r.cmd.who.tile).rings n = some g →
        FMap.find g.slots g.wr = none →
        exec (.ringWrite e) s = .next ((engineIdle s e).modTile r.cmd.who.tile 
          (withRing n (ringFilled g (BitVec.ofNat 64 (r.cmd.tag + 2 ^ 16 * status + 2 ^ 24 * r.bytes)))))) ∧
      (∀ status n g, atPhase s e r (.ring status) → status ≠ 7 → r.cmd.ring = some n → FMap.find (s.tile r.cmd.who.tile).rings n = some g →
        FMap.find g.slots g.wr ≠ none → exec (.ringWrite e) s = .next s) ∧
      (∀ t n, ((s.tile t).bar n).arrivals = ((s.tile t).bar n).expected → ((s.tile t).bar n).bytes = 0 →
        exec (.barrierPhaseComplete t n) s = .next (s.modBar t n (fun b => { b with phase := b.phase + 1, arrivals := 0, bytes := 0 }))) ∧
      ∀ (id : Nat) (x : Flight) (reg va : Nat) (ws : List (Option Nat)) (st : Stream), lands s id x → x.kind = .strip reg va ws →
        FMap.find (s.strand x.owner).streams reg = some st →
        (∀ y ∈ s.flights, y.id < id → y.owner = x.owner → ∀ a l, y.kind ≠ .strip reg a l) →
        (∀ t, s.stripTarget x va = .ok t → (∀ d off, t = .ws d off → s.refreshing d (off / 128 % 32) = false) → (∀ p a v, t ≠ .peer p a v) →
          (∀ i, i < 16 → s.targetBad (t.plus (8 * i)) 8 = false) →
          ((∀ u off, t ≠ .tile u off) → ws.length = 16 → (∀ y ∈ ws, y ≠ none) →
            exec (.streamStripLand id) s = .next (moving (((without s id).modStrand x.owner (fun y => y.setStream reg
              { st with landed := st.landed ++ [some (BitVec.ofNat 1024 (ofLe (fetched ws)))] })).modEngine (homeEngine x.owner.tile)
                (fun y => { y with strip := true })) (homeEngine x.owner.tile) 128)) ∧
          (∀ u off, t = .tile u off → ¬ waitsAtBank s id u →
            exec (.streamStripLand id) s = .next (atBank s id u ((List.range 16).map (fun i => (s.tile u).winPhys (off + 8 * i) / 64)).dedup))) ∧
        (∀ c, s.stripTarget x va = .bad c → c.code ≠ .unregistered →
          exec (.streamStripLand id) s = .next ((without s id).modStrand x.owner (fun y => y.setStream reg
            { st with landed := st.landed ++ [none] })))) ∧
  (∀ (s : State) (e : Nat) (r : Run), (s.engine e).run = some r →
      (∀ p, r.phase = .slot p → s.cmdSlot r.cmd ≠ some p →
        exec (.engineWaitEnd e) s = .next (toPhase s e (.ended 2 (r.cmd.word 2).toNat))) ∧
      (∀ p, r.phase = .slot p → s.cmdSlot r.cmd = some p → ((s.tile r.cmd.who.tile).oslot p).state = .empty →
        exec (.engineWaitEnd e) s = .next (s.openSlot e r p)) ∧
      (∀ p x, r.phase = .page p x → (∀ m ∈ (s.die (e / 64)).merge, m.isFor r.cmd.part p = true → e ∉ m.engines) →
        exec (.engineWaitEnd e) s = .next (toPhase s e .run)) ∧
      (r.phase = .room → s.admits (engineWho e) (bitsOf (r.cmd.word 2) 0 16) 1 = true →
        exec (.engineWaitEnd e) s = .next (toPhase s e .run)) ∧
      (∀ d b, r.phase = .refresh d b → s.refreshing d b = false → exec (.engineWaitEnd e) s = .next (toPhase s e .run)) ∧
      (∀ p x since, r.phase = .peer p x since → s.hasPath p = true → exec (.engineWaitEnd e) s = .next (toPhase s e .run)) ∧
      (∀ p x since, r.phase = .peer p x since → s.hasPath p = false → since + 40000 ≤ (s.die (e / 64)).clock →
        exec (.engineWaitEnd e) s = .next ((engineIdle s e).engineFatal e r.cmd.who x .unregistered)) ∧
      (r.phase = .path → (∀ q ∈ (s.tile r.cmd.who.tile).path, ∀ p o side l, q.kind ≠ .write e p o side l) →
        exec (.engineWaitEnd e) s = .next (s.modRun e (fun x => nextElement x (s.die (e / 64)).clock x.cmd.size))) ∧
      (r.phase = .bank → (∀ y ∈ s.tiles, ∀ q ∈ y.2.bankQ, q.engine ≠ some e) →
        exec (.engineWaitEnd e) s = .next (toPhase s e .run)) ∧
      ∀ d b, s.refreshing d b = false → (s.die d).refreshWait = [] →
        exec (.refreshWindowEnd d b) s = .next { s with engines := afterRefresh d b s.engines })

/-- R258, R259, R264 to R266, R270, R271, R273, R278: the matrix path starts a request and completes it; an idle array takes a feedback
write or the next ready rule; a firing updates the elements that it computes; a completed rule, a feedback write, a drain and an MRED
leave the accumulator as stated. The state FILLING of a slot that feedback writes (assumption 41), and EMPTY where no rule waits for the
write any more (assumption 130), are the model's choices. -/
def Obligations.MatrixEvents : Prop :=
  ∀ (s : State) (n : Nat),
    (∀ r rest, (s.tile n).path = r :: rest →
      (r.started = false → r.issued ≤ s.now n →
        exec (.pathRequestStart n) s = .next (s.modTile n (fun y => { y with path := { r with started := true } :: rest }))) ∧
      (∀ p off side last, r.total ≤ r.moved → r.kind = .fill p off side last →
        let u := s.modTile n (fun y => { y with path := rest })
        exec (.pathRequestComplete n) s = .next (u.modTile n (fun y => { y with os := FMap.set y.os p (settledSlot u n p last) }))) ∧
      (∀ e p off side l, r.total ≤ r.moved → r.kind = .write e p off side l →
        exec (.pathRequestComplete n) s = .next ((s.modTile n (fun y => { y with path := rest })).engineWrote e l.length))) ∧
    ((s.tile n).job = none →
      ((s.tcyc n + colOf n) % 8 < 8 - (s.die (dieOf n)).pwrStep.toNat ∨ (s.tile n).backEnded = some (s.now n)) →
      (∀ j p, j < 4 → writesBack (s.tile n) j p → (∀ i q, i < j → ¬ writesBack (s.tile n) i q) →
        exec (.firingStart n) s = .next (s.modTile n (fun y =>
          { y with job := some { feedback := true, acc := j, slots := [p], left := 64 }
                   os := FMap.set y.os p { y.oslot p with state := .filling } }))) ∧
      (((s.tile n).frozen = true ∨ (s.tile n).arrayOn = false) → (∀ i q, i < 4 → ¬ writesBack (s.tile n) i q) →
        exec (.firingStart n) s = .next (s.modTile n (fun y => y))) ∧
      (∀ j slots, (s.tile n).frozen = false → (s.tile n).arrayOn = true → j < 4 → firesOn (s.tile n) j slots →
        (∀ i q, i < 4 → ¬ writesBack (s.tile n) i q) →
        (∀ i q, i < 4 → (i + 3 - (s.tile n).lastFired % 4) % 4 < (j + 3 - (s.tile n).lastFired % 4) % 4 → ¬ firesOn (s.tile n) i q) →
        exec (.firingStart n) s = .next (s.modTile n (fun y =>
          { y with job := some { feedback := false, acc := j, slots := slots, left := (y.accum j).rule.cycles }
                   lastFired := j, firings := (y.firings + 1) % 2 ^ 32 })))) ∧
    (∀ j a b rest, (s.tile n).job = some { feedback := false, acc := j, slots := a :: b :: rest, left := 0 } →
      (s.tile n).firePoison { feedback := false, acc := j, slots := a :: b :: rest, left := 0 } = none →
      let x := (s.tile n).accum j
      let mask := (s.tile n).oslot (rest.headD 16)
      ∃ t, exec (.firingEnd n) s = .next t ∧ (t.tile n).job = none ∧
        (∀ p, (p = a ∨ p = b) → (t.tile n).oslot p =
          if ((s.tile n).oslot p).sticky then (s.tile n).oslot p else { (s.tile n).oslot p with state := .empty, format := none }) ∧
        (∀ p, p ≠ a → p ≠ b → (t.tile n).oslot p = (s.tile n).oslot p) ∧
        (∀ i c, i < 128 → c < 64 → computes x mask i c → FMap.get 0 ((t.tile n).accum j).data (64 * i + c) =
          if x.rule.pair = .i8i8 then
            BitVec.ofInt 32 ((FMap.get 0 x.data (64 * i + c)).toInt + ((List.range 128).map (fun k =>
              (BitVec.ofNat 8 (((s.tile n).oslot a).byte (128 * i + k))).toInt * (BitVec.ofNat 8 (((s.tile n).oslot b).byte (128 * c + k))).toInt)).sum)
          else slabUpdate (BitVec.ofNat 32 (0x7FC00000 + n % 2048 * 2048 + x.rule.num)) (FMap.get 0 x.data (64 * i + c)) x.rule.gscale
            (slabGroups x.rule.pair ((s.tile n).oslot a) ((s.tile n).oslot b) i c (BitVec.ofNat 32 (0x7FC00000 + n % 2048 * 2048 + x.rule.num)))) ∧
        (∀ i c, i < 128 → c < 64 → ¬ computes x mask i c → FMap.get 0 ((t.tile n).accum j).data (64 * i + c) =
          if x.rule.count + 1 = x.rule.kf ∧ i < x.rule.m ∧ c < x.rule.n then x.rule.ext.fill else FMap.get 0 x.data (64 * i + c)) ∧
        ((t.tile n).accum j).state = (if x.rule.count + 1 = x.rule.kf then .full else .opened) ∧
        ((t.tile n).accum j).rule.active = (if x.rule.count + 1 = x.rule.kf ∧ x.rule.ext.fb = none then false else x.rule.active) ∧
        ((t.tile n).accum j).rule.waiting = (if x.rule.count + 1 = x.rule.kf ∧ x.rule.ext.fb ≠ none then true else x.rule.waiting) ∧
        ((t.tile n).accum j).completions = (if x.rule.count + 1 = x.rule.kf then (x.completions + 1) % 65536 else x.completions)) ∧
    (∀ j p rest, (s.tile n).job = some { feedback := true, acc := j, slots := p :: rest, left := 0 } →
      let x := (s.tile n).accum j
      (x.rule.active = true → x.rule.waiting = true → x.backBad = false) →
      ∃ t, exec (.feedbackWriteEnd n) s = .next t ∧ (t.tile n).job = none ∧ (t.tile n).backEnded = some (s.now n) ∧
        (x.rule.active = true → x.rule.waiting = true →
          ((t.tile n).oslot p).state = .full ∧ ((t.tile n).oslot p).format = some ((pairInfo x.rule.pair).back.getD 3) ∧
            ((t.tile n).oslot p).data = feedbackData ((pairInfo x.rule.pair).back.getD 3) x ((s.tile n).oslot p).data ∧
            ((t.tile n).accum j).state = (if x.rule.zero then .clear else .opened) ∧
            ((t.tile n).accum j).data = (if x.rule.zero then [] else x.data) ∧
            ((t.tile n).accum j).rule = { x.rule with count := 0, waiting := false }) ∧
        ((x.rule.active = false ∨ x.rule.waiting = false) →
          (t.tile n).oslot p = { (s.tile n).oslot p with state := .empty, format := none })) ∧
    (∀ r j, r ∈ (s.tile n).path → drainOver s n r j →
      ∃ t, exec (.drainComplete n) s = .next t ∧ t = s.modTile n (fun y => { y with path := (t.tile n).path, ac := (t.tile n).ac }) ∧
        (t.tile n).path = (s.tile n).path.filter (fun z => (z.drainedAt (s.now n)).isNone) ∧
        (∀ i, (∃ q ∈ (s.tile n).path, drainOver s n q i) → (t.tile n).accum i =
          { (s.tile n).accum i with data := [], poison := [], state := .clear, busy := false }) ∧
        ∀ i, (∀ q ∈ (s.tile n).path, ¬ drainOver s n q i) → (t.tile n).accum i = (s.tile n).accum i) ∧
    (∀ id x j, lands s id x → x.kind = .mredPart n j → (∀ e ∈ ((s.tile n).accum j).poison, e.2 = false) →
      exec (.mredPartSent id) s = .next ((without s id).modTile n (fun y => { y with
        ac := FMap.set y.ac j { y.accum j with data := [], poison := [], state := .clear, busy := false } }))) ∧
    ∀ id x j d, lands s id x → x.kind = .mredSum n j d → (∀ e ∈ ((s.tile n).accum j).poison, e.2 = false) →
      exec (.mredComplete id) s = .next ((without s id).modTile n (fun y => { y with
        ac := FMap.set y.ac j { y.accum j with data := d, poison := [], state := .full, busy := false } }))

/-! ### Placements, translation and services -/

/-- R346 to R349, R418: a pass places the one request that waits at its first free position, counts a refusal where there is none, keeps
one whose predecessors are not DONE, and drains one whose predecessor FAILED. -/
def Obligations.PassPlaces : Prop :=
  ∀ (s : State) (a : Nat) (r : PlaceRecord), s.inState 0 = [a] → s.passDue = true → s.recordOf a = some r → r.entries ≠ [] →
    let u := { s with passDue := false }
    ((∀ p ∈ r.preds, s.placeState p = 5) → s.fits (s.rcb a 1).toNat (s.dueOf a r) = true →
      (∀ ts, firstPosition s a ts →
        ∃ t, exec .schedulingPass s = .next t ∧ t = u.choosePlacement a ts ∧ t.placeState a = 1 ∧
          ∀ x ∈ ts, (t.tile x).place = some a ∧ (t.tile x).part = bitsOf (s.rcb a 0) 5 6) ∧
      ((∀ ts ∈ s.positions a, ∃ t ∈ ts, (s.tile t).place ≠ none ∨ s.reserved t = true) →
        exec .schedulingPass s = .next ((u.modRcb a 14 (fun x => putField x 32 8 (min (bitsOf (s.rcb a 14) 32 8 + 1) 255))).modRcb a 13
          (fun x => bumpField x 32 32 1)))) ∧
    ((∃ p ∈ r.preds, s.placeState p ≠ 5) → (∀ p ∈ r.preds, s.placeState p ≠ 6) → exec .schedulingPass s = .next u) ∧
    ((∃ p ∈ r.preds, s.placeState p = 6) → FMap.find s.nodes a ≠ none → exec .schedulingPass s = .next (drained u a 0xFF))

/-- R299: a placement with read rights to the weight store does not start while a command writes the store of one of its dies. R42, R177,
R209, R294, R346, R418: a placement whose attachments its tiles cannot take drains with cause 0xFD; otherwise each of its tiles is
written, its strands start, and the placement runs; one that was pre-empted gets its context back. R346, R347: a draining placement whose
commands have ended gives its tiles back, is DONE with cause 0 and FAILED otherwise, and a pass becomes due. R31: the data segment. What
a context gives back, and what the tiles' registers and translation buffers hold afterwards, are the model's choices (assumptions 47,
94). -/
def Obligations.PlacementEnds : Prop :=
  (∀ (s : State) (a : Nat) (n : Node) (r : PlaceRecord), FMap.find s.nodes a = some n → n.record = some r → s.placeState a = 1 →
      (r.wsRead = true → (∃ t ∈ n.tiles, s.wsFilling (dieOf t) = true) → exec (.placementLoad a) s = .next s) ∧
      ((r.wsRead = true → ∀ t ∈ n.tiles, s.wsFilling (dieOf t) = false) →
      (n.resume = true → exec (.placementLoad a) s = .next (s.restoreContext a n)) ∧
      (n.resume = false → (∃ e ∈ n.tiles.zip r.entries, s.entryOk e.1 e.2 = false) → exec (.placementLoad a) s = .next (drained s a 0xFD)) ∧
      (n.resume = false → (∀ e ∈ n.tiles.zip r.entries, s.entryOk e.1 e.2 = true) → (parseImage r.image).data = none → n.tiles.Nodup →
        ∃ u, exec (.placementLoad a) s = .next u ∧ u.placeState a = 2 ∧
          ∀ e ∈ n.tiles.zip r.entries,
            let y := u.tile e.1
            y.place = some a ∧ y.mirror = false ∧ y.crews = [] ∧ y.frozen = false ∧ y.arrayOn = false ∧
              (∀ i, i < (parseImage r.image).lines.length → FMap.get [] y.store i = (parseImage r.image).lines.getD i []) ∧
              (∀ i, i < 8 → FMap.get {} y.c (24 + i) = { now := { val := e.2.params.getD i 0 } }) ∧
              (∀ i, i < 8 → (u.strand ⟨e.1, i⟩).running = (FMap.find (parseImage r.image).starts i).isSome ∧
                (u.strand ⟨e.1, i⟩).ip = BitVec.ofNat 64 ((FMap.find (parseImage r.image).starts i).getD 0) ∧
                (u.strand ⟨e.1, i⟩).system = r.system ∧ (u.strand ⟨e.1, i⟩).crewId = 0xF ∧
                (u.strand ⟨e.1, i⟩).startAt = s.now e.1 + 1) ∧
              (∀ p ∈ e.2.ports, (e.2.ports.map (·.1)).Nodup → ∃ q, FMap.find y.ports p.1 = some q ∧ q.queue = p.2.1 ∧ q.consumer = !p.2.2 ∧
                q.items = []) ∧
              ∀ i, i < 16 → e.2.rings.getD i 0 ≠ 0 → FMap.find y.rings i = some { size := e.2.rings.getD i 0 }))) ∧
  (∀ (s : State) (a : Nat) (n : Node), FMap.find s.nodes a = some n → s.placeState a = 4 → bitsOf (s.rcb a 0) 0 2 = 3 →
      (∀ t ∈ n.tiles, (s.tile t).place = some a → s.tileCommands t = false) → s.notifyReady a = true →
      ∃ u, exec (.drainingComplete a) s = .next u ∧ u.passDue = true ∧
        u.placeState a = (if n.cause.getD 0 = 0 then 5 else 6) ∧ bitsOf (u.rcb a 16) 16 8 = (n.cause.getD 0).toNat ∧
        ∀ t ∈ n.tiles, (s.tile t).place = some a → (u.tile t).place = none ∧ (u.tile t).ports = [] ∧ (u.tile t).frozen = false ∧ (u.tile t).tlb = [])

/-- R359, R385: what the supervisor does once every placement of a cut region is FROZEN: REPLACE, unless it waits for room for a data
segment (assumption 106), STOP, and for PREEMPT and CHECKPOINT the quiesce, after which the context is saved. Where the saved context
stands is the model's choice (assumption 47). -/
def Obligations.CutActs : Prop :=
  ∀ (s : State) (rgn : Nat) (c : Cut),
    (cutReached s rgn 1 c →
      (∀ u, s.replaceAll c.entries = some u → exec (.cutActionReplace rgn) s = .next ((u.recordCut rgn c).thawRegion rgn)) ∧
        (s.replaceAll c.entries = none → exec (.cutActionReplace rgn) s = .next s)) ∧
    (cutReached s rgn 2 c → exec (.cutActionPreempt rgn) s = .next (withCut s rgn (some { c with acting := true }))) ∧
    (cutReached s rgn 3 c → exec (.cutActionStop rgn) s = .next (withCut (s.recordCut rgn c) rgn (some { c with done := true }))) ∧
    (cutReached s rgn 4 c → exec (.cutActionCheckpoint rgn) s = .next (withCut s rgn (some { c with acting := true }))) ∧
    (s.cutOf rgn = some c → c.acting = true → (∀ t ∈ s.liveTiles rgn, s.quiet t = true) →
      let ps := (s.placementsIn rgn).filter (fun a => s.placeState a == 3)
      let u := s.recordCut rgn c
      (c.kind = 2 → exec (.quiesceEnd rgn) s = .next (withCut (ps.foldl (fun (b : State) a => b.preempt a) u) rgn none)) ∧
        (c.kind = 4 → exec (.quiesceEnd rgn) s = .next ((ps.foldl (fun (b : State) a => b.saveContext a false) u).thawRegion rgn))) ∧
    (∀ (a : Nat) (n : Node) (b : Bool), FMap.find s.nodes a = some n → s.rcb (s.setter 5 7 a) 2 = 0 →
      s.saveContext a b = s.modNode a (fun y => { y with context := y.tiles.map (fun t => (t, s.tile t)), resume := b })) ∧
    (s.cutOf rgn = some c → (∃ t ∈ s.liveTiles rgn, s.quiet t = false) → exec (.quiesceEnd rgn) s = .next s)

/-- R340, R368 to R370: the translation unit takes the first command of its queue. MAP_DONE removes the merge entry of the page; REFUSE
removes it, and every strand on it takes PAGE_REFUSED when it repeats its translation, while engines and requests of the host end;
INVALIDATE removes the page from the die's cache and from the TLBs of its tiles, and its reply sets out once every access translated
before has been performed; any other code is discarded and counted. R363, R365 to R367: a walk that ends with a page gives it to the
die's cache and to the TLB of every strand that waits for it; one that ends LAZY leaves its entry in the table and pushes a fault item to
the pager; an unregistered page ends the walk, and every strand on it takes UNREGISTERED. Which accesses the reply waits for is the
model's reading (assumption 62); that it is dropped at a queue that is not OPEN is its choice (assumption 129). -/
def Obligations.TranslationEvents : Prop :=
  (∀ (s : State) (d : Nat) (x : Item) (r : List Item), commandFirst s d x r →
      let code := bitsOf (x.word 0) 0 4
      let part := bitsOf (x.word 0) 4 6
      let page := (x.word 1).toNat / 2 ^ 21
      let u := commandTaken s d r
      (code = 1 → exec (.mapDone d part (x.word 1)) s = .next (unmerged u d part page)) ∧
      (code = 2 →
        (mergeOf s d part page = none → exec (.refusePage d part (x.word 1)) s = .next u) ∧
        ∀ m, mergeOf s d part page = some m →
          exec (.refusePage d part (x.word 1)) s = .next (u.refuse d part page) ∧
          (m.engines = [] → m.calls = [] → ∃ t, exec (.refusePage d part (x.word 1)) s = .next t ∧
            (t.die d).commands = r ∧ mergeOf t d part page = none ∧
            (∀ w ∈ m.faulters, t.strand w = { s.strand w with xfault := some (page, 0x17) }) ∧
            (∀ w, w ∉ m.faulters → t.strand w = s.strand w) ∧ SameMemory s t ∧
            t.outbox = s.outbox ++ ((m.faulters.filterMap (fun w => (s.tile w.tile).place)).dedup).map
              (fun a => .memoryExhausted a (page * 2 ^ 21)))) ∧
      (code = 3 → ∃ t, exec (.invalidatePage d part (x.word 1) (bitsOf (x.word 2) 0 16)) s = .next t ∧
        (t.die d).xcache = (s.die d).xcache.filter (fun e => !e.covers part (x.word 1).toNat) ∧ (t.die d).commands = r ∧
        (∀ n, dieOf n = d → (t.tile n).tlb = (s.tile n).tlb.filter (fun e => !e.covers part (x.word 1).toNat)) ∧
        (∀ n, dieOf n ≠ d → t.tile n = s.tile n) ∧ (∀ w, t.strand w = s.strand w) ∧ SameMemory s t ∧
        t.flights = s.flights ++ [{ id := s.nextId, owner := ⟨512 * d, 9⟩, die := dieOf (512 * d), lo := s.now (512 * d) + 1
                                    kind := .invalidated d part (x.word 1).toNat (bitsOf (x.word 2) 0 16) }]) ∧
      (code = 0 ∨ 3 < code → (∀ a, s.partNode 0 = some a → exec (.unknownTranslationCommand d code) s =
          .next (u.modRcb a 14 (fun y => bumpField y 40 24 1))) ∧
        (s.partNode 0 = none → exec (.unknownTranslationCommand d code) s = .next u))) ∧
  (∀ (s : State) (d part page : Nat),
      ((∀ m ∈ (s.die d).merge, m.part = part → m.page = page → m.walking = false) →
        exec (.tlbWalkEnd d part page) s = .next s) ∧
      ∀ m, (s.die d).merge.find? (fun y => y.part == part && y.page == page && y.walking) = some m →
        (∀ x, (s.cached d part page = some x ∨ (s.cached d part page = none ∧ s.walk part (page * 2 ^ 21) = .page x)) →
          ∃ t, exec (.tlbWalkEnd d part page) s = .next t ∧ mergeOf t d part page = none ∧ x ∈ (t.die d).xcache ∧
            (∀ w ∈ m.faulters, x ∈ (t.tile w.tile).tlb) ∧ (∀ n, (∀ w ∈ m.faulters, w.tile ≠ n) → t.tile n = s.tile n) ∧
            (∀ w, t.strand w = s.strand w) ∧ SameMemory s t) ∧
        (s.cached d part page = none → s.walk part (page * 2 ^ 21) = .lazy none →
          let n := (s.die d).faultSeq + 1
          let u := s.modDie d (fun y => { y with faultSeq := n, merge := y.merge.map (fun z =>
            if z.part == m.part && z.page == m.page then { m with walking := false, seq := n } else z) })
          exec (.tlbWalkEnd d part page) s = .next (match (s.die d).faultQueue with
            | none => u
            | some q => u.post ⟨512 * d, 9⟩ q [{ header := itemHeader 4 0 false 0, words := [
                BitVec.ofNat 64 (m.part + 2 ^ 6 * m.kind + 2 ^ 8 * min m.count 255 + (if m.write then 2 ^ 16 else 0)),
                BitVec.ofNat 64 (2 ^ 21 * m.page),
                BitVec.ofNat 64 (m.tile % 2 ^ 11 + 2 ^ 11 * (m.strand % 2 ^ 3) + 2 ^ 16 * (m.ip % 2 ^ 16) + 2 ^ 32 * (m.engine % 2 ^ 8)),
                BitVec.ofNat 64 n] }])) ∧
        (s.cached d part page = none → s.walk part (page * 2 ^ 21) = .unregistered none → m.engines = [] →
          ∃ t, exec (.tlbWalkEnd d part page) s = .next t ∧ mergeOf t d part page = none ∧
            (∀ w ∈ m.faulters, t.strand w = { s.strand w with xfault := some (page, 0x07) }) ∧
            (∀ w, w ∉ m.faulters → t.strand w = s.strand w) ∧ SameMemory s t)) ∧
  (∀ (s : State) (id : Nat) (x : Flight) (d part page reply : Nat), s.flight id = some x → x.kind = .invalidated d part page reply →
      let before := ∃ y ∈ s.flights, y.order < id ∧
        ((∃ e c p l, y.kind = .ewrite e c p l ∧ e / 64 = d ∧ ((∃ a, p.spot = .hbm a) ∨ ∃ k a, p.spot = .peer k a)) ∨
          (y.die = d ∧ ∃ t n, y.kind.touches = some (t, n) ∧ ((∃ a, t = .hbm a) ∨ ∃ k a v, t = .peer k a v)))
      (before → exec (.invalidateReply id) s = .next s) ∧
        (¬ before → (s.queue reply).state = 1 → s.admits ⟨512 * d, 9⟩ reply 1 = false → exec (.invalidateReply id) s = .next s) ∧
        (¬ before → (s.queue reply).state = 1 → s.admits ⟨512 * d, 9⟩ reply 1 = true →
          exec (.invalidateReply id) s = .next ((without s id).post ⟨512 * d, 9⟩ reply
            [{ header := itemHeader 1 0 false 0, words := [BitVec.ofNat 64 page] }])) ∧
        (¬ before → (s.queue reply).state ≠ 1 → exec (.invalidateReply id) s = .next (without s id)))

/-- R372, R373: the allocator answers ALLOC and FREE with a status, a handle and the request's word 3; a lost service answers its stored
requests with SERVICE_LOST, and starts anew; a pager that cannot read its region table back refuses every page that it has been asked
for. Whose partition an allocation belongs to (assumption 63) and what a restart scrubs (assumption 95) are the model's readings. -/
def Obligations.ServiceAnswers : Prop :=
  ∀ (s : State) (d : Nat),
    (∀ (q pn : Nat) (x : Stored), asksAllocator s d q x pn →
      let w := x.item.words
      let rq := bitsOf (w.getD 0 0) 2 16
      (s.queue rq).state = 1 → s.admits ⟨512 * d + 2, 0⟩ rq 1 = true →
      (bitsOf (w.getD 0 0) 0 2 = 1 →
        let (st, h, u) := s.alloc (s.queue rq).part w
        (u.queue rq).state = 1 → ((u.serviceTake (512 * d + 2) pn).queue rq).state = 1 →
        exec (.allocRequest d q x.ordinal w) s = .next (serviceSays (u.serviceTake (512 * d + 2) pn) (512 * d + 2) rq
          [BitVec.ofNat 64 st, BitVec.ofNat 64 h, w.getD 3 0])) ∧
      ((w.getD 1 0 = 0 ∨ 30 < bitsOf (w.getD 2 0) 0 6) → s.alloc (s.queue rq).part w = (2, 0, s)) ∧
      (bitsOf (w.getD 0 0) 0 2 = 2 →
        let (st, u) := s.free (s.queue rq).part w
        ((u.serviceTake (512 * d + 2) pn).queue rq).state = 1 →
        exec (.freeRequest d q x.ordinal w) s = .next (serviceSays (u.serviceTake (512 * d + 2) pn) (512 * d + 2) rq
          [BitVec.ofNat 64 st, 0, w.getD 3 0])) ∧
      ((∀ h ∈ s.handles, h.part ≠ (s.queue rq).part ∨ h.base ≠ (w.getD 1 0).toNat) → s.free (s.queue rq).part w = (2, s)) ∧
      ((bitsOf (w.getD 0 0) 0 2 = 0 ∨ bitsOf (w.getD 0 0) 0 2 = 3) → ((s.serviceTake (512 * d + 2) pn).queue rq).state = 1 →
        exec (.allocRequest d q x.ordinal w) s = .next (serviceSays (s.serviceTake (512 * d + 2) pn) (512 * d + 2) rq [2, 0, w.getD 3 0]))) ∧
    ∀ t : Nat, s.serviceBroken t = true →
      (∀ (pn : Nat) (rest : List Nat) (p : Port) (x : Stored) (l : List Stored), s.rpcPorts t = pn :: rest → s.port t pn = some p →
        p.items = x :: l → (s.queue (bitsOf (x.item.words.getD 0 0) 2 16)).state = 1 →
        s.admits ⟨t, 0⟩ (bitsOf (x.item.words.getD 0 0) 2 16) 1 = true →
        ((s.serviceTake t pn).queue (bitsOf (x.item.words.getD 0 0) 2 16)).state = 1 →
        exec (.serviceRestart t) s = .next (serviceSays (s.serviceTake t pn) t (bitsOf (x.item.words.getD 0 0) 2 16) [3, 0, x.item.word 3])) ∧
      (s.rpcPorts t = [] → ∃ u, exec (.serviceRestart t) s = .next u ∧
        (u.tile t).poison = [] ∧ (u.tile t).c = [] ∧ (∀ i, i < 8 → u.strand ⟨t, i⟩ = serviceStrand i) ∧
        (u.tile t).store = (s.tile t).store ∧ (u.tile t).ports = (s.tile t).ports ∧
        (∃ fresh : List (Nat × Nat × Nat), u.noted = s.noted ++ fresh ∧ fresh.Nodup ∧ (∀ e, e ∈ fresh ↔ e ∈ errorsAt s t ∧ e ∉ s.noted) ∧
          (u.die (dieOf t)).lanternSeq = (s.die (dieOf t)).lanternSeq + fresh.length + 1) ∧
        let kept := (s.die (dieOf t)).outgoing
        let refusals := ((s.die (dieOf t)).merge.filter (fun m => !m.walking)).map (fun m =>
          ({ header := itemHeader 2 0 false 0, words := [BitVec.ofNat 64 (2 + m.part * 16), BitVec.ofNat 64 (m.page * 2 ^ 21)] } : Item))
        ((u.die (dieOf t)).outgoing = kept ∨ (t % 512 = 1 ∧ (u.die (dieOf t)).outgoing = kept ++ refusals)))

/-! ### The host -/

/-- R374 to R377: a frame that is not taken is counted and gets no reply; a repeat of an answered sequence gets the stored reply; a
sequence below the last 64, or one already accepted, changes nothing; another partition's frame is DENIED; an unknown operation is INVALID. -/
def Obligations.FramesTaken : Prop :=
  ∀ (s : State) (f : Frame),
    (s.takes f = false → exec (.frameDiscarded f) s = .next { s with discarded := s.discarded + 1 }) ∧
    (∀ (i : Instr) (op : Nat) (sel : Option Nat) (k : Session), hostEvent i = some (f, op, sel) → carries f op sel → s.takes f = true →
      FMap.find s.sessions f.session = some k →
      (∀ e, k.replies.find? (fun x => x.1 == f.seq) = some (f.seq, some e) →
        exec i s = .next { s with outbox := s.outbox ++ [.datagram e] }) ∧
      (k.replies.find? (fun x => x.1 == f.seq) = some (f.seq, none) → exec i s = .next s) ∧
      ((∀ e ∈ k.replies, e.1 ≠ f.seq) → (∃ h, k.highest = some h ∧ (f.seq + 64 < h ∨ (f.seq ≤ h ∧ f.seq ∈ k.accepted))) →
        exec i s = .next s) ∧
      (admitted s f k → k.part ≠ f.part → exec i s = .next (replyCode (noticed s f k) f 2))) ∧
    ∀ k : Session, admitted s f k → k.part = f.part → f.unknown = true → exec (.hostUnknownOperation f) s = .next (replyCode (noticed s f k) f 3)

/-- R375, R379, R417: HELLO checks its layout, the host's key and the versions, and opens a session. That HELLO has session 0 and comes
to the tile of the network service is the model's reading (assumption 53); the keys are opaque (assumption 11). -/
def Obligations.HelloAnswered : Prop :=
  ∀ (s : State) (f : Frame), s.takes f = true → f.op = 1 →
    let refused : Nat → Host.Outcome State Fault Refusal := fun n => .next
      { s with outbox := s.outbox ++ [.datagram (replyFrame (0, 0) 1 f.part 0 f.seq none [BitVec.ofNat 8 n])] }
    (helloOk f.payload = false → exec (.hostHello f) s = refused 3) ∧
    (helloOk f.payload = true → (f.part, f.payload.take 56) ∉ s.hostKeys → exec (.hostHello f) s = refused 2) ∧
    (helloOk f.payload = true → (f.part, f.payload.take 56) ∈ s.hostKeys → FMap.find (helloVersions f.payload) 0 = none →
      exec (.hostHello f) s = refused 6) ∧
    ∀ v, helloOk f.payload = true → (f.part, f.payload.take 56) ∈ s.hostKeys → FMap.find (helloVersions f.payload) 0 = some v →
      ∃ t id k, exec (.hostHello f) s = .next t ∧ FMap.find s.sessions id = none ∧ FMap.find t.sessions id = some k ∧
        k.part = f.part ∧ k.versions = helloVersions f.payload ∧ k.replies = [] ∧ k.highest = none ∧ k.tile % 512 = 3 ∧ k.tile < 2048 ∧
        (∀ n, n ≠ id → FMap.find t.sessions n = FMap.find s.sessions n) ∧
        k.keyIn ++ k.keyOut = shake256 (Config.sharedSecret id (f.payload.take 56) ++ f.payload.take 56 ++ exactly 56 (Config.sessionKey id)) 64

/-- R163, R317, R363, R366, R370, R372, R377: REGISTER, UNREGISTER, READ and WRITE of a session; bytes in a tile window are requested at
the banks of the tile, and the lantern records a malformed entry that a request has met. That UNREGISTER of a range that is not
registered is UNREGISTERED is the model's reading (assumption 54). -/
def Obligations.MemoryRequests : Prop :=
  ∀ (s : State) (f : Frame) (k : Session),
    let u := noticed s f k
    (asks s f k 2 none → f.payload.length = 24 → field f 16 1 < 4 → zeroAt f.payload 17 24 = true →
      wholeRange (field f 0 8) (field f 8 8) → ∀ a, s.partNode f.part = some a →
      (s.overlaps f.part (field f 0 8) (field f 8 8) = true → exec (.hostRegister f) s = .next (replyCode u f 3)) ∧
      (s.overlaps f.part (field f 0 8) (field f 8 8) = false → u.withinHbm a (field f 8 8) = false →
        exec (.hostRegister f) s = .next (replyCode u f 1)) ∧
      (∀ v, s.overlaps f.part (field f 0 8) (field f 8 8) = false → u.withinHbm a (field f 8 8) = true →
        (if (field f 16 1).testBit 0 then u.lazyRange f.part (pageList (field f 0 8) (field f 8 8))
          else u.mapRange f.part ((field f 16 1).testBit 1) (pageList (field f 0 8) (field f 8 8))) = some v →
        exec (.hostRegister f) s = .next (replyCode (({ v with registered := v.registered ++ [
          { part := f.part, base := field f 0 8, len := field f 8 8, lazy := (field f 16 1).testBit 0, write := (field f 16 1).testBit 1 }] } : State).chargeHbm
            a (field f 8 8)) f 0))) ∧
    (asks s f k 2 none → f.payload.length ≠ 24 → exec (.hostRegister f) s = .next (replyCode u f 3)) ∧
    (asks s f k 3 none → f.payload.length = 16 → wholeRange (field f 0 8) (field f 8 8) →
      (u.allRegistered f.part (field f 0 8) (field f 8 8) = false → exec (.hostUnregister f) s = .next (replyCode u f 4)) ∧
      (u.allRegistered f.part (field f 0 8) (field f 8 8) = true → ∃ t, exec (.hostUnregister f) s = .next t ∧
        t.registered = s.registered.flatMap (fun x => x.without f.part (field f 0 8) (field f 8 8)) ∧ t.outbox = s.outbox ∧
        ∃ c, FMap.find t.calls s.nextId = some c ∧ c.session = f.session ∧ c.seq = f.seq ∧
          ∃ ws fs, c.kind = .unregister ws fs ∧ ws = (pageList (field f 0 8) (field f 8 8)).flatMap (fun p =>
            ((List.range 4).filter (fun d => (s.die d).xlateQueue.isSome)).map (fun d => (p, d))))) ∧
    (asks s f k 6 none → f.payload.length = 16 → 0 < field f 8 4 → field f 8 4 ≤ 8184 → zeroAt f.payload 12 16 = true →
      (∀ ts, u.hostSpan (request f) (field f 0 8) 0 (field f 8 4) = .ok ts →
        ((∀ t ∈ ts, t.inTile = false) → exec (.hostRead f) s =
          .next (sendsReply u f (List.replicate 8 0 ++ ts.map (fun t => BitVec.ofNat 8 (u.readTarget t 1))))) ∧
        ((∃ t ∈ ts, t.inTile = true) → ∃ t, exec (.hostRead f) s = .next t ∧ windowed u t f ts)) ∧
      (∀ n, u.hostSpan (request f) (field f 0 8) 0 (field f 8 4) = .status n →
        exec (.hostRead f) s = .next (replyCode (u.noteMalformed (request f) (field f 0 8) (field f 8 4)) f n)) ∧
      (∀ p, u.hostSpan (request f) (field f 0 8) 0 (field f 8 4) = .lazy p → exec (.hostRead f) s = .next (u.waitPage (request f) p false))) ∧
    (asks s f k 7 none → 9 ≤ f.payload.length → f.payload.length ≤ 8192 →
      (∀ ts, u.hostSpan (request f) (field f 0 8) 1 (f.payload.length - 8) = .ok ts →
        ((∀ t ∈ ts, t.inTile = false) → exec (.hostWrite f) s =
          .next (replyCode (u.writeBytes (fun t => !t.inTile) ts (f.payload.drop 8)) f 0)) ∧
        ((∃ t ∈ ts, t.inTile = true) → ∃ t, exec (.hostWrite f) s = .next t ∧ windowed u t f ts)) ∧
      (∀ n, u.hostSpan (request f) (field f 0 8) 1 (f.payload.length - 8) = .status n →
        exec (.hostWrite f) s = .next (replyCode (u.noteMalformed (request f) (field f 0 8) (f.payload.length - 8)) f n)) ∧
      (∀ p, u.hostSpan (request f) (field f 0 8) 1 (f.payload.length - 8) = .lazy p → exec (.hostWrite f) s = .next (u.waitPage (request f) p true))) ∧
    (∀ va n v a, FMap.find s.sessions f.session = some k → s.malformedAt f.part va n = some (v, a) →
      ∃ r, ((s.noteMalformed (request f) va n).die (dieOf k.tile)).lantern.getLast? = some r ∧ bitsOf r.w0 0 8 = 6) ∧
    ∀ (id c t off : Nat) (x : Flight) (rest : List Move), let v := { s with due := rest }
      s.due = .land id :: rest → s.flight id = some x → v.arrived x = true → v.queued x = false → x.kind = .host c t off →
      step s = .next (atBank v id t [(s.tile t).winPhys off / 64])

/-- R344 to R346, R351, R377, R384: PLACE queues a placement that its record and image allow; BEACON starts a cut of a region that has
none. R385: for a replacement its table is read first. That a node that does not exist is INVALID and a region of another partition
DENIED is inferred from R376 and R377. -/
def Obligations.PlaceRequests : Prop :=
  ∀ (s : State) (f : Frame) (k : Session),
    let u := noticed s f k
    (asks s f k 4 none → f.payload.length = 8 →
      (FMap.find k.versions 2 = none → exec (.hostPlace f) s = .next (replyCode u f 6)) ∧
      (FMap.find k.versions 2 ≠ none →
        (∀ met, u.readRecord f.part (field f 0 8) = .invalid met →
          exec (.hostPlace f) s = .next (replyCode (u.noteMet (request f) met) f 3)) ∧
        (∀ p, u.readRecord f.part (field f 0 8) = .lazy p → exec (.hostPlace f) s = .next (u.waitPage (request f) p false)) ∧
        (∀ l im, u.readRecord f.part (field f 0 8) = .ok l im → u.recordOk f.part l im = false → exec (.hostPlace f) s = .next (replyCode u f 3)) ∧
        (∀ l im, u.readRecord f.part (field f 0 8) = .ok l im → u.recordOk f.part l im = true →
          ∃ a t n, exec (.hostPlace f) s = .next t ∧ FMap.find s.nodes a = none ∧ a % 256 = 0 ∧ FMap.find t.nodes a = some n ∧
            n.record = some (parseRecord l im) ∧ t.passDue = true ∧ bitsOf (t.rcb a 0) 0 2 = 3 ∧ bitsOf (t.rcb a 0) 5 6 = f.part ∧
            t.placeState a = 0 ∧ (∀ b, b ≠ a → FMap.find t.nodes b = FMap.find s.nodes b) ∧
            (∃ b, t.outbox = s.outbox ++ [.datagram b])))) ∧
    (asks s f k 5 none → (field f 8 1 = 1 ∧ f.payload.length = 24 ∨ 2 ≤ field f 8 1 ∧ field f 8 1 ≤ 4 ∧ f.payload.length = 16) →
      zeroAt f.payload 9 16 = true →
      let rgn := field f 0 8
      let starts := fun (es : List ReplaceEntry) => exec (.hostBeacon f) s = .next (sendsReply
        (u.startCut rgn (field f 8 1) (u.nextSeq rgn) es false) f (List.replicate 4 0 ++ leBytes (u.nextSeq rgn) 4))
      (¬ named s rgn → exec (.hostBeacon f) s = .next (replyCode u f 3)) ∧
      (named s rgn → f.part ≠ 0 → bitsOf (s.rcb rgn 0) 5 6 ≠ f.part → exec (.hostBeacon f) s = .next (replyCode u f 2)) ∧
      (named s rgn → (f.part = 0 ∨ bitsOf (s.rcb rgn 0) 5 6 = f.part) →
        (s.cutOf rgn ≠ none → exec (.hostBeacon f) s = .next (replyCode u f 3)) ∧
        (s.cutOf rgn = none → 2 ≤ field f 8 1 → starts []) ∧
        (s.cutOf rgn = none → field f 8 1 = 1 →
          (FMap.find k.versions 2 = none → exec (.hostBeacon f) s = .next (replyCode u f 6)) ∧
          (FMap.find k.versions 2 ≠ none →
            (∀ p, u.replaceRecord f.part rgn (field f 16 8) = .lazy p → exec (.hostBeacon f) s = .next (u.waitPage (request f) p false)) ∧
            (∀ met, u.replaceRecord f.part rgn (field f 16 8) = .invalid met →
              exec (.hostBeacon f) s = .next (replyCode (u.noteMet (request f) met) f 3)) ∧
            (∀ l, u.devRead f.part (field f 16 8) 8 = .ok l → (leAt l 0 2 = 0 ∨ 64 < leAt l 0 2 ∨ zeroAt l 2 8 = false) →
              exec (.hostBeacon f) s = .next (replyCode u f 3)) ∧
            ∀ es, u.replaceRecord f.part rgn (field f 16 8) = .ok es → starts es))))

/-- R344, R377, R380, R410, R413: PUSH, ATTEST, END, REGION_CAP and MEASURE of a session; a PUSH that has waited for 4,000,000 cycles is
EXHAUSTED. That PUSH to a queue that is not there or not OPEN is INVALID is the model's reading (assumption 54). -/
def Obligations.OtherRequests : Prop :=
  ∀ (s : State) (f : Frame) (k : Session),
    let u := noticed s f k
    let h : BitVec 16 := BitVec.ofNat 16 (field f 2 2)
    let q := field f 0 2
    let words := (List.range ((f.payload.length - 8) / 8)).map (fun i => BitVec.ofNat 64 (field f (8 + 8 * i) 8))
    (asks s f k 8 none → 16 ≤ f.payload.length → f.payload.length ≤ 72 → f.payload.length % 8 = 0 → zeroAt f.payload 4 8 = true →
      h.getLsbD 8 = false → (h.extractLsb' 13 3).toNat + 1 = words.length → FMap.find k.versions 3 ≠ none →
      ((u.queue q).state = 1 → (u.queue q).type ≠ 2 → (f.part = 0 ∨ ((u.queue q).system = false ∧ (u.queue q).part = f.part)) →
        (u.admits ⟨k.tile, 0⟩ q 1 = true →
          exec (.hostPush f) s = .next (replyCode (u.post ⟨k.tile, 0⟩ q [{ header := h, words := words }]) f 0)) ∧
        (u.admits ⟨k.tile, 0⟩ q 1 = false →
          exec (.hostPush f) s = .next (waitsFor u f (.push q { header := h, words := words } (u.now k.tile))))) ∧
      ((u.queue q).state = 0 → exec (.hostPush f) s = .next (replyCode u f 3))) ∧
    (∀ n c q' i since, FMap.find s.calls n = some c → c.kind = .push q' i since → FMap.find s.sessions c.session = some k →
      since + 4000000 ≤ s.now k.tile →
      exec (.pushTimeout n) s = .next (({ s with calls := FMap.erase s.calls n } : State).replyStatus ⟨c.session, c.seq, c.frame⟩ 1) ∧
        ∀ rest, s.due = .call n :: rest → step s = .next { s with due := rest }) ∧
    (asks s f k 11 none → f.payload.length = 32 → exec (.hostAttest f) s =
      .next (sendsReply u f (List.replicate 8 0 ++ u.quote ((FMap.find k.versions 0).getD (0, 0)) f.payload))) ∧
    (asks s f k 12 none → f.payload.length = 8 →
      (¬ named s (field f 0 8) → exec (.hostEnd f) s = .next (replyCode u f 3)) ∧
      (named s (field f 0 8) → (f.part = 0 ∨ bitsOf (s.rcb (field f 0 8) 0) 5 6 = f.part) →
        let v := (u.placementsIn (field f 0 8)).foldl (fun (a : State) p => a.endPlacement p) u
        let l := (u.placementsIn (field f 0 8)).filter (fun a => v.placeState a != 5 && v.placeState a != 6)
        (l = [] → exec (.hostEnd f) s = .next (replyCode v f 0)) ∧ (l ≠ [] → exec (.hostEnd f) s = .next (waitsFor v f (.ending l))))) ∧
    (asks s f k 13 none → f.payload.length = 16 → ¬ named s (field f 0 8) → exec (.hostRegionCap f) s = .next (replyCode u f 2)) ∧
    (asks s f k 13 none → f.payload.length = 16 → named s (field f 0 8) → f.part = 0 →
      let v := (u.modRcb (field f 0 8) 6 (fun _ => BitVec.ofNat 64 (field f 8 8))).modRcb (field f 0 8) 0 (fun x => putField x 43 1 1)
      (v.energyDue (field f 0 8) = false → exec (.hostRegionCap f) s = .next (replyCode v f 0)) ∧
        (v.energyDue (field f 0 8) = true → exec (.hostRegionCap f) s = .next (replyCode (v.energyCut (field f 0 8)) f 0))) ∧
    (asks s f k 14 none → f.payload.length = 72 → zeroAt f.payload 1 8 = true →
      (f.part ≠ 0 → exec (.hostMeasure f) s = .next (replyCode u f 2)) ∧
      (f.part = 0 → (field f 0 1 < 3 ∨ 7 < field f 0 1) → exec (.hostMeasure f) s = .next (replyCode u f 3)) ∧
      (f.part = 0 → 3 ≤ field f 0 1 → field f 0 1 ≤ 7 → ∃ t, exec (.hostMeasure f) s = .next t ∧
        ∀ c, c < 2 → t.measure c (field f 0 1) = shake256 (s.measure c (field f 0 1) ++ f.payload.drop 8) 64))

/-- R404, R406: STATUS, SET_CAP and LANTERN. -/
def Obligations.HealthRequests : Prop :=
  ∀ (s : State) (f : Frame) (k : Session),
    let u := noticed s f k
    (asks s f k 9 (some 1) → f.payload.length = 1 → ∃ t l, exec (.healthStatus f) s = .next (sendsReply t f l) ∧
      t = { u with choices := t.choices } ∧ l.take 9 = leBytes 0 1 ++ leBytes (s.power.average / 1000) 2 ++ leBytes s.power.cap 2 ++
        leBytes (if s.power.limit then 1 else 0) 1 ++ List.replicate 3 0 ∧ l.length = 9 + 4 * 108) ∧
    (asks s f k 9 (some 1) → f.payload.length ≠ 1 → exec (.healthStatus f) s = .next (replyCode u f 3)) ∧
    (asks s f k 9 (some 2) → f.payload.length = 3 →
      (f.part ≠ 0 → exec (.healthSetCap f) s = .next (replyCode u f 2)) ∧
      (f.part = 0 → (field f 1 2 < 600 ∨ 2400 < field f 1 2) → exec (.healthSetCap f) s = .next (replyCode u f 3)) ∧
      (f.part = 0 → 600 ≤ field f 1 2 → field f 1 2 ≤ 2400 → exec (.healthSetCap f) s =
        .next (replyCode { u with power := { u.power with cap := field f 1 2 } } f 0))) ∧
    (asks s f k 9 (some 3) → f.payload.length = 6 → field f 1 1 < 4 →
      (f.part ≠ 0 → exec (.healthLantern f) s = .next (replyCode u f 2)) ∧
      (f.part = 0 →
        let b := (s.die (field f 1 1)).dump.flatMap (fun x => leBytes x.w0.toNat 8 ++ leBytes x.w1.toNat 8 ++ leBytes x.w2.toNat 8 ++ leBytes x.w3.toNat 8)
        exec (.healthLantern f) s = .next (sendsReply u f (leBytes 0 1 ++ (b.drop (field f 2 4)).take 8160 ++
          (if b.length ≤ field f 2 4 + 8160 then signedBy b else [])))))

/-- R388, R390, R391, R393, R395, R397, R398: COUNTERS, DIGEST, MASK, RECORDS, BREAK, CLAIM, RELEASE, WATCH and STATUS of a tile. R389,
R394, R397: RESUME of a tile that the debugger froze; PERISCOPE takes a first snapshot and waits; the walk is answered once every port
has its second. The layout of STATUS (assumption 66), whose claim an operation needs (assumption 65), and the mark of a strike that no
strand stands for (assumption 59) are the model's readings. R393: a BREAK at an ordinal already accepted is INVALID. -/
def Obligations.TraceRequests : Prop :=
  (∀ (s : State) (f : Frame) (k : Session),
      let u := noticed s f k
      let n := field f 2 2
      let pn := field f 4 1
      (∀ p, traces s f k 1 true false false → s.port n pn = some p → exec (.traceCounters f) s =
        .next (sendsReply u f (leBytes 0 1 ++ leBytes p.full 8 ++ leBytes p.empty 8 ++ leBytes p.moving 8))) ∧
      (∀ p, traces s f k 2 true false false → s.port n pn = some p → exec (.traceDigest f) s =
        .next (sendsReply u f (leBytes 0 1 ++ leBytes p.digest.toNat 8 ++ leBytes p.pops 8))) ∧
      (traces s f k 3 false true false → field f 8 8 < 2 ^ 32 → exec (.traceMask f) s =
        .next (replyCode (u.modTile n (fun y => { y with traceMask := BitVec.ofNat 32 (field f 8 8) })) f 0)) ∧
      (FMap.find k.versions 4 = none → asks s f k 10 (some 4) → exec (.traceRecords f) s = .next (replyCode u f 6)) ∧
      (FMap.find k.versions 4 ≠ none → traces s f k 4 false false false → exec (.traceRecords f) s =
        .next (sendsReply (u.modTile n (fun y => { y with traceLen := 0 })) f
          (leBytes 0 1 ++ (s.tile n).traceBytes (min (s.tile n).traceLen 255)))) ∧
      (∀ p, traces s f k 6 true true true → s.port n pn = some p →
        (p.consumer = true → field f 8 8 = 2 ^ 64 - 1 → exec (.traceBreak f) s =
          .next (replyCode (u.modPort n pn (fun p => { p with breakAt := none })) f 0)) ∧
        (p.consumer = true → field f 8 8 ≠ 2 ^ 64 - 1 → p.ordinal ≤ field f 8 8 → field f 16 8 < 2 ^ 32 → exec (.traceBreak f) s =
          .next (replyCode (u.modPort n pn (fun p => { p with breakAt := some (field f 8 8, field f 16 8) })) f 0)) ∧
        (p.consumer = true → field f 8 8 ≠ 2 ^ 64 - 1 → field f 8 8 < p.ordinal → exec (.traceBreak f) s = .next (replyCode u f 3)) ∧
        (p.consumer = false → exec (.traceBreak f) s = .next (replyCode u f 3))) ∧
      (traces s f k 7 false false false →
        ((s.tile n).claim = none → exec (.traceClaim f) s = .next (replyCode (u.modTile n (fun y => { y with claim := some f.session })) f 0)) ∧
        ((s.tile n).claim = some f.session → exec (.traceClaim f) s = .next (replyCode u f 0)) ∧
        (∀ o, (s.tile n).claim = some o → o ≠ f.session → exec (.traceClaim f) s = .next (replyCode u f 2))) ∧
      (traces s f k 8 false false false →
        ((s.tile n).claim = some f.session → exec (.traceRelease f) s =
          .next (replyCode (u.modTile n (fun y => { y with claim := none, debugStop := none, frozen := y.cut.isSome })) f 0)) ∧
        ((s.tile n).claim ≠ some f.session → exec (.traceRelease f) s = .next (replyCode u f 2))) ∧
      (traces s f k 9 true true true → pn < 4 → exec (.traceWatch f) s = .next (replyCode (u.modTile n (fun y =>
        { y with wpBase := FMap.put 0 y.wpBase pn (BitVec.ofNat 64 (field f 8 8) &&& 0x00000007000FFFC0)
                 wpMask := FMap.put 0 y.wpMask pn (BitVec.ofNat 64 (field f 16 8)) })) f 0)) ∧
      (traces s f k 10 false false false → ∃ cause, exec (.traceStatus f) s = .next (sendsReply u f
        (leBytes 0 1 ++ leBytes ((if (s.tile n).debugStop.isSome then 1 else 0) + (if (s.tile n).cut.isSome then 2 else 0)) 1 ++ leBytes cause 1)) ∧
        (∀ i, (s.tile n).debugStop = some i → cause = if i = 8 ∨ (s.strand ⟨n, i⟩).struck ≠ [] then 0x11 else 0x10) ∧
        (∀ c, (s.tile n).debugStop = none → (s.tile n).cut = some c → cause = c.kind) ∧
        ((s.tile n).debugStop = none → (s.tile n).cut = none → cause = 0))) ∧
  (∀ (s : State) (f : Frame) (k : Session),
      let u := noticed s f k
      let n := field f 2 2
      (∀ i, asks s f k 10 (some 11) → f.payload.length = 24 → field f 1 1 < 2 → zeroAt f.payload 4 8 = true → zeroAt f.payload 8 24 = true →
        validTile n = true → (f.part = 0 ∨ ((s.tile n).place ≠ none ∧ (s.tile n).part = f.part)) → (s.tile n).debugStop = some i →
        let v := u.modTile n (fun y => { y with debugStop := none, frozen := y.cut.isSome })
        (i < 8 → exec (.traceResume f) s = .next (replyCode (v.modStrand ⟨n, i⟩
          (fun x => { x with ignoreOnce := decide (field f 1 1 = 1), struck := x.struck.filter (fun y => !(s.tile n).toDebugger y) })) f 0)) ∧
        (8 ≤ i → exec (.traceResume f) s = .next (replyCode v f 0))) ∧
      (asks s f k 10 (some 11) → f.payload.length = 24 → 2 ≤ field f 1 1 → field f 1 1 < 4 → n = 0 → zeroAt f.payload 4 8 = true →
        zeroAt f.payload 16 24 = true →
        (f.part ≠ 0 → bitsOf (s.rcb (field f 8 8) 0) 5 6 ≠ f.part → exec (.traceResume f) s = .next (replyCode u f 2)) ∧
        (f.part = 0 ∨ bitsOf (s.rcb (field f 8 8) 0) 5 6 = f.part →
          (¬ named s (field f 8 8) → exec (.traceResume f) s = .next (replyCode u f 3)) ∧
          ∀ c, named s (field f 8 8) → s.cutOf (field f 8 8) = some c → c.kind = 3 → c.done = true →
            ((c.energy = true ∧ s.capReached (field f 8 8) = true) → exec (.traceResume f) s = .next (replyCode u f 3)) ∧
            ((c.energy = false ∨ s.capReached (field f 8 8) = false) →
              exec (.traceResume f) s = .next (replyCode (u.thawRegion (field f 8 8)) f 0)))) ∧
      (∀ p a, traces s f k 5 true false false → s.port n (field f 4 1) = some p → (s.tile n).place = some a →
        exec (.tracePeriscope f) s = .next (waitsFor u f (.periscope n (field f 4 1) (u.snapshot (s.rcb a 1).toNat)))) ∧
      ∀ id c t pn snap d, FMap.find s.calls id = some c → c.kind = .periscope t pn snap → (∀ x ∈ snap, x.after ≠ none) →
        (s.diffs snap).find? (fun d => d.tile == t && d.port == pn) = some d →
        let w := s.scopeWalk (s.diffs snap) 16 [d] d
        exec (.periscopeSnapshotEnd id) s = .next (({ s with calls := FMap.erase s.calls id } : State).reply ⟨c.session, c.seq, c.frame⟩
          (leBytes 0 1 ++ leBytes w.1.length 1 ++ w.1.flatMap Diff.bytes ++ leBytes w.2.kind 1 ++ leBytes w.2.id 2)))

/-! ### Power, resets and links -/

/-- R400 to R403: the throttle steps of a sample, POWER_LIMIT, the waves of the ramp, energy and the energy cap. A die whose temperature
is absent counts as cool (assumption 55); samples and energy readings are free and tied to die 0's clock (assumption 118). -/
def Obligations.PowerControl : Prop :=
  ∀ s : State,
    (∀ (mw : Nat) (temps : List Int), ∃ t, exec (.powerSample mw temps) s = .next t ∧ t.power.samples = (mw :: s.power.samples).take 10 ∧
      let avg := average t.power.samples
      let cap := 1000 * s.power.cap
      (avg ≤ cap → t.power.limit = false) ∧ t.power.cap = s.power.cap ∧
      ∀ d, d < 4 → let old := stepOf s d
        (t.die d).pwrStep = (s.die d).pwrStep ∧
        (tooHot s temps d → stepOf t d = 7) ∧
        (¬ tooHot s temps d → cap < avg → old < 7 → 4 ≤ FMap.get 4 s.power.sinceRaise d → stepOf t d = old + 1) ∧
        (¬ tooHot s temps d → 100 * avg < 95 * cap → 0 < old → 4 ≤ FMap.get 4 s.power.sinceLower d → stepOf t d + 1 = old) ∧
        (¬ tooHot s temps d → avg ≤ cap → 95 * cap ≤ 100 * avg → stepOf t d = old)) ∧
    (1000 ≤ s.power.overCap → s.power.limit = false → ∃ t, exec .powerLimit s = .next t ∧ t.power.limit = true ∧
      ∀ d, d < 4 → ∃ r, (t.die d).lantern.getLast? = some r ∧ bitsOf r.w0 0 8 = 9) ∧
    (∀ (a wave : Nat) (n : Node), FMap.find s.nodes a = some n → bitsOf (s.rcb a 0) 0 2 = 3 →
      (s.placeState a = 2 → ∃ t, exec (.rampWaveEnable a wave) s = .next t ∧ ∀ x, t.tile x =
        if x ∈ n.tiles ∧ (rowOf x + colOf x) % 8 = wave ∧ (s.tile x).rampFrom + 1024 * wave ≤ s.now x + 1 then { s.tile x with arrayOn := true } else s.tile x) ∧
      ((s.placeState a = 3 ∨ s.placeState a = 4) → ∃ t, exec (.rampWaveDisable a wave) s = .next t ∧ ∀ x, t.tile x =
        if x ∈ n.tiles ∧ (rowOf x + colOf x) % 8 = wave ∧ (s.tile x).job = none ∧ n.coolFrom + 1024 * wave ≤ s.now x + 1
          then { s.tile x with arrayOn := false } else s.tile x)) ∧
    (∀ x n, validTile x = true → ∃ t, exec (.energyUpdate x n) s = .next t ∧ (t.tile x).eTile = raised (s.tile x).eTile n ∧
      let up := s.lineage 7 (s.homeNode x)
      (up.Nodup → ∀ a ∈ up, FMap.find s.nodes a ≠ none → t.rcb a 7 = raised (s.rcb a 7) n) ∧ ∀ a, a ∉ up → t.rcb a 7 = s.rcb a 7) ∧
    ∀ rgn, s.energyDue rgn = true → ∃ t c, exec (.energyCap rgn) s = .next t ∧ t.cutOf rgn = some c ∧ c.kind = 3 ∧ c.energy = true ∧
      t.outbox = s.outbox ++ [.energyCap rgn] ∧ ∃ d r, (t.die d).lantern.getLast? = some r ∧ bitsOf r.w0 0 8 = 10

/-- R10, R50, R234, R405, R406, R409, R410: what the resets of a die and of the module leave, and the measurements of a boot. R409, R411,
R412: the root decides the status of a node, and writes it into the boot status array; a package that is served boots. What reset leaves
of the package (assumption 67), when it boots (assumption 68), how a node is served (assumption 76), and that images verify by opaque
functions (assumption 11) are the model's choices. -/
def Obligations.ResetEvents : Prop :=
  (∀ s : State,
      (∀ d, ∃ t, exec (.computeDieReset d) s = .next t ∧ (∀ x, dieOf x ≠ d → t.tile x = s.tile x) ∧
        (∀ x, dieOf x = d → (s.boot.booted = false ∨ (s.die d).faultQueue = none ∨ 4 ≤ x % 512) → t.tile x = {}) ∧
        (∀ q c, s.boot.booted = true → (s.die d).faultQueue = some q → c < 4 → t.tile (512 * d + c) =
          { strands := (List.range 8).map (fun i => (i, serviceStrand i)), ports := servicePorts q c }) ∧
        (∀ e, t.engine e = if e / 64 = d then {} else s.engine e) ∧ t.flights = s.flights.filter (fun f => f.die != d) ∧
        (t.die d).clock = 0 ∧ (t.die d).pwrStep = 0 ∧ (t.die d).lantern = (s.die d).lantern ∧ (∀ e, e ≠ d → t.die e = s.die e) ∧
        t.queues = s.queues ∧ t.hbm = s.hbm ∧ t.nodes = s.nodes) ∧
      (∃ t, exec .coldReset s = .next t ∧ AsAfterReset t ∧ t.inbox = s.inbox ∧ t.outbox = s.outbox ∧ (∀ d, d < 4 → (t.die d).lantern = []) ∧
        (s.boot.root = false → t.boot.booted = false ∧ t.hbm = [] ∧ ∀ c i, t.measure c i = List.replicate 64 0) ∧
        (s.boot.root = true → rootBoots s t)) ∧
      (∃ t, exec .warmReset s = .next t ∧ AsAfterReset t ∧
        (∀ d, d < 4 → (t.die d).ws = (s.die d).ws ∧ (t.die d).wsPoison = (s.die d).wsPoison) ∧
        (s.boot.root = false → t.boot.booted = false ∧ t.hbm = s.hbm ∧ t.hbmPoison = s.hbmPoison ∧
          (∀ c i, t.measure c i = List.replicate 64 0) ∧ ∀ d, d < 4 → (t.die d).lantern = (s.die d).lantern) ∧
        (s.boot.root = true → rootBoots s t ∧
          (t.boot.booted = true → ∀ d, d < 4 → (t.die d).dump = (s.die d).lantern ∧ (t.die d).lantern = []))) ∧
      ∃ t, exec .powerRemoval s = .next t ∧ AsAfterReset t ∧ t.hbm = [] ∧ (∀ d, (t.die d).lantern = [] ∧ (t.die d).ws = []) ∧ t.boot.booted = false) ∧
  (∀ (s : State) (i : Nat),
      (∀ d, s.boot.root = false → s.boot.booted = false → s.boots ≠ 0 → verified d →
        ∃ t, exec (.podNodeServe i) s = .next t ∧ t.boot.booted = true) ∧
      (s.boot.root = true → s.boot.booted = true → i < s.boot.topology.length → FMap.find s.boot.status i = none →
        let l := s.boot.topology
        let parent := (node l i).2.1
        let written := fun (t : State) (v : Nat) => FMap.find t.boot.status i = some v ∧ (∀ j, j ≠ i → FMap.find t.boot.status j = FMap.find s.boot.status j) ∧
          ∀ pa, s.reach 0 i = .at pa → FMap.get 0 t.hbm pa = BitVec.ofNat 8 v
        (rejectedEntry l i → ∃ t, exec (.podNodeServe i) s = .next t ∧ written t 1) ∧
        (¬ rejectedEntry l i → i = 0 → ∃ t, exec (.podNodeServe i) s = .next t ∧ written t 0) ∧
        (¬ rejectedEntry l i → i ≠ 0 →
          (∀ v, FMap.find s.boot.status parent = some v → v ≠ 0 → ∃ t, exec (.podNodeServe i) s = .next t ∧ written t 2) ∧
          (FMap.find s.boot.status parent = some 0 → (parent ≠ 0 ∨ s.hasPath (node l i).1 = true) →
            ∃ t, exec (.podNodeServe i) s = .next t ∧ (written t 0 ∨ written t 3)) ∧
          (FMap.find s.boot.status parent = some 0 → (parent ≠ 0 ∨ s.hasPath (node l i).1 = false) →
            FMap.get 0 s.boot.since parent + 8000000000 ≤ (s.die 0).clock → ∃ t, exec (.unreachable i) s = .next t ∧ written t 4))))

/-- R414, R415, R417: a link trains to the highest common major and the lower minor; flits are acknowledged, delivered once and in order,
resent, and moved when a port goes down; a peer's access is performed at this package's memory, and its value goes back; an access
without a path for 10 µs is one to an unregistered address. R416: the all-reduce unit takes each contribution once; the last one gives
every result queue the sum over the fixed pairwise tree. The place of an odd contribution (assumption 70), eight failed resends
(assumption 75), what a flit carries and a peer's memory (assumptions 8, 74) are the model's choices; bytes that a descriptor or a
control block stands behind are left out (assumption 73). -/
def Obligations.LinkEvents : Prop :=
  ((∀ a b : List (Nat × Nat),
      (chooseVersion a b = none ↔ ∀ x ∈ a, ∀ y ∈ b, x.1 ≠ y.1) ∧
      ∀ v, chooseVersion a b = some v → (∃ x ∈ a, ∃ y ∈ b, x.1 = v.1 ∧ y.1 = v.1 ∧ v.2 = min x.2 y.2) ∧
        ∀ x ∈ a, ∀ y ∈ b, x.1 = y.1 → x.1 ≤ v.1) ∧
    ∀ (s : State) (port : Nat),
      (∀ peer, port < 16 → ∃ t, exec (.linkTraining port peer) s = .next t ∧
        let v := chooseVersion (Config.versions 1) peer
        (v ≠ none → linkAt t port = { linkAt s port with up := true, version := v, fails := 0 } ∧ t.flights = s.flights) ∧
        (v = none → (s.links.map (·.1)).Nodup → linkAt t port = { linkAt s port with up := false, version := none, fails := 0, retry := (linkAt s port).retry.filter (fun e =>
            s.links.all (fun l => !(decide (l.1 ≠ port) && l.2.up && l.2.peers.contains e.2.1))) } ∧ losesPaths s t)) ∧
      ∀ x, FMap.find s.links port = some x →
        (∀ f : Flit, (x.up = false ∨ f.crcOk = false ∨ x.expect < f.seq) → exec (.flitReceive port f) s = .next s) ∧
        (∀ f : Flit, x.up = true → f.crcOk = true → f.seq < x.expect →
          exec (.flitReceive port f) s = .next { s with outbox := s.outbox ++ [.ack port f.seq] }) ∧
        (∀ f : Flit, x.up = true → f.crcOk = true → f.seq = x.expect →
          let taken := { x with received := x.received ++ [f.data], expect := x.expect + 1 }
          (Config.peerRequest f.data = none → ∃ t, exec (.flitReceive port f) s = .next t ∧ linkAt t port = taken ∧
            t.outbox = s.outbox ++ [.ack port f.seq] ∧ SameMemory s t ∧
            ∀ result group idx lanes g, Config.reducePart f.data = some (result, group, idx, lanes) → FMap.find s.groups group = some g →
              let l := FMap.get [] g.arrived idx ++ lanes
              let padded := if g.words % 2 = 1 ∧ l.length % (g.words + 1) = g.words then l ++ [0] else l
              (result = true → FMap.find t.groups group = some { g with result := g.result ++ lanes }) ∧
                (result = false → g.members[idx]? = some none →
                  FMap.find t.groups group = some { g with arrived := FMap.set g.arrived idx padded })) ∧
          ∀ pkg kind op pa n data e, Config.peerRequest f.data = some (pkg, kind, op, pa, n, data, e) → n ∈ [1, 2, 4, 8] → pa % n = 0 →
            pa + n ≤ 2 ^ 39 →
            let old := s.hbmRead pa n
            let puts := fun (t : State) (v : Nat) => (∀ i, i < n → s.blockAt (pa + i) = none) → ∀ a, FMap.get 0 t.hbm a = if pa ≤ a ∧ a < pa + n then byteOf v (a - pa) else FMap.get 0 s.hbm a
            let answers := fun (t : State) => (∀ l ∈ s.links, l.1 ≠ port → l.2.up = false) → x.peers.contains pkg = true → (s.links.map (·.1)).Nodup →
              linkAt t port = { taken with retry := x.retry ++ [(x.nextSeq, pkg, Config.peerAnswer f.data old)], nextSeq := x.nextSeq + 1 } ∧
                t.outbox = s.outbox ++ [.flit port x.nextSeq (Config.peerAnswer f.data old), .ack port f.seq]
            ∃ t, exec (.flitReceive port f) s = .next t ∧
              (kind = 0 → puts t old ∧ answers t) ∧
              (kind = 1 → puts t data ∧ linkAt t port = taken ∧ t.outbox = s.outbox ++ [.ack port f.seq]) ∧
              (kind = 2 → puts t (amoOp op (BitVec.ofNat (8 * n) old) (BitVec.ofNat (8 * n) data)).toNat ∧ answers t) ∧
              (3 ≤ kind → puts t (if old = e % 256 ^ n then data else old) ∧ answers t)) ∧
        (∀ q, ∃ t, exec (.flitAck port q) s = .next t ∧ (linkAt t port).retry = x.retry.filter (fun e => e.1 != q) ∧ t.outbox = s.outbox ∧
          (x.retry.head?.map (·.1) = some q → (linkAt t port).fails = 0)) ∧
        (x.up = true → x.retry ≠ [] → x.fails ≠ 8 → ∃ t, exec (.flitResend port) s = .next t ∧ (linkAt t port).fails = x.fails + 1 ∧
          t.outbox = s.outbox ++ x.retry.map (fun e => .flit port e.1 e.2.2)) ∧
        (∀ e, x.up = true → x.retry = [e] → x.fails = 8 →
          (s.links.find? (fun l => decide (l.1 ≠ port) && l.2.up && l.2.peers.contains e.2.1) = none → ∃ t, exec (.flitResend port) s = .next t ∧
            (linkAt t port).up = false ∧ (linkAt t port).retry = [e] ∧ t.outbox = s.outbox ∧ losesPaths s t) ∧
          ∀ p y, s.links.find? (fun l => decide (l.1 ≠ port) && l.2.up && l.2.peers.contains e.2.1) = some (p, y) → ∃ t, exec (.flitResend port) s = .next t ∧
            (linkAt t port).up = false ∧ (linkAt t port).retry = [] ∧ (linkAt t p).retry = y.retry ++ [(y.nextSeq, e.2)] ∧
            t.outbox = s.outbox ++ [.flit p y.nextSeq e.2.2] ∧ losesPaths s t) ∧
        ∀ id f, s.flight id = some f → f.lo + 40000 ≤ (s.die f.die).clock →
          (∀ b p n va o r c, f.kind = .access b (.peer p n va) o r c → s.hasPath p = false →
            exec (.peerNoPath id) s = .next ((without s id).placementFatal f.owner (unregistered va) 0)) ∧
          (∀ reg va c p pa v, f.kind = .strip reg va c → s.stripTarget f va = .ok (.peer p pa v) → s.hasPath p = false →
            exec (.peerNoPath id) s = .next ((without s id).engineFatal (homeEngine f.owner.tile) f.owner va .unregistered)) ∧
          ∀ e c x l p pa, f.kind = .ewrite e c x l → x.spot = .peer p pa → s.hasPath p = false →
            exec (.peerNoPath id) s = .next ((without s id).engineFatal e c.who x.addr .unregistered)) ∧
  ((∀ (a b c : List Lane) (k : Nat), pairTree (k + 2) [a, b] = List.zipWith (fadd false 0 0) a b ∧
      pairTree (k + 3) [a, b, c] = List.zipWith (fadd false 0 0) (List.zipWith (fadd false 0 0) a b) c) ∧
    ∀ (s : State) (unit group idx : Nat) (data : List Lane) (g : Group), FMap.find s.groups group = some g → g.unit = unit → idx < g.members.length →
      0 < g.words → g.words ≤ 64 → g.words + g.words % 2 ≤ (FMap.get [] g.arrived idx).length → data = (FMap.get [] g.arrived idx).take g.words →
      FMap.find g.taken idx = none →
      let rest := FMap.put [] g.arrived idx ((FMap.get [] g.arrived idx).drop (g.words + g.words % 2))
      let all := FMap.set g.taken idx data
      (∀ p, g.home = some p → s.hasPath p = true → exec (.allreduceContribution unit group idx data) s =
        .next ((withGroup s group { g with arrived := rest }).sendLanes p false group idx data)) ∧
      (g.home = none → all.length < g.members.length →
        exec (.allreduceContribution unit group idx data) s = .next (withGroup s group { g with arrived := rest, taken := all })) ∧
      (g.home = none → g.members.length ≤ all.length → (∀ q ∈ g.results, s.admits ⟨0, 11 + unit⟩ q (((g.words + 1) / 2 + 7) / 8) = true) →
        (∀ e ∈ g.away, s.hasPath e.2 = true) →
        exec (.allreduceContribution unit group idx data) s = .next ((withGroup s group { g with arrived := rest, taken := [] }).pushResult unit group g
            (pairTree g.members.length ((List.range g.members.length).map (fun i => FMap.get [] all i))))))

/-! ### Frames -/

/-- R14, R158 to R168, R169 to R178: what local accesses change, and that a global access changes no memory when it sets out. A store to
a page of records changes ports, crews, rings and barriers (R159, assumption 73). -/
def Obligations.MemoryFrame : Prop := Framed { tile := fun y => { y with mirror := false, bankQ := [] } } localRule ∧ Framed {} globalRule

/-- R135, R136: what vector instructions change, bytes of scratchpad among it. A store to a page of records changes ports, crews, rings
and barriers (R159, assumption 73). -/
def Obligations.VectorFrame : Prop := Framed { strand := fun x => { x with rndSeed := 0 } } vectorRule

/-- R210 to R228: queue instructions change ports, registers and bindings; BPASS apart. -/
def Obligations.QueueFrame : Prop := Framed { strand := fun x => { x with q := [] } } (butFor alone queueRule)

/-- R240 to R246, R252 to R275, R283 to R298: tickets, rings, barriers, streams and the matrix array leave registers and memory alone
but for what they name. -/
def Obligations.DeviceFrame : Prop :=
  Framed { tile := fun y => { y with ldt := [] } } ticketRule ∧
    Framed { tile := fun y => { y with rings := [], bars := [] }, strand := fun x => { x with streams := [] }, looks := neverStream } engineRule ∧
    Framed { tile := fun y => { y with os := [], ac := [], path := [] } } matrixRule

/-- R74, R76, R84, R86 to R93, R180 to R198: divisions, register changes, transfers of control, and crews change no memory, and of the
registers that stay held only their destinations; SPAWN and STOP apart. -/
def Obligations.StrandFrame : Prop :=
  Framed {} divisionRule ∧
    Framed { tile := fun y => { y with crews := [], wpBase := [], wpMask := [] }
             strand := fun x => { x with rndSeed := 0, trapCause := 0, trapPc := 0, trapInfo := 0, waitLimit := 0 } } registerRule ∧
    Framed { strand := fun x => { x with ip := 0 } } (butFor alone controlRule) ∧
    ∀ i, Framed (crewKeeps i) (butFor (fun j => alone j || decide (j ≠ i)) crewRule)

/-! ### Encoding, stepping, reset -/

/-- R20, R53 to R66: words written out from the encoding tables decode to the instructions they stand for. -/
def Obligations.DecodeWords : Prop :=
  decodeTableWord 16 0x0040 = some .nop ∧
  decodeTableWord 48 0x950803000008 = some (.qpopL { d := 8, fd := 0, a := 3, fa := 0, b := 0, fb := 0, ta := false, tb := false, k := 0, sub := 8 }) ∧
  decodeTableWord 32 0x5E400C80 = some (.qdone { d := 0, a := 3, b := 8, ta := false, tb := false, mod := 0 }) ∧
  decodeTableWord 64 0xC0C3000100000000 = some (.movi { d := 3, imm := 0x000100000000 }) ∧
  decodeTableWord 64 0xC980000000000002 = some (.j { d := 0, imm := 2 }) ∧
  decodeTableWord 64 0xC7CA200000000050 = some (.ext { d := 10, a := 8, fa := 0, ta := false, k := 0, sub := 0, imm := 0x50 }) ∧
  decodeTableWord 64 0xCAC0280100000008 = some (.bnz { d := 0, a := 10, fa := 0, ta := false, k := 0, sub := 1, imm := 8 }) ∧
  decodeTableWord 48 0x830189030000 = some (.orL { d := 1, fd := 2, a := 9, fa := 0, b := 3, fb := 0, ta := false, tb := false, k := 0, sub := 0 }) ∧
  decodeTableWord 48 0xA0C3014A4400 = some (.vaddL { d := 3, fd := 0, a := 1, fa := 1, b := 10, fb := 1, ta := false, tb := false, k := 2, sub := 0 }) ∧
  decodeTableWord 16 0x1AC0 = some (.mwait 0) ∧ decodeTableWord 16 0x16C0 = some .bpass

/-- R20, R53 to R66: every valid instruction has an encoding, and decoding gives it back with every operand. -/
def Obligations.DecodeEncode : Prop :=
  ∀ i : Instr, i.wf = true → ∃ h t, encode i = some (h, t) ∧ decodeHalf h t = some i ∧ decodeTableWord (bitsOfHead h) (tableNumber h t) = some i

/-- R9, R11 to R13, R19, R22 to R28: in its tile's slot a strand that may issue runs the bundle at its IP: one half as its instruction,
two halves together; a fetch that finds no bundle runs ILLEGAL_LINE; an event that is due runs as its instruction. -/
def Obligations.StepRunsDecoded : Prop :=
  ∀ (s : State) (r : List Move),
    (∀ n, s.due = .slot n :: r → let w : Who := ⟨n, s.now n % 8⟩; let u := { s with due := r }
      mayIssue s w →
        (∀ b, fetch (s.tile n).store (s.strand w).ip = .ok b →
          (∀ i, b.scalar = some i → b.vector = none → step s = exec i (issuing u w b)) ∧
          (∀ i, b.scalar = none → b.vector = some i → step s = exec i (issuing u w b)) ∧
          ∀ i j a v, b.scalar = some i → b.vector = some j → halfOf i = some a → halfOf j = some v → step s = run2 a v (issuing u w b)) ∧
        ∀ h, fetch (s.tile n).store (s.strand w).ip = .bad h → step s = exec (.illegalLine w (s.strand w).ip h) u) ∧
    ∀ i, s.due = .event i :: r → step s = exec i { s with due := r }

/-- R20 to R28: an instruction that stands alone in line 0 of a tile's store is fetched from there, decoded and run. -/
def Obligations.FetchPlaced : Prop :=
  ∀ (s : State) (i : Instr) (h : BitVec 16) (t : BitVec 48), i.wf = true → encode i = some (h, t) →
    let w : Who := ⟨0, s.now 0 % 8⟩
    let u := s.withFetchWord (bitsOfHead h) (tableNumber h t)
    (s.strand w).hold = none → (s.strand w).fused = false → (s.strand w).struck = [] → 0 ∉ (s.tile 0).badLines →
      ∃ c, step u = exec i { u with due := [], cur := c } ∧ c.who = w ∧ c.ip = 0 ∧ c.next = 64

/-- Every step keeps device memory in its canonical form: equal memories are equal data. The form, and 0 for what an unlisted address
reads as, are the model's choice (assumption 2). -/
def Obligations.CanonicalKept : Prop := ∀ s t : State, s.MemOk → step s = .next t → t.MemOk

/-- No state stops the machine: every instruction and every event has its effect, a trap included. -/
def Obligations.NeverStops : Prop := ∀ s : State, Goes (step s)

/-- R50, and the model's choice for the registers without a reset value (assumption 1): the state after reset. Its memory is canonical
(assumption 2), and its first step is due to be a cold reset (the model's choice, assumption 14). -/
def Obligations.ResetState : Prop :=
  State.reset.MemOk ∧
    (∀ w, let x := State.reset.strand w
      x.running = false ∧ x.crewId = 0xF ∧ x.gangShape = 0 ∧ x.waitLimit = 0 ∧ x.trapCause = 0 ∧ x.trapPc = 0 ∧ x.trapInfo = 0 ∧
        x.rndSeed = 0x5A17C3E90B6D2F48 + BitVec.ofNat 64 w.strand ∧
        ∀ i, x.readG i = {} ∧ x.readV i = {} ∧ x.readP i = {} ∧ (i ≠ 0 → x.readK i = {})) ∧
    (∀ n i, (State.reset.tile n).eTile = 0 ∧ FMap.get 0 (State.reset.tile n).wpBase i = 0 ∧ FMap.get 0 (State.reset.tile n).wpMask i = 0) ∧
    (∀ d, (State.reset.die d).clock = 0 ∧ (State.reset.die d).pwrStep = 0) ∧
    step State.reset = .next { State.reset with due := [.event .coldReset] }
end

