-- ==== Sys2Proof/Laws/Encode.lean ====
section
/-!
SUPPORT. What packing an instruction and taking it apart give, field by field and form by form (R20, R53 to R58).
-/
namespace Sys2Proof

/-- The number of two fields side by side. -/
theorem append_nat {a b : Nat} (x : BitVec a) (y : BitVec b) : (x ++ y).toNat = x.toNat * 2 ^ b + y.toNat := by
  rw [BitVec.toNat_append, ← Nat.shiftLeft_add_eq_or_of_lt y.isLt, Nat.shiftLeft_eq]

/-- A head as a number (R20). -/
theorem packHead_nat (l : BitVec 2) (v : Bool) (m : BitVec 7) (d : BitVec 6) :
    (packHead l v m d).toNat = ((l.toNat * 2 + v.toNat) * 128 + m.toNat) * 64 + d.toNat := by
  change (l ++ BitVec.ofBool v ++ m ++ d : BitVec (2 + 1 + 7 + 6)).toNat = _
  rw [append_nat, append_nat, append_nat, BitVec.toNat_ofBool]; rfl

theorem packHead_d (l : BitVec 2) (v : Bool) (m : BitVec 7) (d : BitVec 6) : (packHead l v m d).extractLsb' 0 6 = d := by
  apply BitVec.eq_of_toNat_eq
  have := d.isLt
  simp [BitVec.extractLsb'_toNat, packHead_nat]; omega

theorem packHead_len (l : BitVec 2) (v : Bool) (m : BitVec 7) (d : BitVec 6) : fieldNat (packHead l v m d) 14 2 = l.toNat := by
  have := d.isLt; have := m.isLt; have := l.isLt; have := Bool.toNat_lt v
  rw [fieldNat, packHead_nat]; omega

theorem packHead_vec (l : BitVec 2) (v : Bool) (m : BitVec 7) (d : BitVec 6) : (packHead l v m d).getLsbD 13 = v := by
  have := d.isLt; have := m.isLt; have := l.isLt; have := Bool.toNat_lt v
  rw [BitVec.getLsbD, Nat.testBit, packHead_nat]
  rw [Nat.shiftRight_eq_div_pow]
  have : (((l.toNat * 2 + v.toNat) * 128 + m.toNat) * 64 + d.toNat) / 2 ^ 13 = l.toNat * 2 + v.toNat := by omega
  rw [this]; cases v <;> simp

theorem packHead_major (l : BitVec 2) (v : Bool) (m : BitVec 7) (d : BitVec 6) : fieldNat (packHead l v m d) 6 7 = m.toNat := by
  have := d.isLt; have := m.isLt; have := l.isLt; have := Bool.toNat_lt v
  rw [fieldNat, packHead_nat]; omega

/-- An S tail as a number (R55). -/
theorem packS_nat (t : STail) : (packS t).toNat = (((t.a.toNat * 64 + t.b.toNat) * 2 + t.ta.toNat) * 2 + t.tb.toNat) * 4 + t.mod.toNat := by
  change ((t.a ++ t.b ++ BitVec.ofBool t.ta ++ BitVec.ofBool t.tb ++ t.mod : BitVec (6+6+1+1+2)).setWidth 48).toNat = _
  have := t.a.isLt; have := t.b.isLt; have := t.mod.isLt; have := Bool.toNat_lt t.ta; have := Bool.toNat_lt t.tb
  rw [BitVec.toNat_setWidth]; repeat rw [append_nat]
  simp only [BitVec.toNat_ofBool]; omega

/-- An L tail as a number (R56). -/
theorem packL_nat (t : LTail) : (packL t).toNat = (((((((t.fd.toNat * 64 + t.a.toNat) * 4 + t.fa.toNat) * 64 + t.b.toNat) * 4 + t.fb.toNat) * 2 + t.ta.toNat) * 2 + t.tb.toNat) * 8 + t.k.toNat) * 512 + t.sub.toNat := by
  change ((t.fd ++ t.a ++ t.fa ++ t.b ++ t.fb ++ BitVec.ofBool t.ta ++ BitVec.ofBool t.tb ++ t.k ++ t.sub : BitVec (2+6+2+6+2+1+1+3+9)).setWidth 48).toNat = _
  have := t.a.isLt; have := t.b.isLt; have := t.fd.isLt; have := t.fa.isLt; have := t.fb.isLt; have := t.k.isLt; have := t.sub.isLt; have := Bool.toNat_lt t.ta; have := Bool.toNat_lt t.tb
  rw [BitVec.toNat_setWidth]; repeat rw [append_nat]
  simp only [BitVec.toNat_ofBool]; omega

/-- A W tail as a number (R57). -/
theorem packW_nat (t : WTail) : (packW t).toNat = ((((t.a.toNat * 4 + t.fa.toNat) * 2 + t.ta.toNat) * 8 + t.k.toNat) * 16 + t.sub.toNat) * 2 ^ 32 + t.imm.toNat := by
  change (t.a ++ t.fa ++ BitVec.ofBool t.ta ++ t.k ++ t.sub ++ t.imm : BitVec (6+2+1+3+4+32)).toNat = _
  repeat rw [append_nat]
  simp only [BitVec.toNat_ofBool]; rfl

/-- A bit from the quotient that starts at it. -/
theorem bit_of {n : Nat} (x : BitVec n) (i k : Nat) (b : Bool) (h : x.toNat / 2 ^ i = k * 2 + b.toNat) : x.getLsbD i = b := by
  rw [BitVec.getLsbD, Nat.testBit, Nat.shiftRight_eq_div_pow, h]; cases b <;> simp

/-- The fields of a packed S tail are the fields that were packed. -/
theorem sTail_pack (t : STail) : sTailOf t.d (packS t) = t := by
  have h := packS_nat t
  obtain ⟨d, a, b, ta, tb, mod⟩ := t
  have := a.isLt; have := b.isLt; have := mod.isLt; have := Bool.toNat_lt ta; have := Bool.toNat_lt tb
  simp only [sTailOf, STail.mk.injEq, true_and]
  simp only at h
  refine ⟨?_, ?_, ?_, ?_, ?_⟩
  · apply BitVec.eq_of_toNat_eq; simp [BitVec.extractLsb'_toNat, h, Nat.shiftRight_eq_div_pow]; omega
  · apply BitVec.eq_of_toNat_eq; simp [BitVec.extractLsb'_toNat, h, Nat.shiftRight_eq_div_pow]; omega
  · apply bit_of _ _ (a.toNat * 64 + b.toNat); rw [h]; omega
  · apply bit_of _ _ ((a.toNat * 64 + b.toNat) * 2 + ta.toNat); rw [h]; omega
  · apply BitVec.eq_of_toNat_eq; simp [BitVec.extractLsb'_toNat, h, Nat.shiftRight_eq_div_pow]; omega

/-- The fields of a packed L tail. -/
theorem lTail_pack (t : LTail) : lTailOf t.d (packL t) = t := by
  have h := packL_nat t
  obtain ⟨d, fd, a, fa, b, fb, ta, tb, k, sub⟩ := t
  have := a.isLt; have := b.isLt; have := Bool.toNat_lt ta; have := Bool.toNat_lt tb
  have := fd.isLt; have := fa.isLt; have := fb.isLt; have := k.isLt; have := sub.isLt
  simp only [lTailOf, LTail.mk.injEq, true_and]
  simp only at h
  refine ⟨?_, ?_, ?_, ?_, ?_, ?_, ?_, ?_, ?_⟩
  · apply BitVec.eq_of_toNat_eq; simp [BitVec.extractLsb'_toNat, h, Nat.shiftRight_eq_div_pow]; omega
  · apply BitVec.eq_of_toNat_eq; simp [BitVec.extractLsb'_toNat, h, Nat.shiftRight_eq_div_pow]; omega
  · apply BitVec.eq_of_toNat_eq; simp [BitVec.extractLsb'_toNat, h, Nat.shiftRight_eq_div_pow]; omega
  · apply BitVec.eq_of_toNat_eq; simp [BitVec.extractLsb'_toNat, h, Nat.shiftRight_eq_div_pow]; omega
  · apply BitVec.eq_of_toNat_eq; simp [BitVec.extractLsb'_toNat, h, Nat.shiftRight_eq_div_pow]; omega
  · apply bit_of _ _ ((((fd.toNat * 64 + a.toNat) * 4 + fa.toNat) * 64 + b.toNat) * 4 + fb.toNat); rw [h]; omega
  · apply bit_of _ _ (((((fd.toNat * 64 + a.toNat) * 4 + fa.toNat) * 64 + b.toNat) * 4 + fb.toNat) * 2 + ta.toNat); rw [h]; omega
  · apply BitVec.eq_of_toNat_eq; simp [BitVec.extractLsb'_toNat, h, Nat.shiftRight_eq_div_pow]; omega
  · apply BitVec.eq_of_toNat_eq; simp [BitVec.extractLsb'_toNat, h, Nat.shiftRight_eq_div_pow]; omega

/-- The fields of a packed W tail. -/
theorem wTail_pack (t : WTail) : wTailOf t.d (packW t) = t := by
  have h := packW_nat t
  obtain ⟨d, a, fa, ta, k, sub, imm⟩ := t
  have := a.isLt; have := fa.isLt; have := Bool.toNat_lt ta; have := k.isLt; have := sub.isLt; have := imm.isLt
  simp only [wTailOf, WTail.mk.injEq, true_and]
  simp only at h
  refine ⟨?_, ?_, ?_, ?_, ?_, ?_⟩
  · apply BitVec.eq_of_toNat_eq; simp [BitVec.extractLsb'_toNat, h, Nat.shiftRight_eq_div_pow]; omega
  · apply BitVec.eq_of_toNat_eq; simp [BitVec.extractLsb'_toNat, h, Nat.shiftRight_eq_div_pow]; omega
  · apply bit_of _ _ (a.toNat * 4 + fa.toNat); rw [h]; omega
  · apply BitVec.eq_of_toNat_eq; simp [BitVec.extractLsb'_toNat, h, Nat.shiftRight_eq_div_pow]; omega
  · apply BitVec.eq_of_toNat_eq; simp [BitVec.extractLsb'_toNat, h, Nat.shiftRight_eq_div_pow]; omega
  · apply BitVec.eq_of_toNat_eq; simp [BitVec.extractLsb'_toNat, h]; omega

/-- An encoded S form is looked up in the row of its major. -/
theorem raw_S (v : Bool) (m : BitVec 7) (t : STail) :
    rawInstr (encS v m t).1 (encS v m t).2 = (if v then vectorRows else scalarRows).getD m.toNat rowNone (.s t) := by
  simp only [rawInstr, encS, packHead_vec, packHead_major]
  simp [formOf, packHead_len, packHead_d, sTail_pack]

/-- An encoded L form is looked up in the row of its major. -/
theorem raw_L (v : Bool) (m : BitVec 7) (t : LTail) :
    rawInstr (encL v m t).1 (encL v m t).2 = (if v then vectorRows else scalarRows).getD m.toNat rowNone (.l t) := by
  simp only [rawInstr, encL, packHead_vec, packHead_major]
  simp [formOf, packHead_len, packHead_d, lTail_pack]

/-- An encoded W form is looked up in the row of its major. -/
theorem raw_W (v : Bool) (m : BitVec 7) (t : WTail) (h : isXMajor v m.toNat = false) :
    rawInstr (encW v m t).1 (encW v m t).2 = (if v then vectorRows else scalarRows).getD m.toNat rowNone (.w t) := by
  simp only [rawInstr, encW, packHead_vec, packHead_major]
  simp only [formOf, packHead_len, packHead_d, wTail_pack, packHead_vec, packHead_major, h]; rfl

/-- An encoded X form is looked up in the row of its major. -/
theorem raw_X (v : Bool) (m : BitVec 7) (t : XTail) (h : isXMajor v m.toNat = true) :
    rawInstr (encX v m t).1 (encX v m t).2 = (if v then vectorRows else scalarRows).getD m.toNat rowNone (.x t) := by
  simp only [rawInstr, encX, packHead_vec, packHead_major]
  simp only [formOf, packHead_len, packHead_d, packHead_vec, packHead_major, h]; rfl

/-- An encoded H form is looked up in the row of its major. -/
theorem raw_H (v : Bool) (m : BitVec 7) (d : BitVec 6) :
    rawInstr (encH v m d).1 (encH v m d).2 = (if v then vectorRows else scalarRows).getD m.toNat rowNone (.h d) := by
  simp only [rawInstr, encH, packHead_vec, packHead_major]
  simp [formOf, packHead_len, packHead_d]

end Sys2Proof
end

