-- ==== Sys2Proof/Laws/FMap.lean ====
section
/-!
SUPPORT. Laws of sparse tables: a read after a write, the canonical form, and what writes to HBM keep.
-/
namespace Sys2Proof

variable {α : Type}

theorem FMap.get_erase_self (d : α) (m : FMap α) (k : Nat) : FMap.get d (FMap.erase m k) k = d := by
  induction m with
  | nil => rfl
  | cons e m ih =>
    obtain ⟨a, v⟩ := e
    by_cases h : a = k <;> simp [FMap.erase, FMap.get, h, ih]

theorem FMap.get_erase_ne (d : α) (m : FMap α) {k j : Nat} (h : j ≠ k) :
    FMap.get d (FMap.erase m k) j = FMap.get d m j := by
  induction m with
  | nil => rfl
  | cons e m ih =>
    obtain ⟨a, v⟩ := e
    by_cases ha : a = k
    · subst ha
      simp [FMap.erase, FMap.get, ih, Ne.symm h]
    · simp [FMap.erase, FMap.get, ha, ih]

theorem FMap.get_insert_ne (d : α) (m : FMap α) {k j : Nat} (x : α) (h : j ≠ k) :
    FMap.get d (FMap.insert m k x) j = FMap.get d m j := by
  induction m with
  | nil => simp [FMap.insert, FMap.get, Ne.symm h]
  | cons e m ih =>
    obtain ⟨a, v⟩ := e
    by_cases hl : k < a
    · simp [FMap.insert, FMap.get, hl, Ne.symm h]
    · simp [FMap.insert, FMap.get, hl, ih]

theorem FMap.get_insert_self (d : α) (m : FMap α) (k : Nat) (x : α) (h : ∀ e ∈ m, e.1 ≠ k) :
    FMap.get d (FMap.insert m k x) k = x := by
  induction m with
  | nil => simp [FMap.insert, FMap.get]
  | cons e m ih =>
    obtain ⟨a, v⟩ := e
    have ha : a ≠ k := h (a, v) (by simp)
    by_cases hl : k < a
    · simp [FMap.insert, FMap.get, hl]
    · simp [FMap.insert, FMap.get, hl, ha, ih (fun e he => h e (by simp [he]))]

theorem FMap.erase_ne (m : FMap α) (k : Nat) : ∀ e ∈ FMap.erase m k, e.1 ≠ k := by
  induction m with
  | nil => simp [FMap.erase]
  | cons e m ih =>
    obtain ⟨a, v⟩ := e
    by_cases h : a = k
    · simpa [FMap.erase, h] using ih
    · simp only [FMap.erase, h, if_false, List.mem_cons]
      rintro e (rfl | he)
      · exact h
      · exact ih e he

/-- A read after a write to the same key. -/
@[simp] theorem FMap.get_put_self [DecidableEq α] (d : α) (m : FMap α) (k : Nat) (x : α) :
    FMap.get d (FMap.put d m k x) k = x := by
  unfold FMap.put
  split
  · next h => subst h; exact FMap.get_erase_self _ m k
  · exact FMap.get_insert_self d _ k x (FMap.erase_ne m k)

/-- A write leaves every other key alone. -/
theorem FMap.get_put_ne [DecidableEq α] (d : α) (m : FMap α) {k j : Nat} (x : α) (h : j ≠ k) :
    FMap.get d (FMap.put d m k x) j = FMap.get d m j := by
  unfold FMap.put
  split
  · exact FMap.get_erase_ne d m h
  · rw [FMap.get_insert_ne d _ x h, FMap.get_erase_ne d m h]

@[simp] theorem FMap.get_set_self (d : α) (m : FMap α) (k : Nat) (x : α) : FMap.get d (FMap.set m k x) k = x :=
  FMap.get_insert_self d _ k x (FMap.erase_ne m k)

theorem FMap.get_set_ne (d : α) (m : FMap α) {k j : Nat} (x : α) (h : j ≠ k) :
    FMap.get d (FMap.set m k x) j = FMap.get d m j := by
  rw [FMap.set, FMap.get_insert_ne d _ x h, FMap.get_erase_ne d m h]

theorem FMap.find_erase_ne (m : FMap α) {k j : Nat} (h : j ≠ k) : FMap.find (FMap.erase m k) j = FMap.find m j := by
  induction m with
  | nil => rfl
  | cons e m ih =>
    obtain ⟨a, v⟩ := e
    by_cases ha : a = k
    · subst ha
      simp [FMap.erase, FMap.find, ih, Ne.symm h]
    · simp [FMap.erase, FMap.find, ha, ih]

theorem FMap.find_insert_ne (m : FMap α) {k j : Nat} (x : α) (h : j ≠ k) :
    FMap.find (FMap.insert m k x) j = FMap.find m j := by
  induction m with
  | nil => simp [FMap.insert, FMap.find, Ne.symm h]
  | cons e m ih =>
    obtain ⟨a, v⟩ := e
    by_cases hl : k < a
    · simp [FMap.insert, FMap.find, hl, Ne.symm h]
    · simp [FMap.insert, FMap.find, hl, ih]

theorem FMap.find_insert_self (m : FMap α) (k : Nat) (x : α) (h : ∀ e ∈ m, e.1 ≠ k) :
    FMap.find (FMap.insert m k x) k = some x := by
  induction m with
  | nil => simp [FMap.insert, FMap.find]
  | cons e m ih =>
    obtain ⟨a, v⟩ := e
    have ha : a ≠ k := h (a, v) (by simp)
    by_cases hl : k < a
    · simp [FMap.insert, FMap.find, hl]
    · simp [FMap.insert, FMap.find, hl, ha, ih (fun e he => h e (by simp [he]))]

@[simp] theorem FMap.find_set_self (m : FMap α) (k : Nat) (x : α) : FMap.find (FMap.set m k x) k = some x :=
  FMap.find_insert_self _ k x (FMap.erase_ne m k)

theorem FMap.find_set_ne (m : FMap α) {k j : Nat} (x : α) (h : j ≠ k) : FMap.find (FMap.set m k x) j = FMap.find m j := by
  rw [FMap.set, FMap.find_insert_ne _ x h, FMap.find_erase_ne m h]

/-! ### The canonical form -/

theorem FMap.wfFrom_weaken [DecidableEq α] (d : α) {lo : Nat} {b : Option Nat} (m : FMap α)
    (hb : ∀ c, b = some c → c ≤ lo) (h : FMap.wfFrom d (some lo) m = true) : FMap.wfFrom d b m = true := by
  cases m with
  | nil => rfl
  | cons e m =>
    obtain ⟨a, v⟩ := e
    simp only [FMap.wfFrom, Bool.and_eq_true, decide_eq_true_eq] at h ⊢
    refine ⟨⟨?_, h.1.2⟩, h.2⟩
    cases b with
    | none => rfl
    | some c => simpa using lt_of_le_of_lt (hb c rfl) h.1.1

theorem FMap.wfFrom_erase [DecidableEq α] (d : α) (m : FMap α) (k : Nat) :
    ∀ b, FMap.wfFrom d b m = true → FMap.wfFrom d b (FMap.erase m k) = true := by
  induction m with
  | nil => intro b _; rfl
  | cons e m ih =>
    obtain ⟨a, v⟩ := e
    intro b h
    simp only [FMap.wfFrom, Bool.and_eq_true, decide_eq_true_eq] at h
    by_cases ha : a = k
    · simp only [FMap.erase, ha, if_true]
      refine FMap.wfFrom_weaken d (lo := a) _ ?_ (ih _ h.2)
      intro c hc
      subst hc
      simpa using le_of_lt (by simpa using h.1.1)
    · simp only [FMap.erase, ha, if_false, FMap.wfFrom, Bool.and_eq_true, decide_eq_true_eq]
      exact ⟨h.1, ih _ h.2⟩

theorem FMap.wfFrom_insert [DecidableEq α] (d : α) (m : FMap α) (k : Nat) (x : α) (hx : x ≠ d) :
    ∀ b, (∀ e ∈ m, e.1 ≠ k) → (∀ c, b = some c → c < k) → FMap.wfFrom d b m = true →
      FMap.wfFrom d b (FMap.insert m k x) = true := by
  induction m with
  | nil =>
    intro b _ hb _
    cases b with
    | none => simp [FMap.insert, FMap.wfFrom, hx]
    | some c => simp [FMap.insert, FMap.wfFrom, hx, hb c rfl]
  | cons e m ih =>
    obtain ⟨a, v⟩ := e
    intro b hn hb h
    simp only [FMap.wfFrom, Bool.and_eq_true, decide_eq_true_eq] at h
    by_cases hl : k < a
    · cases b with
      | none => simp [FMap.insert, hl, FMap.wfFrom, hx, h.1.2, h.2]
      | some c => simp [FMap.insert, hl, FMap.wfFrom, hx, h.1.2, h.2, hb c rfl]
    · have ha : a ≠ k := hn (a, v) (by simp)
      simp only [FMap.insert, hl, if_false, FMap.wfFrom, Bool.and_eq_true, decide_eq_true_eq]
      refine ⟨h.1, ih _ (fun e he => hn e (by simp [he])) ?_ h.2⟩
      intro c hc
      injection hc with hc
      subst hc
      omega

/-- A write keeps the canonical form. -/
theorem FMap.wf_put [DecidableEq α] (d : α) (m : FMap α) (k : Nat) (x : α) (h : FMap.wf d m = true) :
    FMap.wf d (FMap.put d m k x) = true := by
  unfold FMap.put FMap.wf
  split
  · exact FMap.wfFrom_erase d m k _ h
  · next hx => exact FMap.wfFrom_insert d _ k x hx none (FMap.erase_ne m k) (by simp) (FMap.wfFrom_erase d m k _ h)

theorem FMap.wfFrom_filter [DecidableEq α] (d : α) (p : Nat × α → Bool) (m : FMap α) :
    ∀ b, FMap.wfFrom d b m = true → FMap.wfFrom d b (m.filter p) = true := by
  induction m with
  | nil => intro b _; rfl
  | cons e m ih =>
    obtain ⟨a, v⟩ := e
    intro b h
    simp only [FMap.wfFrom, Bool.and_eq_true, decide_eq_true_eq] at h
    by_cases hp : p (a, v)
    · simp only [List.filter_cons, hp, if_true, FMap.wfFrom, Bool.and_eq_true, decide_eq_true_eq]
      exact ⟨h.1, ih _ h.2⟩
    · simp only [List.filter_cons, hp]
      refine FMap.wfFrom_weaken d (lo := a) _ ?_ (ih _ h.2)
      intro c hc
      subst hc
      simpa using le_of_lt (by simpa using h.1.1)

/-- Dropping a range of keys keeps the canonical form. -/
theorem FMap.wf_dropRange [DecidableEq α] (d : α) (m : FMap α) (lo hi : Nat) (h : FMap.wf d m = true) :
    FMap.wf d (m.dropRange lo hi) = true := FMap.wfFrom_filter d _ m none h

end Sys2Proof

namespace Sys2Proof.Machine

/-- The frames of HBM keep their canonical form under a write. -/
theorem hbmPut_wf (s : State) (pa v n : Nat) (h : Memory.wf s.hbm = true) : Memory.wf (s.hbmPut pa v n).hbm = true := by
  induction n with
  | zero => exact h
  | succ n ih =>
    unfold State.hbmPut
    simp only
    split <;> exact FMap.wf_put 0 _ _ _ ih

/-- A byte of a frame outside the bytes written keeps its value. -/
theorem hbmPut_other (s : State) (pa v n a : Nat) (h : a < pa ∨ pa + n ≤ a) :
    FMap.get 0 (s.hbmPut pa v n).hbm a = FMap.get 0 s.hbm a := by
  induction n with
  | zero => rfl
  | succ n ih =>
    have hne : a ≠ pa + n := by omega
    unfold State.hbmPut
    simp only
    split <;> exact (FMap.get_put_ne 0 _ _ hne).trans (ih (by omega))

/-- A byte of a frame that is written reads as the byte of the value. -/
theorem hbmPut_at (s : State) (pa v n i : Nat) (h : i < n) :
    FMap.get 0 (s.hbmPut pa v n).hbm (pa + i) = byteOf v i := by
  induction n with
  | zero => omega
  | succ n ih =>
    unfold State.hbmPut
    simp only
    by_cases hi : i = n
    · subst hi
      split <;> exact FMap.get_put_self 0 _ _ _
    · have hne : pa + i ≠ pa + n := by omega
      split <;> exact (FMap.get_put_ne 0 _ _ hne).trans (ih (by omega))

/-- Writing a word of a block changes no frame. -/
@[simp] theorem putBlock_hbm (s : State) (b : Block) (i : Nat) (w : Word) : (s.putBlock b i w).hbm = s.hbm := by
  cases b with
  | region a =>
    simp only [State.putBlock, State.modRcb]
    split <;> rfl
  | descriptor q =>
    simp only [State.putBlock, State.writeDescriptor]
    split
    · rfl
    · split <;> rfl

/-- Writing blocks changes no frame. -/
@[simp] theorem writeBlocks_hbm (s : State) (pa v n : Nat) : (s.writeBlocks pa v n).hbm = s.hbm := by
  unfold State.writeBlocks
  generalize List.range (n / 8 + 2) = l
  induction l generalizing s with
  | nil => rfl
  | cons j l ih =>
    rw [List.foldl_cons, ih]
    simp only
    split
    · rfl
    · split <;> simp

/-- HBM keeps its canonical form under a write. -/
theorem hbmWrite_wf (s : State) (pa v n : Nat) (h : Memory.wf s.hbm = true) : Memory.wf (s.hbmWrite pa v n).hbm = true := by
  simpa [State.hbmWrite] using hbmPut_wf s pa v n h

/-- A byte of a frame outside the bytes written keeps its value. -/
theorem hbmWrite_other (s : State) (pa v n a : Nat) (h : a < pa ∨ pa + n ≤ a) :
    FMap.get 0 (s.hbmWrite pa v n).hbm a = FMap.get 0 s.hbm a := by
  simpa [State.hbmWrite] using hbmPut_other s pa v n a h

/-- A byte of a frame that is written reads as the byte of the value. -/
theorem hbmWrite_at (s : State) (pa v n i : Nat) (h : i < n) :
    FMap.get 0 (s.hbmWrite pa v n).hbm (pa + i) = byteOf v i := by
  simpa [State.hbmWrite] using hbmPut_at s pa v n i h

/-- Where no block stands, HBM reads as its frames. -/
theorem hbmByte_frame (s : State) (pa : Nat) (h : s.blockAt pa = none) : s.hbmByte pa = FMap.get 0 s.hbm pa := by
  simp [State.hbmByte, h]

/-! ### Bytes of a tile's scratchpad (R158, R159) -/

/-- What a byte written to scratchpad can change: that byte, or behind the pages of records the records (R159). -/
theorem Tile.setByte_frame (t : Tile) (pa : Nat) (x : Byte) :
    (t.setByte pa x).setRecords ⟨[], [], [], []⟩ =
      { t with scratch := (t.setByte pa x).scratch }.setRecords ⟨[], [], [], []⟩ := by
  unfold Tile.setByte; split <;> rfl

theorem Tile.setByte_records (t : Tile) (pa : Nat) (x : Byte) (h : recordPage pa = false) : (t.setByte pa x).records = t.records := by
  simp [Tile.setByte, Tile.records, h]

theorem Tile.setByte_other (t : Tile) (pa a : Nat) (x : Byte) (h : a ≠ pa ∨ recordPage pa = true) : (t.setByte pa x).byte a = t.byte a := by
  unfold Tile.setByte Tile.byte
  split
  · rfl
  · exact FMap.get_put_ne _ _ _ (h.resolve_right (by assumption))

theorem Tile.setByte_at (t : Tile) (pa : Nat) (x : Byte) (h : recordPage pa = false) : (t.setByte pa x).look pa = x := by
  simp [Tile.look, Tile.setByte, Tile.byte, h]

theorem Tile.look_plain (t : Tile) (pa : Nat) (h : recordPage pa = false) : t.look pa = t.byte pa := by simp [Tile.look, h]

end Sys2Proof.Machine
end

