-- ==== Sys2Proof/Laws/State.lean ====
section
/-!
SUPPORT. What each update of the state leaves alone, field by field, and what a read finds after it.
-/
namespace Sys2Proof.Machine

/-! ### State.setTile -/

@[simp] theorem State.setTile_queues (s : State) (t : Nat) (x : Tile) : (s.setTile t x).queues = s.queues := rfl
@[simp] theorem State.setTile_hbm (s : State) (t : Nat) (x : Tile) : (s.setTile t x).hbm = s.hbm := rfl
@[simp] theorem State.setTile_descs (s : State) (t : Nat) (x : Tile) : (s.setTile t x).descs = s.descs := rfl
@[simp] theorem State.setTile_descHome (s : State) (t : Nat) (x : Tile) : (s.setTile t x).descHome = s.descHome := rfl
@[simp] theorem State.setTile_hbmPoison (s : State) (t : Nat) (x : Tile) : (s.setTile t x).hbmPoison = s.hbmPoison := rfl
@[simp] theorem State.setTile_pkg (s : State) (t : Nat) (x : Tile) : (s.setTile t x).pkg = s.pkg := rfl
@[simp] theorem State.setTile_flights (s : State) (t : Nat) (x : Tile) : (s.setTile t x).flights = s.flights := rfl
@[simp] theorem State.setTile_nextId (s : State) (t : Nat) (x : Tile) : (s.setTile t x).nextId = s.nextId := rfl
@[simp] theorem State.setTile_dies (s : State) (t : Nat) (x : Tile) : (s.setTile t x).dies = s.dies := rfl
@[simp] theorem State.setTile_nodes (s : State) (t : Nat) (x : Tile) : (s.setTile t x).nodes = s.nodes := rfl
@[simp] theorem State.setTile_sources (s : State) (t : Nat) (x : Tile) : (s.setTile t x).sources = s.sources := rfl
@[simp] theorem State.setTile_engines (s : State) (t : Nat) (x : Tile) : (s.setTile t x).engines = s.engines := rfl
@[simp] theorem State.setTile_via (s : State) (t : Nat) (x : Tile) : (s.setTile t x).via = s.via := rfl
@[simp] theorem State.setTile_noted (s : State) (t : Nat) (x : Tile) : (s.setTile t x).noted = s.noted := rfl
@[simp] theorem State.setTile_cur (s : State) (t : Nat) (x : Tile) : (s.setTile t x).cur = s.cur := rfl
@[simp] theorem State.setTile_due (s : State) (t : Nat) (x : Tile) : (s.setTile t x).due = s.due := rfl
@[simp] theorem State.setTile_choices (s : State) (t : Nat) (x : Tile) : (s.setTile t x).choices = s.choices := rfl
@[simp] theorem State.setTile_boots (s : State) (t : Nat) (x : Tile) : (s.setTile t x).boots = s.boots := rfl
@[simp] theorem State.setTile_passDue (s : State) (t : Nat) (x : Tile) : (s.setTile t x).passDue = s.passDue := rfl
@[simp] theorem State.setTile_frames (s : State) (t : Nat) (x : Tile) : (s.setTile t x).frames = s.frames := rfl
@[simp] theorem State.setTile_registered (s : State) (t : Nat) (x : Tile) : (s.setTile t x).registered = s.registered := rfl
@[simp] theorem State.setTile_handles (s : State) (t : Nat) (x : Tile) : (s.setTile t x).handles = s.handles := rfl
@[simp] theorem State.setTile_hostKeys (s : State) (t : Nat) (x : Tile) : (s.setTile t x).hostKeys = s.hostKeys := rfl
@[simp] theorem State.setTile_sessions (s : State) (t : Nat) (x : Tile) : (s.setTile t x).sessions = s.sessions := rfl
@[simp] theorem State.setTile_calls (s : State) (t : Nat) (x : Tile) : (s.setTile t x).calls = s.calls := rfl
@[simp] theorem State.setTile_discarded (s : State) (t : Nat) (x : Tile) : (s.setTile t x).discarded = s.discarded := rfl
@[simp] theorem State.setTile_inbox (s : State) (t : Nat) (x : Tile) : (s.setTile t x).inbox = s.inbox := rfl
@[simp] theorem State.setTile_outbox (s : State) (t : Nat) (x : Tile) : (s.setTile t x).outbox = s.outbox := rfl
@[simp] theorem State.setTile_power (s : State) (t : Nat) (x : Tile) : (s.setTile t x).power = s.power := rfl
@[simp] theorem State.setTile_links (s : State) (t : Nat) (x : Tile) : (s.setTile t x).links = s.links := rfl
@[simp] theorem State.setTile_groups (s : State) (t : Nat) (x : Tile) : (s.setTile t x).groups = s.groups := rfl
@[simp] theorem State.setTile_boot (s : State) (t : Nat) (x : Tile) : (s.setTile t x).boot = s.boot := rfl

/-! ### State.modTile -/

@[simp] theorem State.modTile_queues (s : State) (t : Nat) (f : Tile → Tile) : (s.modTile t f).queues = s.queues := rfl
@[simp] theorem State.modTile_hbm (s : State) (t : Nat) (f : Tile → Tile) : (s.modTile t f).hbm = s.hbm := rfl
@[simp] theorem State.modTile_descs (s : State) (t : Nat) (f : Tile → Tile) : (s.modTile t f).descs = s.descs := rfl
@[simp] theorem State.modTile_descHome (s : State) (t : Nat) (f : Tile → Tile) : (s.modTile t f).descHome = s.descHome := rfl
@[simp] theorem State.modTile_hbmPoison (s : State) (t : Nat) (f : Tile → Tile) : (s.modTile t f).hbmPoison = s.hbmPoison := rfl
@[simp] theorem State.modTile_pkg (s : State) (t : Nat) (f : Tile → Tile) : (s.modTile t f).pkg = s.pkg := rfl
@[simp] theorem State.modTile_flights (s : State) (t : Nat) (f : Tile → Tile) : (s.modTile t f).flights = s.flights := rfl
@[simp] theorem State.modTile_nextId (s : State) (t : Nat) (f : Tile → Tile) : (s.modTile t f).nextId = s.nextId := rfl
@[simp] theorem State.modTile_dies (s : State) (t : Nat) (f : Tile → Tile) : (s.modTile t f).dies = s.dies := rfl
@[simp] theorem State.modTile_nodes (s : State) (t : Nat) (f : Tile → Tile) : (s.modTile t f).nodes = s.nodes := rfl
@[simp] theorem State.modTile_sources (s : State) (t : Nat) (f : Tile → Tile) : (s.modTile t f).sources = s.sources := rfl
@[simp] theorem State.modTile_engines (s : State) (t : Nat) (f : Tile → Tile) : (s.modTile t f).engines = s.engines := rfl
@[simp] theorem State.modTile_via (s : State) (t : Nat) (f : Tile → Tile) : (s.modTile t f).via = s.via := rfl
@[simp] theorem State.modTile_noted (s : State) (t : Nat) (f : Tile → Tile) : (s.modTile t f).noted = s.noted := rfl
@[simp] theorem State.modTile_cur (s : State) (t : Nat) (f : Tile → Tile) : (s.modTile t f).cur = s.cur := rfl
@[simp] theorem State.modTile_due (s : State) (t : Nat) (f : Tile → Tile) : (s.modTile t f).due = s.due := rfl
@[simp] theorem State.modTile_choices (s : State) (t : Nat) (f : Tile → Tile) : (s.modTile t f).choices = s.choices := rfl
@[simp] theorem State.modTile_boots (s : State) (t : Nat) (f : Tile → Tile) : (s.modTile t f).boots = s.boots := rfl
@[simp] theorem State.modTile_passDue (s : State) (t : Nat) (f : Tile → Tile) : (s.modTile t f).passDue = s.passDue := rfl
@[simp] theorem State.modTile_frames (s : State) (t : Nat) (f : Tile → Tile) : (s.modTile t f).frames = s.frames := rfl
@[simp] theorem State.modTile_registered (s : State) (t : Nat) (f : Tile → Tile) : (s.modTile t f).registered = s.registered := rfl
@[simp] theorem State.modTile_handles (s : State) (t : Nat) (f : Tile → Tile) : (s.modTile t f).handles = s.handles := rfl
@[simp] theorem State.modTile_hostKeys (s : State) (t : Nat) (f : Tile → Tile) : (s.modTile t f).hostKeys = s.hostKeys := rfl
@[simp] theorem State.modTile_sessions (s : State) (t : Nat) (f : Tile → Tile) : (s.modTile t f).sessions = s.sessions := rfl
@[simp] theorem State.modTile_calls (s : State) (t : Nat) (f : Tile → Tile) : (s.modTile t f).calls = s.calls := rfl
@[simp] theorem State.modTile_discarded (s : State) (t : Nat) (f : Tile → Tile) : (s.modTile t f).discarded = s.discarded := rfl
@[simp] theorem State.modTile_inbox (s : State) (t : Nat) (f : Tile → Tile) : (s.modTile t f).inbox = s.inbox := rfl
@[simp] theorem State.modTile_outbox (s : State) (t : Nat) (f : Tile → Tile) : (s.modTile t f).outbox = s.outbox := rfl
@[simp] theorem State.modTile_power (s : State) (t : Nat) (f : Tile → Tile) : (s.modTile t f).power = s.power := rfl
@[simp] theorem State.modTile_links (s : State) (t : Nat) (f : Tile → Tile) : (s.modTile t f).links = s.links := rfl
@[simp] theorem State.modTile_groups (s : State) (t : Nat) (f : Tile → Tile) : (s.modTile t f).groups = s.groups := rfl
@[simp] theorem State.modTile_boot (s : State) (t : Nat) (f : Tile → Tile) : (s.modTile t f).boot = s.boot := rfl

/-! ### State.setStrand -/

@[simp] theorem State.setStrand_queues (s : State) (w : Who) (x : Strand) : (s.setStrand w x).queues = s.queues := rfl
@[simp] theorem State.setStrand_hbm (s : State) (w : Who) (x : Strand) : (s.setStrand w x).hbm = s.hbm := rfl
@[simp] theorem State.setStrand_descs (s : State) (w : Who) (x : Strand) : (s.setStrand w x).descs = s.descs := rfl
@[simp] theorem State.setStrand_descHome (s : State) (w : Who) (x : Strand) : (s.setStrand w x).descHome = s.descHome := rfl
@[simp] theorem State.setStrand_hbmPoison (s : State) (w : Who) (x : Strand) : (s.setStrand w x).hbmPoison = s.hbmPoison := rfl
@[simp] theorem State.setStrand_pkg (s : State) (w : Who) (x : Strand) : (s.setStrand w x).pkg = s.pkg := rfl
@[simp] theorem State.setStrand_flights (s : State) (w : Who) (x : Strand) : (s.setStrand w x).flights = s.flights := rfl
@[simp] theorem State.setStrand_nextId (s : State) (w : Who) (x : Strand) : (s.setStrand w x).nextId = s.nextId := rfl
@[simp] theorem State.setStrand_dies (s : State) (w : Who) (x : Strand) : (s.setStrand w x).dies = s.dies := rfl
@[simp] theorem State.setStrand_nodes (s : State) (w : Who) (x : Strand) : (s.setStrand w x).nodes = s.nodes := rfl
@[simp] theorem State.setStrand_sources (s : State) (w : Who) (x : Strand) : (s.setStrand w x).sources = s.sources := rfl
@[simp] theorem State.setStrand_engines (s : State) (w : Who) (x : Strand) : (s.setStrand w x).engines = s.engines := rfl
@[simp] theorem State.setStrand_via (s : State) (w : Who) (x : Strand) : (s.setStrand w x).via = s.via := rfl
@[simp] theorem State.setStrand_noted (s : State) (w : Who) (x : Strand) : (s.setStrand w x).noted = s.noted := rfl
@[simp] theorem State.setStrand_cur (s : State) (w : Who) (x : Strand) : (s.setStrand w x).cur = s.cur := rfl
@[simp] theorem State.setStrand_due (s : State) (w : Who) (x : Strand) : (s.setStrand w x).due = s.due := rfl
@[simp] theorem State.setStrand_choices (s : State) (w : Who) (x : Strand) : (s.setStrand w x).choices = s.choices := rfl
@[simp] theorem State.setStrand_boots (s : State) (w : Who) (x : Strand) : (s.setStrand w x).boots = s.boots := rfl
@[simp] theorem State.setStrand_passDue (s : State) (w : Who) (x : Strand) : (s.setStrand w x).passDue = s.passDue := rfl
@[simp] theorem State.setStrand_frames (s : State) (w : Who) (x : Strand) : (s.setStrand w x).frames = s.frames := rfl
@[simp] theorem State.setStrand_registered (s : State) (w : Who) (x : Strand) : (s.setStrand w x).registered = s.registered := rfl
@[simp] theorem State.setStrand_handles (s : State) (w : Who) (x : Strand) : (s.setStrand w x).handles = s.handles := rfl
@[simp] theorem State.setStrand_hostKeys (s : State) (w : Who) (x : Strand) : (s.setStrand w x).hostKeys = s.hostKeys := rfl
@[simp] theorem State.setStrand_sessions (s : State) (w : Who) (x : Strand) : (s.setStrand w x).sessions = s.sessions := rfl
@[simp] theorem State.setStrand_calls (s : State) (w : Who) (x : Strand) : (s.setStrand w x).calls = s.calls := rfl
@[simp] theorem State.setStrand_discarded (s : State) (w : Who) (x : Strand) : (s.setStrand w x).discarded = s.discarded := rfl
@[simp] theorem State.setStrand_inbox (s : State) (w : Who) (x : Strand) : (s.setStrand w x).inbox = s.inbox := rfl
@[simp] theorem State.setStrand_outbox (s : State) (w : Who) (x : Strand) : (s.setStrand w x).outbox = s.outbox := rfl
@[simp] theorem State.setStrand_power (s : State) (w : Who) (x : Strand) : (s.setStrand w x).power = s.power := rfl
@[simp] theorem State.setStrand_links (s : State) (w : Who) (x : Strand) : (s.setStrand w x).links = s.links := rfl
@[simp] theorem State.setStrand_groups (s : State) (w : Who) (x : Strand) : (s.setStrand w x).groups = s.groups := rfl
@[simp] theorem State.setStrand_boot (s : State) (w : Who) (x : Strand) : (s.setStrand w x).boot = s.boot := rfl

/-! ### State.modStrand -/

@[simp] theorem State.modStrand_queues (s : State) (w : Who) (f : Strand → Strand) : (s.modStrand w f).queues = s.queues := rfl
@[simp] theorem State.modStrand_hbm (s : State) (w : Who) (f : Strand → Strand) : (s.modStrand w f).hbm = s.hbm := rfl
@[simp] theorem State.modStrand_descs (s : State) (w : Who) (f : Strand → Strand) : (s.modStrand w f).descs = s.descs := rfl
@[simp] theorem State.modStrand_descHome (s : State) (w : Who) (f : Strand → Strand) : (s.modStrand w f).descHome = s.descHome := rfl
@[simp] theorem State.modStrand_hbmPoison (s : State) (w : Who) (f : Strand → Strand) : (s.modStrand w f).hbmPoison = s.hbmPoison := rfl
@[simp] theorem State.modStrand_pkg (s : State) (w : Who) (f : Strand → Strand) : (s.modStrand w f).pkg = s.pkg := rfl
@[simp] theorem State.modStrand_flights (s : State) (w : Who) (f : Strand → Strand) : (s.modStrand w f).flights = s.flights := rfl
@[simp] theorem State.modStrand_nextId (s : State) (w : Who) (f : Strand → Strand) : (s.modStrand w f).nextId = s.nextId := rfl
@[simp] theorem State.modStrand_dies (s : State) (w : Who) (f : Strand → Strand) : (s.modStrand w f).dies = s.dies := rfl
@[simp] theorem State.modStrand_nodes (s : State) (w : Who) (f : Strand → Strand) : (s.modStrand w f).nodes = s.nodes := rfl
@[simp] theorem State.modStrand_sources (s : State) (w : Who) (f : Strand → Strand) : (s.modStrand w f).sources = s.sources := rfl
@[simp] theorem State.modStrand_engines (s : State) (w : Who) (f : Strand → Strand) : (s.modStrand w f).engines = s.engines := rfl
@[simp] theorem State.modStrand_via (s : State) (w : Who) (f : Strand → Strand) : (s.modStrand w f).via = s.via := rfl
@[simp] theorem State.modStrand_noted (s : State) (w : Who) (f : Strand → Strand) : (s.modStrand w f).noted = s.noted := rfl
@[simp] theorem State.modStrand_cur (s : State) (w : Who) (f : Strand → Strand) : (s.modStrand w f).cur = s.cur := rfl
@[simp] theorem State.modStrand_due (s : State) (w : Who) (f : Strand → Strand) : (s.modStrand w f).due = s.due := rfl
@[simp] theorem State.modStrand_choices (s : State) (w : Who) (f : Strand → Strand) : (s.modStrand w f).choices = s.choices := rfl
@[simp] theorem State.modStrand_boots (s : State) (w : Who) (f : Strand → Strand) : (s.modStrand w f).boots = s.boots := rfl
@[simp] theorem State.modStrand_passDue (s : State) (w : Who) (f : Strand → Strand) : (s.modStrand w f).passDue = s.passDue := rfl
@[simp] theorem State.modStrand_frames (s : State) (w : Who) (f : Strand → Strand) : (s.modStrand w f).frames = s.frames := rfl
@[simp] theorem State.modStrand_registered (s : State) (w : Who) (f : Strand → Strand) : (s.modStrand w f).registered = s.registered := rfl
@[simp] theorem State.modStrand_handles (s : State) (w : Who) (f : Strand → Strand) : (s.modStrand w f).handles = s.handles := rfl
@[simp] theorem State.modStrand_hostKeys (s : State) (w : Who) (f : Strand → Strand) : (s.modStrand w f).hostKeys = s.hostKeys := rfl
@[simp] theorem State.modStrand_sessions (s : State) (w : Who) (f : Strand → Strand) : (s.modStrand w f).sessions = s.sessions := rfl
@[simp] theorem State.modStrand_calls (s : State) (w : Who) (f : Strand → Strand) : (s.modStrand w f).calls = s.calls := rfl
@[simp] theorem State.modStrand_discarded (s : State) (w : Who) (f : Strand → Strand) : (s.modStrand w f).discarded = s.discarded := rfl
@[simp] theorem State.modStrand_inbox (s : State) (w : Who) (f : Strand → Strand) : (s.modStrand w f).inbox = s.inbox := rfl
@[simp] theorem State.modStrand_outbox (s : State) (w : Who) (f : Strand → Strand) : (s.modStrand w f).outbox = s.outbox := rfl
@[simp] theorem State.modStrand_power (s : State) (w : Who) (f : Strand → Strand) : (s.modStrand w f).power = s.power := rfl
@[simp] theorem State.modStrand_links (s : State) (w : Who) (f : Strand → Strand) : (s.modStrand w f).links = s.links := rfl
@[simp] theorem State.modStrand_groups (s : State) (w : Who) (f : Strand → Strand) : (s.modStrand w f).groups = s.groups := rfl
@[simp] theorem State.modStrand_boot (s : State) (w : Who) (f : Strand → Strand) : (s.modStrand w f).boot = s.boot := rfl

/-! ### State.modDie -/

@[simp] theorem State.modDie_tiles (s : State) (d : Nat) (f : Die → Die) : (s.modDie d f).tiles = s.tiles := rfl
@[simp] theorem State.modDie_queues (s : State) (d : Nat) (f : Die → Die) : (s.modDie d f).queues = s.queues := rfl
@[simp] theorem State.modDie_hbm (s : State) (d : Nat) (f : Die → Die) : (s.modDie d f).hbm = s.hbm := rfl
@[simp] theorem State.modDie_descs (s : State) (d : Nat) (f : Die → Die) : (s.modDie d f).descs = s.descs := rfl
@[simp] theorem State.modDie_descHome (s : State) (d : Nat) (f : Die → Die) : (s.modDie d f).descHome = s.descHome := rfl
@[simp] theorem State.modDie_hbmPoison (s : State) (d : Nat) (f : Die → Die) : (s.modDie d f).hbmPoison = s.hbmPoison := rfl
@[simp] theorem State.modDie_pkg (s : State) (d : Nat) (f : Die → Die) : (s.modDie d f).pkg = s.pkg := rfl
@[simp] theorem State.modDie_flights (s : State) (d : Nat) (f : Die → Die) : (s.modDie d f).flights = s.flights := rfl
@[simp] theorem State.modDie_nextId (s : State) (d : Nat) (f : Die → Die) : (s.modDie d f).nextId = s.nextId := rfl
@[simp] theorem State.modDie_nodes (s : State) (d : Nat) (f : Die → Die) : (s.modDie d f).nodes = s.nodes := rfl
@[simp] theorem State.modDie_sources (s : State) (d : Nat) (f : Die → Die) : (s.modDie d f).sources = s.sources := rfl
@[simp] theorem State.modDie_engines (s : State) (d : Nat) (f : Die → Die) : (s.modDie d f).engines = s.engines := rfl
@[simp] theorem State.modDie_via (s : State) (d : Nat) (f : Die → Die) : (s.modDie d f).via = s.via := rfl
@[simp] theorem State.modDie_noted (s : State) (d : Nat) (f : Die → Die) : (s.modDie d f).noted = s.noted := rfl
@[simp] theorem State.modDie_cur (s : State) (d : Nat) (f : Die → Die) : (s.modDie d f).cur = s.cur := rfl
@[simp] theorem State.modDie_due (s : State) (d : Nat) (f : Die → Die) : (s.modDie d f).due = s.due := rfl
@[simp] theorem State.modDie_choices (s : State) (d : Nat) (f : Die → Die) : (s.modDie d f).choices = s.choices := rfl
@[simp] theorem State.modDie_boots (s : State) (d : Nat) (f : Die → Die) : (s.modDie d f).boots = s.boots := rfl
@[simp] theorem State.modDie_passDue (s : State) (d : Nat) (f : Die → Die) : (s.modDie d f).passDue = s.passDue := rfl
@[simp] theorem State.modDie_frames (s : State) (d : Nat) (f : Die → Die) : (s.modDie d f).frames = s.frames := rfl
@[simp] theorem State.modDie_registered (s : State) (d : Nat) (f : Die → Die) : (s.modDie d f).registered = s.registered := rfl
@[simp] theorem State.modDie_handles (s : State) (d : Nat) (f : Die → Die) : (s.modDie d f).handles = s.handles := rfl
@[simp] theorem State.modDie_hostKeys (s : State) (d : Nat) (f : Die → Die) : (s.modDie d f).hostKeys = s.hostKeys := rfl
@[simp] theorem State.modDie_sessions (s : State) (d : Nat) (f : Die → Die) : (s.modDie d f).sessions = s.sessions := rfl
@[simp] theorem State.modDie_calls (s : State) (d : Nat) (f : Die → Die) : (s.modDie d f).calls = s.calls := rfl
@[simp] theorem State.modDie_discarded (s : State) (d : Nat) (f : Die → Die) : (s.modDie d f).discarded = s.discarded := rfl
@[simp] theorem State.modDie_inbox (s : State) (d : Nat) (f : Die → Die) : (s.modDie d f).inbox = s.inbox := rfl
@[simp] theorem State.modDie_outbox (s : State) (d : Nat) (f : Die → Die) : (s.modDie d f).outbox = s.outbox := rfl
@[simp] theorem State.modDie_power (s : State) (d : Nat) (f : Die → Die) : (s.modDie d f).power = s.power := rfl
@[simp] theorem State.modDie_links (s : State) (d : Nat) (f : Die → Die) : (s.modDie d f).links = s.links := rfl
@[simp] theorem State.modDie_groups (s : State) (d : Nat) (f : Die → Die) : (s.modDie d f).groups = s.groups := rfl
@[simp] theorem State.modDie_boot (s : State) (d : Nat) (f : Die → Die) : (s.modDie d f).boot = s.boot := rfl

/-! ### State.send -/

@[simp] theorem State.send_tiles (s : State) (w : Who) (lo : Nat) (hi : Option Nat) (k : Kind) (l : List RegRef) : (s.send w lo hi k l).tiles = s.tiles := rfl
@[simp] theorem State.send_queues (s : State) (w : Who) (lo : Nat) (hi : Option Nat) (k : Kind) (l : List RegRef) : (s.send w lo hi k l).queues = s.queues := rfl
@[simp] theorem State.send_hbm (s : State) (w : Who) (lo : Nat) (hi : Option Nat) (k : Kind) (l : List RegRef) : (s.send w lo hi k l).hbm = s.hbm := rfl
@[simp] theorem State.send_descs (s : State) (w : Who) (lo : Nat) (hi : Option Nat) (k : Kind) (l : List RegRef) : (s.send w lo hi k l).descs = s.descs := rfl
@[simp] theorem State.send_descHome (s : State) (w : Who) (lo : Nat) (hi : Option Nat) (k : Kind) (l : List RegRef) : (s.send w lo hi k l).descHome = s.descHome := rfl
@[simp] theorem State.send_hbmPoison (s : State) (w : Who) (lo : Nat) (hi : Option Nat) (k : Kind) (l : List RegRef) : (s.send w lo hi k l).hbmPoison = s.hbmPoison := rfl
@[simp] theorem State.send_pkg (s : State) (w : Who) (lo : Nat) (hi : Option Nat) (k : Kind) (l : List RegRef) : (s.send w lo hi k l).pkg = s.pkg := rfl
@[simp] theorem State.send_dies (s : State) (w : Who) (lo : Nat) (hi : Option Nat) (k : Kind) (l : List RegRef) : (s.send w lo hi k l).dies = s.dies := rfl
@[simp] theorem State.send_nodes (s : State) (w : Who) (lo : Nat) (hi : Option Nat) (k : Kind) (l : List RegRef) : (s.send w lo hi k l).nodes = s.nodes := rfl
@[simp] theorem State.send_sources (s : State) (w : Who) (lo : Nat) (hi : Option Nat) (k : Kind) (l : List RegRef) : (s.send w lo hi k l).sources = s.sources := rfl
@[simp] theorem State.send_engines (s : State) (w : Who) (lo : Nat) (hi : Option Nat) (k : Kind) (l : List RegRef) : (s.send w lo hi k l).engines = s.engines := rfl
@[simp] theorem State.send_via (s : State) (w : Who) (lo : Nat) (hi : Option Nat) (k : Kind) (l : List RegRef) : (s.send w lo hi k l).via = s.via := rfl
@[simp] theorem State.send_noted (s : State) (w : Who) (lo : Nat) (hi : Option Nat) (k : Kind) (l : List RegRef) : (s.send w lo hi k l).noted = s.noted := rfl
@[simp] theorem State.send_cur (s : State) (w : Who) (lo : Nat) (hi : Option Nat) (k : Kind) (l : List RegRef) : (s.send w lo hi k l).cur = s.cur := rfl
@[simp] theorem State.send_due (s : State) (w : Who) (lo : Nat) (hi : Option Nat) (k : Kind) (l : List RegRef) : (s.send w lo hi k l).due = s.due := rfl
@[simp] theorem State.send_choices (s : State) (w : Who) (lo : Nat) (hi : Option Nat) (k : Kind) (l : List RegRef) : (s.send w lo hi k l).choices = s.choices := rfl
@[simp] theorem State.send_boots (s : State) (w : Who) (lo : Nat) (hi : Option Nat) (k : Kind) (l : List RegRef) : (s.send w lo hi k l).boots = s.boots := rfl
@[simp] theorem State.send_passDue (s : State) (w : Who) (lo : Nat) (hi : Option Nat) (k : Kind) (l : List RegRef) : (s.send w lo hi k l).passDue = s.passDue := rfl
@[simp] theorem State.send_frames (s : State) (w : Who) (lo : Nat) (hi : Option Nat) (k : Kind) (l : List RegRef) : (s.send w lo hi k l).frames = s.frames := rfl
@[simp] theorem State.send_registered (s : State) (w : Who) (lo : Nat) (hi : Option Nat) (k : Kind) (l : List RegRef) : (s.send w lo hi k l).registered = s.registered := rfl
@[simp] theorem State.send_handles (s : State) (w : Who) (lo : Nat) (hi : Option Nat) (k : Kind) (l : List RegRef) : (s.send w lo hi k l).handles = s.handles := rfl
@[simp] theorem State.send_hostKeys (s : State) (w : Who) (lo : Nat) (hi : Option Nat) (k : Kind) (l : List RegRef) : (s.send w lo hi k l).hostKeys = s.hostKeys := rfl
@[simp] theorem State.send_sessions (s : State) (w : Who) (lo : Nat) (hi : Option Nat) (k : Kind) (l : List RegRef) : (s.send w lo hi k l).sessions = s.sessions := rfl
@[simp] theorem State.send_calls (s : State) (w : Who) (lo : Nat) (hi : Option Nat) (k : Kind) (l : List RegRef) : (s.send w lo hi k l).calls = s.calls := rfl
@[simp] theorem State.send_discarded (s : State) (w : Who) (lo : Nat) (hi : Option Nat) (k : Kind) (l : List RegRef) : (s.send w lo hi k l).discarded = s.discarded := rfl
@[simp] theorem State.send_inbox (s : State) (w : Who) (lo : Nat) (hi : Option Nat) (k : Kind) (l : List RegRef) : (s.send w lo hi k l).inbox = s.inbox := rfl
@[simp] theorem State.send_outbox (s : State) (w : Who) (lo : Nat) (hi : Option Nat) (k : Kind) (l : List RegRef) : (s.send w lo hi k l).outbox = s.outbox := rfl
@[simp] theorem State.send_power (s : State) (w : Who) (lo : Nat) (hi : Option Nat) (k : Kind) (l : List RegRef) : (s.send w lo hi k l).power = s.power := rfl
@[simp] theorem State.send_links (s : State) (w : Who) (lo : Nat) (hi : Option Nat) (k : Kind) (l : List RegRef) : (s.send w lo hi k l).links = s.links := rfl
@[simp] theorem State.send_groups (s : State) (w : Who) (lo : Nat) (hi : Option Nat) (k : Kind) (l : List RegRef) : (s.send w lo hi k l).groups = s.groups := rfl
@[simp] theorem State.send_boot (s : State) (w : Who) (lo : Nat) (hi : Option Nat) (k : Kind) (l : List RegRef) : (s.send w lo hi k l).boot = s.boot := rfl

/-! ### State.dropFlight -/

@[simp] theorem State.dropFlight_tiles (s : State) (f : Nat) : (s.dropFlight f).tiles = s.tiles := rfl
@[simp] theorem State.dropFlight_queues (s : State) (f : Nat) : (s.dropFlight f).queues = s.queues := rfl
@[simp] theorem State.dropFlight_hbm (s : State) (f : Nat) : (s.dropFlight f).hbm = s.hbm := rfl
@[simp] theorem State.dropFlight_descs (s : State) (f : Nat) : (s.dropFlight f).descs = s.descs := rfl
@[simp] theorem State.dropFlight_descHome (s : State) (f : Nat) : (s.dropFlight f).descHome = s.descHome := rfl
@[simp] theorem State.dropFlight_hbmPoison (s : State) (f : Nat) : (s.dropFlight f).hbmPoison = s.hbmPoison := rfl
@[simp] theorem State.dropFlight_pkg (s : State) (f : Nat) : (s.dropFlight f).pkg = s.pkg := rfl
@[simp] theorem State.dropFlight_nextId (s : State) (f : Nat) : (s.dropFlight f).nextId = s.nextId := rfl
@[simp] theorem State.dropFlight_dies (s : State) (f : Nat) : (s.dropFlight f).dies = s.dies := rfl
@[simp] theorem State.dropFlight_nodes (s : State) (f : Nat) : (s.dropFlight f).nodes = s.nodes := rfl
@[simp] theorem State.dropFlight_sources (s : State) (f : Nat) : (s.dropFlight f).sources = s.sources := rfl
@[simp] theorem State.dropFlight_engines (s : State) (f : Nat) : (s.dropFlight f).engines = s.engines := rfl
@[simp] theorem State.dropFlight_via (s : State) (f : Nat) : (s.dropFlight f).via = s.via := rfl
@[simp] theorem State.dropFlight_noted (s : State) (f : Nat) : (s.dropFlight f).noted = s.noted := rfl
@[simp] theorem State.dropFlight_cur (s : State) (f : Nat) : (s.dropFlight f).cur = s.cur := rfl
@[simp] theorem State.dropFlight_due (s : State) (f : Nat) : (s.dropFlight f).due = s.due := rfl
@[simp] theorem State.dropFlight_choices (s : State) (f : Nat) : (s.dropFlight f).choices = s.choices := rfl
@[simp] theorem State.dropFlight_boots (s : State) (f : Nat) : (s.dropFlight f).boots = s.boots := rfl
@[simp] theorem State.dropFlight_passDue (s : State) (f : Nat) : (s.dropFlight f).passDue = s.passDue := rfl
@[simp] theorem State.dropFlight_frames (s : State) (f : Nat) : (s.dropFlight f).frames = s.frames := rfl
@[simp] theorem State.dropFlight_registered (s : State) (f : Nat) : (s.dropFlight f).registered = s.registered := rfl
@[simp] theorem State.dropFlight_handles (s : State) (f : Nat) : (s.dropFlight f).handles = s.handles := rfl
@[simp] theorem State.dropFlight_hostKeys (s : State) (f : Nat) : (s.dropFlight f).hostKeys = s.hostKeys := rfl
@[simp] theorem State.dropFlight_sessions (s : State) (f : Nat) : (s.dropFlight f).sessions = s.sessions := rfl
@[simp] theorem State.dropFlight_calls (s : State) (f : Nat) : (s.dropFlight f).calls = s.calls := rfl
@[simp] theorem State.dropFlight_discarded (s : State) (f : Nat) : (s.dropFlight f).discarded = s.discarded := rfl
@[simp] theorem State.dropFlight_inbox (s : State) (f : Nat) : (s.dropFlight f).inbox = s.inbox := rfl
@[simp] theorem State.dropFlight_outbox (s : State) (f : Nat) : (s.dropFlight f).outbox = s.outbox := rfl
@[simp] theorem State.dropFlight_power (s : State) (f : Nat) : (s.dropFlight f).power = s.power := rfl
@[simp] theorem State.dropFlight_links (s : State) (f : Nat) : (s.dropFlight f).links = s.links := rfl
@[simp] theorem State.dropFlight_groups (s : State) (f : Nat) : (s.dropFlight f).groups = s.groups := rfl
@[simp] theorem State.dropFlight_boot (s : State) (f : Nat) : (s.dropFlight f).boot = s.boot := rfl

/-! ### State.setKind -/

@[simp] theorem State.setKind_tiles (s : State) (f : Nat) (k : Kind) : (s.setKind f k).tiles = s.tiles := rfl
@[simp] theorem State.setKind_queues (s : State) (f : Nat) (k : Kind) : (s.setKind f k).queues = s.queues := rfl
@[simp] theorem State.setKind_hbm (s : State) (f : Nat) (k : Kind) : (s.setKind f k).hbm = s.hbm := rfl
@[simp] theorem State.setKind_descs (s : State) (f : Nat) (k : Kind) : (s.setKind f k).descs = s.descs := rfl
@[simp] theorem State.setKind_descHome (s : State) (f : Nat) (k : Kind) : (s.setKind f k).descHome = s.descHome := rfl
@[simp] theorem State.setKind_hbmPoison (s : State) (f : Nat) (k : Kind) : (s.setKind f k).hbmPoison = s.hbmPoison := rfl
@[simp] theorem State.setKind_pkg (s : State) (f : Nat) (k : Kind) : (s.setKind f k).pkg = s.pkg := rfl
@[simp] theorem State.setKind_nextId (s : State) (f : Nat) (k : Kind) : (s.setKind f k).nextId = s.nextId := rfl
@[simp] theorem State.setKind_dies (s : State) (f : Nat) (k : Kind) : (s.setKind f k).dies = s.dies := rfl
@[simp] theorem State.setKind_nodes (s : State) (f : Nat) (k : Kind) : (s.setKind f k).nodes = s.nodes := rfl
@[simp] theorem State.setKind_sources (s : State) (f : Nat) (k : Kind) : (s.setKind f k).sources = s.sources := rfl
@[simp] theorem State.setKind_engines (s : State) (f : Nat) (k : Kind) : (s.setKind f k).engines = s.engines := rfl
@[simp] theorem State.setKind_via (s : State) (f : Nat) (k : Kind) : (s.setKind f k).via = s.via := rfl
@[simp] theorem State.setKind_noted (s : State) (f : Nat) (k : Kind) : (s.setKind f k).noted = s.noted := rfl
@[simp] theorem State.setKind_cur (s : State) (f : Nat) (k : Kind) : (s.setKind f k).cur = s.cur := rfl
@[simp] theorem State.setKind_due (s : State) (f : Nat) (k : Kind) : (s.setKind f k).due = s.due := rfl
@[simp] theorem State.setKind_choices (s : State) (f : Nat) (k : Kind) : (s.setKind f k).choices = s.choices := rfl
@[simp] theorem State.setKind_boots (s : State) (f : Nat) (k : Kind) : (s.setKind f k).boots = s.boots := rfl
@[simp] theorem State.setKind_passDue (s : State) (f : Nat) (k : Kind) : (s.setKind f k).passDue = s.passDue := rfl
@[simp] theorem State.setKind_frames (s : State) (f : Nat) (k : Kind) : (s.setKind f k).frames = s.frames := rfl
@[simp] theorem State.setKind_registered (s : State) (f : Nat) (k : Kind) : (s.setKind f k).registered = s.registered := rfl
@[simp] theorem State.setKind_handles (s : State) (f : Nat) (k : Kind) : (s.setKind f k).handles = s.handles := rfl
@[simp] theorem State.setKind_hostKeys (s : State) (f : Nat) (k : Kind) : (s.setKind f k).hostKeys = s.hostKeys := rfl
@[simp] theorem State.setKind_sessions (s : State) (f : Nat) (k : Kind) : (s.setKind f k).sessions = s.sessions := rfl
@[simp] theorem State.setKind_calls (s : State) (f : Nat) (k : Kind) : (s.setKind f k).calls = s.calls := rfl
@[simp] theorem State.setKind_discarded (s : State) (f : Nat) (k : Kind) : (s.setKind f k).discarded = s.discarded := rfl
@[simp] theorem State.setKind_inbox (s : State) (f : Nat) (k : Kind) : (s.setKind f k).inbox = s.inbox := rfl
@[simp] theorem State.setKind_outbox (s : State) (f : Nat) (k : Kind) : (s.setKind f k).outbox = s.outbox := rfl
@[simp] theorem State.setKind_power (s : State) (f : Nat) (k : Kind) : (s.setKind f k).power = s.power := rfl
@[simp] theorem State.setKind_links (s : State) (f : Nat) (k : Kind) : (s.setKind f k).links = s.links := rfl
@[simp] theorem State.setKind_groups (s : State) (f : Nat) (k : Kind) : (s.setKind f k).groups = s.groups := rfl
@[simp] theorem State.setKind_boot (s : State) (f : Nat) (k : Kind) : (s.setKind f k).boot = s.boot := rfl

/-! ### State.putG -/

@[simp] theorem State.putG_queues (s : State) (w : Who) (i : Nat) (x : Word) : (s.putG w i x).queues = s.queues := rfl
@[simp] theorem State.putG_hbm (s : State) (w : Who) (i : Nat) (x : Word) : (s.putG w i x).hbm = s.hbm := rfl
@[simp] theorem State.putG_descs (s : State) (w : Who) (i : Nat) (x : Word) : (s.putG w i x).descs = s.descs := rfl
@[simp] theorem State.putG_descHome (s : State) (w : Who) (i : Nat) (x : Word) : (s.putG w i x).descHome = s.descHome := rfl
@[simp] theorem State.putG_hbmPoison (s : State) (w : Who) (i : Nat) (x : Word) : (s.putG w i x).hbmPoison = s.hbmPoison := rfl
@[simp] theorem State.putG_pkg (s : State) (w : Who) (i : Nat) (x : Word) : (s.putG w i x).pkg = s.pkg := rfl
@[simp] theorem State.putG_flights (s : State) (w : Who) (i : Nat) (x : Word) : (s.putG w i x).flights = s.flights := rfl
@[simp] theorem State.putG_nextId (s : State) (w : Who) (i : Nat) (x : Word) : (s.putG w i x).nextId = s.nextId := rfl
@[simp] theorem State.putG_dies (s : State) (w : Who) (i : Nat) (x : Word) : (s.putG w i x).dies = s.dies := rfl
@[simp] theorem State.putG_nodes (s : State) (w : Who) (i : Nat) (x : Word) : (s.putG w i x).nodes = s.nodes := rfl
@[simp] theorem State.putG_sources (s : State) (w : Who) (i : Nat) (x : Word) : (s.putG w i x).sources = s.sources := rfl
@[simp] theorem State.putG_engines (s : State) (w : Who) (i : Nat) (x : Word) : (s.putG w i x).engines = s.engines := rfl
@[simp] theorem State.putG_via (s : State) (w : Who) (i : Nat) (x : Word) : (s.putG w i x).via = s.via := rfl
@[simp] theorem State.putG_noted (s : State) (w : Who) (i : Nat) (x : Word) : (s.putG w i x).noted = s.noted := rfl
@[simp] theorem State.putG_cur (s : State) (w : Who) (i : Nat) (x : Word) : (s.putG w i x).cur = s.cur := rfl
@[simp] theorem State.putG_due (s : State) (w : Who) (i : Nat) (x : Word) : (s.putG w i x).due = s.due := rfl
@[simp] theorem State.putG_choices (s : State) (w : Who) (i : Nat) (x : Word) : (s.putG w i x).choices = s.choices := rfl
@[simp] theorem State.putG_boots (s : State) (w : Who) (i : Nat) (x : Word) : (s.putG w i x).boots = s.boots := rfl
@[simp] theorem State.putG_passDue (s : State) (w : Who) (i : Nat) (x : Word) : (s.putG w i x).passDue = s.passDue := rfl
@[simp] theorem State.putG_frames (s : State) (w : Who) (i : Nat) (x : Word) : (s.putG w i x).frames = s.frames := rfl
@[simp] theorem State.putG_registered (s : State) (w : Who) (i : Nat) (x : Word) : (s.putG w i x).registered = s.registered := rfl
@[simp] theorem State.putG_handles (s : State) (w : Who) (i : Nat) (x : Word) : (s.putG w i x).handles = s.handles := rfl
@[simp] theorem State.putG_hostKeys (s : State) (w : Who) (i : Nat) (x : Word) : (s.putG w i x).hostKeys = s.hostKeys := rfl
@[simp] theorem State.putG_sessions (s : State) (w : Who) (i : Nat) (x : Word) : (s.putG w i x).sessions = s.sessions := rfl
@[simp] theorem State.putG_calls (s : State) (w : Who) (i : Nat) (x : Word) : (s.putG w i x).calls = s.calls := rfl
@[simp] theorem State.putG_discarded (s : State) (w : Who) (i : Nat) (x : Word) : (s.putG w i x).discarded = s.discarded := rfl
@[simp] theorem State.putG_inbox (s : State) (w : Who) (i : Nat) (x : Word) : (s.putG w i x).inbox = s.inbox := rfl
@[simp] theorem State.putG_outbox (s : State) (w : Who) (i : Nat) (x : Word) : (s.putG w i x).outbox = s.outbox := rfl
@[simp] theorem State.putG_power (s : State) (w : Who) (i : Nat) (x : Word) : (s.putG w i x).power = s.power := rfl
@[simp] theorem State.putG_links (s : State) (w : Who) (i : Nat) (x : Word) : (s.putG w i x).links = s.links := rfl
@[simp] theorem State.putG_groups (s : State) (w : Who) (i : Nat) (x : Word) : (s.putG w i x).groups = s.groups := rfl
@[simp] theorem State.putG_boot (s : State) (w : Who) (i : Nat) (x : Word) : (s.putG w i x).boot = s.boot := rfl

/-! ### State.putC -/

@[simp] theorem State.putC_queues (s : State) (t i : Nat) (x : Word) : (s.putC t i x).queues = s.queues := rfl
@[simp] theorem State.putC_hbm (s : State) (t i : Nat) (x : Word) : (s.putC t i x).hbm = s.hbm := rfl
@[simp] theorem State.putC_descs (s : State) (t i : Nat) (x : Word) : (s.putC t i x).descs = s.descs := rfl
@[simp] theorem State.putC_descHome (s : State) (t i : Nat) (x : Word) : (s.putC t i x).descHome = s.descHome := rfl
@[simp] theorem State.putC_hbmPoison (s : State) (t i : Nat) (x : Word) : (s.putC t i x).hbmPoison = s.hbmPoison := rfl
@[simp] theorem State.putC_pkg (s : State) (t i : Nat) (x : Word) : (s.putC t i x).pkg = s.pkg := rfl
@[simp] theorem State.putC_flights (s : State) (t i : Nat) (x : Word) : (s.putC t i x).flights = s.flights := rfl
@[simp] theorem State.putC_nextId (s : State) (t i : Nat) (x : Word) : (s.putC t i x).nextId = s.nextId := rfl
@[simp] theorem State.putC_dies (s : State) (t i : Nat) (x : Word) : (s.putC t i x).dies = s.dies := rfl
@[simp] theorem State.putC_nodes (s : State) (t i : Nat) (x : Word) : (s.putC t i x).nodes = s.nodes := rfl
@[simp] theorem State.putC_sources (s : State) (t i : Nat) (x : Word) : (s.putC t i x).sources = s.sources := rfl
@[simp] theorem State.putC_engines (s : State) (t i : Nat) (x : Word) : (s.putC t i x).engines = s.engines := rfl
@[simp] theorem State.putC_via (s : State) (t i : Nat) (x : Word) : (s.putC t i x).via = s.via := rfl
@[simp] theorem State.putC_noted (s : State) (t i : Nat) (x : Word) : (s.putC t i x).noted = s.noted := rfl
@[simp] theorem State.putC_cur (s : State) (t i : Nat) (x : Word) : (s.putC t i x).cur = s.cur := rfl
@[simp] theorem State.putC_due (s : State) (t i : Nat) (x : Word) : (s.putC t i x).due = s.due := rfl
@[simp] theorem State.putC_choices (s : State) (t i : Nat) (x : Word) : (s.putC t i x).choices = s.choices := rfl
@[simp] theorem State.putC_boots (s : State) (t i : Nat) (x : Word) : (s.putC t i x).boots = s.boots := rfl
@[simp] theorem State.putC_passDue (s : State) (t i : Nat) (x : Word) : (s.putC t i x).passDue = s.passDue := rfl
@[simp] theorem State.putC_frames (s : State) (t i : Nat) (x : Word) : (s.putC t i x).frames = s.frames := rfl
@[simp] theorem State.putC_registered (s : State) (t i : Nat) (x : Word) : (s.putC t i x).registered = s.registered := rfl
@[simp] theorem State.putC_handles (s : State) (t i : Nat) (x : Word) : (s.putC t i x).handles = s.handles := rfl
@[simp] theorem State.putC_hostKeys (s : State) (t i : Nat) (x : Word) : (s.putC t i x).hostKeys = s.hostKeys := rfl
@[simp] theorem State.putC_sessions (s : State) (t i : Nat) (x : Word) : (s.putC t i x).sessions = s.sessions := rfl
@[simp] theorem State.putC_calls (s : State) (t i : Nat) (x : Word) : (s.putC t i x).calls = s.calls := rfl
@[simp] theorem State.putC_discarded (s : State) (t i : Nat) (x : Word) : (s.putC t i x).discarded = s.discarded := rfl
@[simp] theorem State.putC_inbox (s : State) (t i : Nat) (x : Word) : (s.putC t i x).inbox = s.inbox := rfl
@[simp] theorem State.putC_outbox (s : State) (t i : Nat) (x : Word) : (s.putC t i x).outbox = s.outbox := rfl
@[simp] theorem State.putC_power (s : State) (t i : Nat) (x : Word) : (s.putC t i x).power = s.power := rfl
@[simp] theorem State.putC_links (s : State) (t i : Nat) (x : Word) : (s.putC t i x).links = s.links := rfl
@[simp] theorem State.putC_groups (s : State) (t i : Nat) (x : Word) : (s.putC t i x).groups = s.groups := rfl
@[simp] theorem State.putC_boot (s : State) (t i : Nat) (x : Word) : (s.putC t i x).boot = s.boot := rfl

/-! ### State.putK -/

@[simp] theorem State.putK_queues (s : State) (w : Who) (i : Nat) (x : BitVec 32) : (s.putK w i x).queues = s.queues := rfl
@[simp] theorem State.putK_hbm (s : State) (w : Who) (i : Nat) (x : BitVec 32) : (s.putK w i x).hbm = s.hbm := rfl
@[simp] theorem State.putK_descs (s : State) (w : Who) (i : Nat) (x : BitVec 32) : (s.putK w i x).descs = s.descs := rfl
@[simp] theorem State.putK_descHome (s : State) (w : Who) (i : Nat) (x : BitVec 32) : (s.putK w i x).descHome = s.descHome := rfl
@[simp] theorem State.putK_hbmPoison (s : State) (w : Who) (i : Nat) (x : BitVec 32) : (s.putK w i x).hbmPoison = s.hbmPoison := rfl
@[simp] theorem State.putK_pkg (s : State) (w : Who) (i : Nat) (x : BitVec 32) : (s.putK w i x).pkg = s.pkg := rfl
@[simp] theorem State.putK_flights (s : State) (w : Who) (i : Nat) (x : BitVec 32) : (s.putK w i x).flights = s.flights := rfl
@[simp] theorem State.putK_nextId (s : State) (w : Who) (i : Nat) (x : BitVec 32) : (s.putK w i x).nextId = s.nextId := rfl
@[simp] theorem State.putK_dies (s : State) (w : Who) (i : Nat) (x : BitVec 32) : (s.putK w i x).dies = s.dies := rfl
@[simp] theorem State.putK_nodes (s : State) (w : Who) (i : Nat) (x : BitVec 32) : (s.putK w i x).nodes = s.nodes := rfl
@[simp] theorem State.putK_sources (s : State) (w : Who) (i : Nat) (x : BitVec 32) : (s.putK w i x).sources = s.sources := rfl
@[simp] theorem State.putK_engines (s : State) (w : Who) (i : Nat) (x : BitVec 32) : (s.putK w i x).engines = s.engines := rfl
@[simp] theorem State.putK_via (s : State) (w : Who) (i : Nat) (x : BitVec 32) : (s.putK w i x).via = s.via := rfl
@[simp] theorem State.putK_noted (s : State) (w : Who) (i : Nat) (x : BitVec 32) : (s.putK w i x).noted = s.noted := rfl
@[simp] theorem State.putK_cur (s : State) (w : Who) (i : Nat) (x : BitVec 32) : (s.putK w i x).cur = s.cur := rfl
@[simp] theorem State.putK_due (s : State) (w : Who) (i : Nat) (x : BitVec 32) : (s.putK w i x).due = s.due := rfl
@[simp] theorem State.putK_choices (s : State) (w : Who) (i : Nat) (x : BitVec 32) : (s.putK w i x).choices = s.choices := rfl
@[simp] theorem State.putK_boots (s : State) (w : Who) (i : Nat) (x : BitVec 32) : (s.putK w i x).boots = s.boots := rfl
@[simp] theorem State.putK_passDue (s : State) (w : Who) (i : Nat) (x : BitVec 32) : (s.putK w i x).passDue = s.passDue := rfl
@[simp] theorem State.putK_frames (s : State) (w : Who) (i : Nat) (x : BitVec 32) : (s.putK w i x).frames = s.frames := rfl
@[simp] theorem State.putK_registered (s : State) (w : Who) (i : Nat) (x : BitVec 32) : (s.putK w i x).registered = s.registered := rfl
@[simp] theorem State.putK_handles (s : State) (w : Who) (i : Nat) (x : BitVec 32) : (s.putK w i x).handles = s.handles := rfl
@[simp] theorem State.putK_hostKeys (s : State) (w : Who) (i : Nat) (x : BitVec 32) : (s.putK w i x).hostKeys = s.hostKeys := rfl
@[simp] theorem State.putK_sessions (s : State) (w : Who) (i : Nat) (x : BitVec 32) : (s.putK w i x).sessions = s.sessions := rfl
@[simp] theorem State.putK_calls (s : State) (w : Who) (i : Nat) (x : BitVec 32) : (s.putK w i x).calls = s.calls := rfl
@[simp] theorem State.putK_discarded (s : State) (w : Who) (i : Nat) (x : BitVec 32) : (s.putK w i x).discarded = s.discarded := rfl
@[simp] theorem State.putK_inbox (s : State) (w : Who) (i : Nat) (x : BitVec 32) : (s.putK w i x).inbox = s.inbox := rfl
@[simp] theorem State.putK_outbox (s : State) (w : Who) (i : Nat) (x : BitVec 32) : (s.putK w i x).outbox = s.outbox := rfl
@[simp] theorem State.putK_power (s : State) (w : Who) (i : Nat) (x : BitVec 32) : (s.putK w i x).power = s.power := rfl
@[simp] theorem State.putK_links (s : State) (w : Who) (i : Nat) (x : BitVec 32) : (s.putK w i x).links = s.links := rfl
@[simp] theorem State.putK_groups (s : State) (w : Who) (i : Nat) (x : BitVec 32) : (s.putK w i x).groups = s.groups := rfl
@[simp] theorem State.putK_boot (s : State) (w : Who) (i : Nat) (x : BitVec 32) : (s.putK w i x).boot = s.boot := rfl

/-! ### State.putV -/

@[simp] theorem State.putV_queues (s : State) (w : Who) (i : Nat) (x : VWord) : (s.putV w i x).queues = s.queues := rfl
@[simp] theorem State.putV_hbm (s : State) (w : Who) (i : Nat) (x : VWord) : (s.putV w i x).hbm = s.hbm := rfl
@[simp] theorem State.putV_descs (s : State) (w : Who) (i : Nat) (x : VWord) : (s.putV w i x).descs = s.descs := rfl
@[simp] theorem State.putV_descHome (s : State) (w : Who) (i : Nat) (x : VWord) : (s.putV w i x).descHome = s.descHome := rfl
@[simp] theorem State.putV_hbmPoison (s : State) (w : Who) (i : Nat) (x : VWord) : (s.putV w i x).hbmPoison = s.hbmPoison := rfl
@[simp] theorem State.putV_pkg (s : State) (w : Who) (i : Nat) (x : VWord) : (s.putV w i x).pkg = s.pkg := rfl
@[simp] theorem State.putV_flights (s : State) (w : Who) (i : Nat) (x : VWord) : (s.putV w i x).flights = s.flights := rfl
@[simp] theorem State.putV_nextId (s : State) (w : Who) (i : Nat) (x : VWord) : (s.putV w i x).nextId = s.nextId := rfl
@[simp] theorem State.putV_dies (s : State) (w : Who) (i : Nat) (x : VWord) : (s.putV w i x).dies = s.dies := rfl
@[simp] theorem State.putV_nodes (s : State) (w : Who) (i : Nat) (x : VWord) : (s.putV w i x).nodes = s.nodes := rfl
@[simp] theorem State.putV_sources (s : State) (w : Who) (i : Nat) (x : VWord) : (s.putV w i x).sources = s.sources := rfl
@[simp] theorem State.putV_engines (s : State) (w : Who) (i : Nat) (x : VWord) : (s.putV w i x).engines = s.engines := rfl
@[simp] theorem State.putV_via (s : State) (w : Who) (i : Nat) (x : VWord) : (s.putV w i x).via = s.via := rfl
@[simp] theorem State.putV_noted (s : State) (w : Who) (i : Nat) (x : VWord) : (s.putV w i x).noted = s.noted := rfl
@[simp] theorem State.putV_cur (s : State) (w : Who) (i : Nat) (x : VWord) : (s.putV w i x).cur = s.cur := rfl
@[simp] theorem State.putV_due (s : State) (w : Who) (i : Nat) (x : VWord) : (s.putV w i x).due = s.due := rfl
@[simp] theorem State.putV_choices (s : State) (w : Who) (i : Nat) (x : VWord) : (s.putV w i x).choices = s.choices := rfl
@[simp] theorem State.putV_boots (s : State) (w : Who) (i : Nat) (x : VWord) : (s.putV w i x).boots = s.boots := rfl
@[simp] theorem State.putV_passDue (s : State) (w : Who) (i : Nat) (x : VWord) : (s.putV w i x).passDue = s.passDue := rfl
@[simp] theorem State.putV_frames (s : State) (w : Who) (i : Nat) (x : VWord) : (s.putV w i x).frames = s.frames := rfl
@[simp] theorem State.putV_registered (s : State) (w : Who) (i : Nat) (x : VWord) : (s.putV w i x).registered = s.registered := rfl
@[simp] theorem State.putV_handles (s : State) (w : Who) (i : Nat) (x : VWord) : (s.putV w i x).handles = s.handles := rfl
@[simp] theorem State.putV_hostKeys (s : State) (w : Who) (i : Nat) (x : VWord) : (s.putV w i x).hostKeys = s.hostKeys := rfl
@[simp] theorem State.putV_sessions (s : State) (w : Who) (i : Nat) (x : VWord) : (s.putV w i x).sessions = s.sessions := rfl
@[simp] theorem State.putV_calls (s : State) (w : Who) (i : Nat) (x : VWord) : (s.putV w i x).calls = s.calls := rfl
@[simp] theorem State.putV_discarded (s : State) (w : Who) (i : Nat) (x : VWord) : (s.putV w i x).discarded = s.discarded := rfl
@[simp] theorem State.putV_inbox (s : State) (w : Who) (i : Nat) (x : VWord) : (s.putV w i x).inbox = s.inbox := rfl
@[simp] theorem State.putV_outbox (s : State) (w : Who) (i : Nat) (x : VWord) : (s.putV w i x).outbox = s.outbox := rfl
@[simp] theorem State.putV_power (s : State) (w : Who) (i : Nat) (x : VWord) : (s.putV w i x).power = s.power := rfl
@[simp] theorem State.putV_links (s : State) (w : Who) (i : Nat) (x : VWord) : (s.putV w i x).links = s.links := rfl
@[simp] theorem State.putV_groups (s : State) (w : Who) (i : Nat) (x : VWord) : (s.putV w i x).groups = s.groups := rfl
@[simp] theorem State.putV_boot (s : State) (w : Who) (i : Nat) (x : VWord) : (s.putV w i x).boot = s.boot := rfl

/-! ### Reads after updates -/

@[simp] theorem State.tile_setTile_self (s : State) (t : Nat) (x : Tile) : (s.setTile t x).tile t = x :=
  FMap.get_set_self _ _ _ _

theorem State.tile_setTile_ne (s : State) {t u : Nat} (x : Tile) (h : u ≠ t) : (s.setTile t x).tile u = s.tile u :=
  FMap.get_set_ne _ _ _ h

@[simp] theorem State.tile_modTile_self (s : State) (t : Nat) (f : Tile → Tile) : (s.modTile t f).tile t = f (s.tile t) :=
  State.tile_setTile_self _ _ _

theorem State.tile_modTile_ne (s : State) {t u : Nat} (f : Tile → Tile) (h : u ≠ t) : (s.modTile t f).tile u = s.tile u :=
  State.tile_setTile_ne _ _ h

@[simp] theorem State.tile_setStrand_self (s : State) (w : Who) (x : Strand) :
    (s.setStrand w x).tile w.tile = { s.tile w.tile with strands := FMap.set (s.tile w.tile).strands w.strand x } :=
  State.tile_modTile_self _ _ _

@[simp] theorem State.strand_setStrand_self (s : State) (w : Who) (x : Strand) : (s.setStrand w x).strand w = x := by
  simp [State.strand]

@[simp] theorem State.strand_modStrand_self (s : State) (w : Who) (f : Strand → Strand) :
    (s.modStrand w f).strand w = f (s.strand w) := State.strand_setStrand_self _ _ _

theorem State.strand_setStrand_ne (s : State) {w v : Who} (x : Strand) (h : v ≠ w) :
    (s.setStrand w x).strand v = s.strand v := by
  unfold State.strand
  by_cases ht : v.tile = w.tile
  · have hs : v.strand ≠ w.strand := fun e => h (by cases v; cases w; simp_all)
    rw [ht, State.tile_setStrand_self]
    exact FMap.get_set_ne _ _ _ hs
  · rw [State.setStrand, State.tile_modTile_ne _ _ ht]

theorem State.strand_modStrand_ne (s : State) {w v : Who} (f : Strand → Strand) (h : v ≠ w) :
    (s.modStrand w f).strand v = s.strand v := State.strand_setStrand_ne _ _ h

@[simp] theorem State.die_modDie_self (s : State) (d : Nat) (f : Die → Die) : (s.modDie d f).die d = f (s.die d) :=
  FMap.get_set_self _ _ _ _

theorem State.die_modDie_ne (s : State) {d e : Nat} (f : Die → Die) (h : e ≠ d) : (s.modDie d f).die e = s.die e :=
  FMap.get_set_ne _ _ _ h

@[simp] theorem State.tile_modDie (s : State) (d : Nat) (f : Die → Die) (t : Nat) : (s.modDie d f).tile t = s.tile t := rfl
@[simp] theorem State.strand_modDie (s : State) (d : Nat) (f : Die → Die) (w : Who) : (s.modDie d f).strand w = s.strand w := rfl
@[simp] theorem State.tile_send (s : State) (w : Who) (lo : Nat) (hi : Option Nat) (k : Kind) (l : List RegRef) (t : Nat) :
    (s.send w lo hi k l).tile t = s.tile t := rfl
@[simp] theorem State.strand_send (s : State) (w : Who) (lo : Nat) (hi : Option Nat) (k : Kind) (l : List RegRef) (v : Who) :
    (s.send w lo hi k l).strand v = s.strand v := rfl
@[simp] theorem State.die_modTile (s : State) (t : Nat) (f : Tile → Tile) (d : Nat) : (s.modTile t f).die d = s.die d := rfl
@[simp] theorem State.die_modStrand (s : State) (w : Who) (f : Strand → Strand) (d : Nat) : (s.modStrand w f).die d = s.die d := rfl
@[simp] theorem State.now_modTile (s : State) (t : Nat) (f : Tile → Tile) (u : Nat) : (s.modTile t f).now u = s.now u := rfl
@[simp] theorem State.now_modStrand (s : State) (w : Who) (f : Strand → Strand) (u : Nat) : (s.modStrand w f).now u = s.now u := rfl

/-! ### Registers (R36, R37) -/

@[simp] theorem Strand.readG_zero (x : Strand) : x.readG 0 = { val := 0 } := rfl
@[simp] theorem Strand.readK_zero (x : Strand) : x.readK 0 = { val := 0xFFFFFFFF } := rfl
@[simp] theorem Strand.writeG_zero (x : Strand) (r : SReg) : x.writeG 0 r = x := rfl
@[simp] theorem Strand.writeK_zero (x : Strand) (r : KReg) : x.writeK 0 r = x := rfl

theorem Strand.readG_writeG_self (x : Strand) {i : Nat} (r : SReg) (h : i ≠ 0) : (x.writeG i r).readG i = r := by
  simp [Strand.readG, Strand.writeG, h]

theorem Strand.readG_writeG_ne (x : Strand) {i j : Nat} (r : SReg) (h : j ≠ i) : (x.writeG i r).readG j = x.readG j := by
  by_cases hi : i = 0
  · simp [Strand.writeG, hi]
  · simp [Strand.readG, Strand.writeG, hi, FMap.get_put_ne _ _ _ h]

theorem Strand.readK_writeK_self (x : Strand) {i : Nat} (r : KReg) (h : i ≠ 0) : (x.writeK i r).readK i = r := by
  simp [Strand.readK, Strand.writeK, h]

theorem Strand.readK_writeK_ne (x : Strand) {i j : Nat} (r : KReg) (h : j ≠ i) : (x.writeK i r).readK j = x.readK j := by
  by_cases hi : i = 0
  · simp [Strand.writeK, hi]
  · simp [Strand.readK, Strand.writeK, hi, FMap.get_put_ne _ _ _ h]

@[simp] theorem Strand.readV_writeV_self (x : Strand) (i : Nat) (r : VReg) : (x.writeV i r).readV i = r :=
  FMap.get_put_self _ _ _ _

theorem Strand.readV_writeV_ne (x : Strand) {i j : Nat} (r : VReg) (h : j ≠ i) : (x.writeV i r).readV j = x.readV j :=
  FMap.get_put_ne _ _ _ h

@[simp] theorem Strand.readP_writeP_self (x : Strand) (i : Nat) (r : Ptr) : (x.writeP i r).readP i = r :=
  FMap.get_put_self _ _ _ _

theorem Strand.readP_writeP_ne (x : Strand) {i j : Nat} (r : Ptr) (h : j ≠ i) : (x.writeP i r).readP j = x.readP j :=
  FMap.get_put_ne _ _ _ h

@[simp] theorem State.strand_putG_self (s : State) (w : Who) (i : Nat) (x : Word) :
    (s.putG w i x).strand w = (s.strand w).writeG i { val := x } := State.strand_modStrand_self _ _ _

theorem State.strand_putG_ne (s : State) {w v : Who} (i : Nat) (x : Word) (h : v ≠ w) : (s.putG w i x).strand v = s.strand v :=
  State.strand_modStrand_ne _ _ h

@[simp] theorem State.strand_putK_self (s : State) (w : Who) (i : Nat) (x : BitVec 32) :
    (s.putK w i x).strand w = (s.strand w).writeK i { val := x } := State.strand_modStrand_self _ _ _

@[simp] theorem State.strand_putV_self (s : State) (w : Who) (i : Nat) (x : VWord) :
    (s.putV w i x).strand w = (s.strand w).writeV i { val := x } := State.strand_modStrand_self _ _ _

end Sys2Proof.Machine
end

