-- ==== Sys2Proof/Laws/Issue.lean ====
section
/-!
SUPPORT. What the issue of a bundle of one half does on a strand that is fused in no gang: it commits, or it raises, or it
parks.
-/
namespace Sys2Proof.Machine

theorem members_alone (s : State) (w : Who) (h : (s.strand w).fused = false) : s.members w = [w] := by
  simp [State.members, h]

theorem firstCause_none (l : List (Option Cause)) : firstCause l = none ↔ ∀ c ∈ l, c = none := by
  induction l with
  | nil => simp [firstCause]
  | cons x l ih => cases x <;> simp [firstCause, ih]

@[simp] theorem gangHeld_alone (s : State) (w : Who) : s.gangHeld [w] = (s.tile w.tile).frozen := rfl

@[simp] theorem views_one (h : Half) (s : State) (w : Who) : views [h] s w = [(h, s)] := rfl

@[simp] theorem firstStep_one (h : Half) (s : State) (w : Who) : firstStep [h] s w = [h.twice s, h.step1 s w] := rfl

/-- A bundle of one half that passes commits its effect; one that is masked off only goes on. -/
theorem run1_commits (h : Half) (s : State) (ha : s.Alone) (hp : h.Passes s) :
    run1 h s = .next (commit s
      (if h.idle s s.cur.who then s.advance s.cur.who [h] else h.effect s (s.advance s.cur.who [h]) s.cur.who) [s.cur.who] [h]) := by
  obtain ⟨hf, hz⟩ := ha
  obtain ⟨hb, h1, h2, h3, h4, h5⟩ := hp
  unfold run1 issue
  rw [members_alone s _ hf]
  cases hi : h.idle s s.cur.who
  · obtain ⟨h6, h7⟩ := h5 hi
    simp only [State.BanksOpen] at h6
    simp [hz, causesOf, Half.twice, hb, h1, h2, h3, h4, firstCause, parts, unitsOf, attempt, hi, h7, List.mem_dedup]
    intro u hu hc
    simpa [hc] using h6 u hu
  · simp [hz, causesOf, Half.twice, hb, h1, h2, h3, h4, firstCause, parts, unitsOf, attempt, hi]

/-- A commit without accesses changes nothing but the streams. -/
theorem commit_plain (pre cur : State) (w : Who) (h : Half) (hu : h.units pre w = []) (hc : h.accs pre w = []) :
    commit pre cur [w] [h] = cur.settleStreams w := by
  have hw : State.watch pre cur [h] w = cur := by
    unfold State.watch
    have ha : accsOf [h] pre w = [] := by cases hi : h.idle pre w <;> simp [accsOf, hi, hc]
    split
    · rfl
    · simp [ha, Tile.strikesOf, groupAccs]
  have hk : unitsOf [h] pre w = [] := by
    cases hi : h.idle pre w <;> simp [unitsOf, hi, hu]
  simp [commit, hw, hk, conflict, inBank]

/-- The accesses of a list hold none but its bytes. -/
theorem mem_groupAccs (l : List Acc) : ∀ g ∈ groupAccs l, ∀ a ∈ g, a ∈ l := by
  induction l with
  | nil => simp [groupAccs]
  | cons x l ih =>
    intro g hg a ha
    unfold groupAccs at hg
    split at hg
    · next b g' l' he =>
      rw [he] at ih
      split at hg
      · rcases List.mem_cons.1 hg with rfl | hg
        · rcases List.mem_cons.1 ha with rfl | ha
          · simp
          · exact List.mem_cons_of_mem _ (ih _ (by simp) a ha)
        · exact List.mem_cons_of_mem _ (ih g (by simp [hg]) a ha)
      · rcases List.mem_cons.1 hg with rfl | hg
        · simp_all
        · exact List.mem_cons_of_mem _ (ih g hg a ha)
    · rcases List.mem_cons.1 hg with rfl | hg
      · simp_all
      · exact List.mem_cons_of_mem _ (ih g hg a ha)

/-- Accesses that strike nothing leave no strike. -/
theorem strikesOf_none (t : Tile) (l : List Acc) (h : ∀ a ∈ l, t.strikes a = none) : t.strikesOf l = [] := by
  simp only [Tile.strikesOf, List.filterMap_eq_nil_iff]
  intro g hg
  simp only [Tile.strikeOf, Tile.hitOf, List.findSome?_eq_none_iff, Option.map_eq_none_iff]
  intro n hn a ha
  have := h a (mem_groupAccs l g hg a ha)
  simp only [Tile.strikes, List.findSome?_eq_none_iff, Option.map_eq_none_iff] at this
  exact this n hn

@[simp] theorem charged_nil (pre cur : State) : pre.charged cur [] = cur := rfl

/-- A commit whose accesses no watchpoint sees settles the streams and charges the banks. -/
theorem commit_charged (pre cur : State) (h : Half) (hi : h.idle pre pre.cur.who = false)
    (hw : pre.Unwatched (h.accs pre pre.cur.who)) :
    commit pre cur [pre.cur.who] [h] = pre.charged (cur.settleStreams pre.cur.who) (h.units pre pre.cur.who) := by
  have hw : State.watch pre cur [h] pre.cur.who = cur := by
    have ha : accsOf [h] pre pre.cur.who = h.accs pre pre.cur.who := by simp [accsOf, hi]
    unfold State.watch
    split
    · rfl
    · rw [ha, strikesOf_none _ _ hw]
  have hu : unitsOf [h] pre pre.cur.who = (h.units pre pre.cur.who).dedup := by simp [unitsOf, hi]
  unfold commit State.charged
  simp only [List.foldl_cons, List.foldl_nil, hw, List.map_cons, List.map_nil, hu, Nat.zero_max]

theorem advance_past (s : State) (h : Half) (hd : h.draws s s.cur.who = 0) : s.advance s.cur.who [h] = s.past := by
  simp [State.advance, State.past, hd, drawState]

end Sys2Proof.Machine
end

