-- ==== Sys2Proof/Laws/Ready.lean ====
section
/-!
SUPPORT. Checks that compute, for the hypotheses of the statements: operands ready, nothing in the way (R16, R17, R39, R163).
-/
namespace Sys2Proof.Claims
open Sys2Proof.Machine

/-- Readable, computed. -/
def readableB (s : State) (l : List Src) : Bool :=
  l.all (fun r => !(s.strand s.cur.who).lacks r.loc && decide (s.locFill s.cur.who r.loc = .full) && !s.locBad s.cur.who r.loc &&
    (match r.loc with | .v i => (FMap.find (s.strand s.cur.who).streams i).isNone | _ => true)) &&
    (findSrc (Src.shortAt s s.cur.who) [] l).isNone

theorem readable_of {s : State} {l : List Src} (h : readableB s l = true) : s.Readable l := by
  rw [readableB, Bool.and_eq_true, Option.isNone_iff_eq_none] at h
  refine ⟨fun r hr => ?_, h.2⟩
  have := List.all_eq_true.1 h.1 r hr
  simp only [Bool.and_eq_true, Bool.not_eq_true', decide_eq_true_eq] at this
  obtain ⟨⟨⟨h1, h2⟩, h3⟩, h5⟩ := this
  refine ⟨h1, h2, h3, ?_⟩
  intro i hi
  rw [hi] at h5
  simpa using h5

/-- Writable, computed. -/
def writableB (s : State) (l : List Loc) : Bool :=
  l.all (fun d => !(s.strand s.cur.who).lacks d &&
    (match d.ref s.cur.who with | some r => decide (s.regFill r ≠ .pending) | none => true) &&
    (match d with | .v i => (FMap.find (s.strand s.cur.who).streams i).isNone | _ => true) && !(d.isM && s.locBad s.cur.who d))

theorem writable_of {s : State} {l : List Loc} (h : writableB s l = true) : s.Writable l := by
  intro d hd
  have := List.all_eq_true.1 h d hd
  simp only [Bool.and_eq_true, Bool.not_eq_true'] at this
  obtain ⟨⟨⟨h1, h2⟩, h3⟩, h4⟩ := this
  refine ⟨h1, ?_, ?_, fun hd => by simpa [hd] using h4⟩
  · intro r hr
    rw [hr] at h2
    simpa using h2
  · intro i hi
    rw [hi] at h3
    simpa using h3

/-- Moves, computed. -/
def movesB (s : State) (srcs : List Src) (d : Loc) (n : Nat) : Bool :=
  decide (s.srcsFault s.cur.who srcs = none) && decide (s.dstFault s.cur.who d = none) && !s.dstPrivileged s.cur.who d &&
    decide (ioWait s.past s.cur.who srcs d n = none) && (!(d.isQ || srcs.any (fun r => r.loc.isQ)) || !s.acquiring s.cur.who)

theorem moves_of {s : State} {srcs : List Src} {d : Loc} {n : Nat} (h : movesB s srcs d n = true) : s.Moves srcs d n := by
  simp only [movesB, Bool.and_eq_true, Bool.not_eq_true', decide_eq_true_eq] at h
  obtain ⟨⟨⟨⟨h1, h2⟩, h3⟩, h4⟩, h5⟩ := h
  refine ⟨h1, h2, h3, h4, fun hq => ?_⟩
  simpa [hq] using h5

/-- The mask, computed. -/
def onB (r : Act) (s : State) : Bool :=
  let k := (s.strand s.cur.who).readK r.mask
  decide (k.st = .full) && !k.bad && (if r.vec then decide (k.val ≠ 0) else bitAt k.val 0)

theorem on_of {r : Act} {s : State} (h : onB r s = true) : r.On s := by
  simp only [onB, Bool.and_eq_true, decide_eq_true_eq, Bool.not_eq_true'] at h
  unfold Act.On
  split
  · next hv => rw [hv] at h; exact ⟨h.1, by simpa using h.2⟩
  · next hv =>
    have hv' : r.vec = false := by simpa using hv
    rw [hv'] at h
    exact ⟨h.1, h.2⟩

/-- Clear, computed. -/
def clearB (r : Act) (s : State) : Bool :=
  (!r.memory || (!s.acquiring s.cur.who && !s.ownPending s.cur.who ((if r.units s = [] then [] else r.accs s) ++ r.touch s))) &&
    decide (s.pathHold s.cur.who (r.accs s ++ r.touch s) = none) &&
    (r.units s).all (fun u => !(s.tile s.cur.who.tile).bankTaken.contains (bankOf (64 * u))) &&
    (r.accs s).all (fun a => decide ((s.tile s.cur.who.tile).strikes a = none))

theorem clear_of {r : Act} {s : State} (h : clearB r s = true) : r.Clear s := by
  simp only [clearB, Bool.and_eq_true, Bool.or_eq_true, Bool.not_eq_true', decide_eq_true_eq, List.all_eq_true] at h
  obtain ⟨⟨⟨h1, h3⟩, h4⟩, h5⟩ := h
  refine ⟨fun hm => h1.resolve_left (by simp [hm]), h3, fun u hu => h4 u hu, fun a ha => h5 a ha⟩

/-- All that Due asks for but the act's own conditions, computed. -/
def dueB (r : Act) (s : State) : Bool := onB r s && readableB s r.srcs && writableB s r.dests && clearB r s

theorem due_of {r : Act} {s : State} (h : dueB r s = true) (hr : r.ready s) : r.Due s := by
  simp only [dueB, Bool.and_eq_true] at h
  exact ⟨on_of h.1.1.1, readable_of h.1.1.2, writable_of h.1.2, clear_of h.2, hr⟩

/-- Lone, computed. -/
def loneB (s : State) : Bool :=
  !(s.strand s.cur.who).fused && !(s.tile s.cur.who.tile).frozen && !(s.strand s.cur.who).matched

theorem lone_of {s : State} (h : loneB s = true) : s.Lone := by
  simp only [loneB, Bool.and_eq_true, Bool.not_eq_true'] at h
  exact ⟨h.1, h.2⟩

/-- Examined, computed. -/
def examinedB (r : Act) (s : State) : Bool :=
  onB r s && readableB s r.srcs && r.dests.all (fun d => !(s.strand s.cur.who).lacks d && !s.dstPrivileged s.cur.who d &&
    !(d.isM && s.locBad s.cur.who d))

theorem examined_of {r : Act} {s : State} (h : examinedB r s = true) : r.Examined s := by
  simp only [examinedB, Bool.and_eq_true, List.all_eq_true, Bool.not_eq_true'] at h
  exact ⟨on_of h.1.1, readable_of h.1.2, fun d hd => ⟨(h.2 d hd).1.1, (h.2 d hd).1.2, fun hm => by simpa [hm] using (h.2 d hd).2⟩⟩

/-- An instruction, a state, the code and the word of the cause that it raises there. -/
structure Case where
  i : Instr
  s : State
  code : TrapCode
  info : Nat

/-- All that Raises asks for, and the cause. -/
def Raising (table : Instr → Option Act) (cause : Instr → State → Option Cause) (e : Case) : Prop :=
  ∃ r c, table e.i = some r ∧ e.i.wf = true ∧ e.s.Lone ∧ r.Examined e.s ∧ cause e.i e.s = some c ∧ c.code = e.code ∧
    c.info = BitVec.ofNat 64 e.info

/-- Raising, computed. -/
def raisingB (table : Instr → Option Act) (cause : Instr → State → Option Cause) (e : Case) : Bool :=
  match table e.i, cause e.i e.s with
  | some r, some c => e.i.wf && loneB e.s && examinedB r e.s && decide (c.code = e.code) && decide (c.info = BitVec.ofNat 64 e.info)
  | _, _ => false

theorem raising_of {table : Instr → Option Act} {cause : Instr → State → Option Cause} {l : List Case}
    (h : l.all (raisingB table cause) = true) : ∀ e ∈ l, Raising table cause e := by
  intro e he
  have h := List.all_eq_true.1 h e he
  unfold raisingB at h
  split at h
  · next r c hr hc =>
    simp only [Bool.and_eq_true, decide_eq_true_eq] at h
    exact ⟨r, c, hr, h.1.1.1.1, lone_of h.1.1.1.2, examined_of h.1.1.2, hc, h.1.2, h.2⟩
  · cases h

/-- All that Parks asks for. -/
def Parking (table : Instr → Option Act) (cause : Instr → State → Option Cause) (wait : Instr → State → State → Nat → Nat → Nat → Prop)
    (i : Instr) (s : State) (kind index : Nat) : Prop :=
  ∃ r u file, table i = some r ∧ i.wf = true ∧ s.Alone ∧ r.Examined s ∧ s.Writable r.dests ∧ r.Clear s ∧
    (s.strand s.cur.who).waitLimit = 0 ∧ cause i s = none ∧ wait i s u kind file index

/-- What Parks asks for beside the wait, computed. -/
def parkingB (cause : Instr → State → Option Cause) (r : Act) (i : Instr) (s : State) : Bool :=
  i.wf && loneB s && examinedB r s && writableB s r.dests && clearB r s && decide ((s.strand s.cur.who).waitLimit = 0) && (cause i s).isNone

theorem parking_of {table : Instr → Option Act} {cause : Instr → State → Option Cause}
    {wait : Instr → State → State → Nat → Nat → Nat → Prop} {i : Instr} {s u : State} {r : Act} {kind file index : Nat} (hr : table i = some r)
    (h : parkingB cause r i s = true) (hw : wait i s u kind file index) : Parking table cause wait i s kind index := by
  simp only [parkingB, Bool.and_eq_true, decide_eq_true_eq, Option.isNone_iff_eq_none] at h
  obtain ⟨⟨⟨⟨⟨⟨h1, h2⟩, h3⟩, h4⟩, h5⟩, h6⟩, h7⟩ := h
  exact ⟨r, u, file, hr, h1, (lone_of h2).1, examined_of h3, writable_of h4, clear_of h5, h6, h7, hw⟩

end Sys2Proof.Claims
end

