-- ==== Sys2Proof/Laws/Short.lean ====
section
/-!
SUPPORT. When a SHORT or LONG scalar instruction completes, and with what (R14, R69).
-/
namespace Sys2Proof.Machine

theorem full_of_readable (s : State) (l e : List Src) (hr : s.Readable l) (r : Src) (hm : r ∈ l) :
    r.full e s s.cur.who = true := by
  obtain ⟨-, h2, -, h5⟩ := hr.1 r hm
  unfold Src.full
  split
  · next i hi => rw [h5 i hi]; simpa [hi] using h2
  · simpa using h2

/-- Two tests that agree on the sources of a list find the same one. -/
theorem findSrc_congr (p q : List Src → Src → Bool) (l : List Src) :
    ∀ e, (∀ e, ∀ r ∈ l, p e r = q e r) → findSrc p e l = findSrc q e l := by
  induction l with
  | nil => intro _ _; rfl
  | cons r l ih => intro e h; simp [findSrc, h e r (by simp), ih (e ++ [r]) (fun e x hx => h e x (by simp [hx]))]

/-- A test that no source of a list meets finds none. -/
theorem findSrc_none (p : List Src → Src → Bool) (l e : List Src) (h : ∀ e, ∀ r ∈ l, p e r = false) : findSrc p e l = none := by
  induction l generalizing e with
  | nil => rfl
  | cons r l ih => simp [findSrc, h e r (by simp), ih (e ++ [r]) (fun e x hx => h e x (by simp [hx]))]

theorem emptySource_none (h : Half) (s : State) (hr : s.Readable h.srcs) : h.emptySource [] s s.cur.who = none := by
  unfold Half.emptySource
  split
  · rfl
  · rw [Option.map_eq_none_iff, findSrc_congr _ (Src.shortAt s s.cur.who) h.srcs [] (fun e r hm => ?_)]
    · exact hr.2
    · simp [full_of_readable s h.srcs e hr r hm]

theorem sourceWait_none (h : Half) (s : State) (hk : ((s.strand s.cur.who).readK h.mask).st = .full) (hr : s.Readable h.srcs) :
    h.sourceWait s s.cur.who = none := by
  unfold Half.sourceWait
  simp only [hk, ne_eq, not_true_eq_false, if_false]
  split
  · rfl
  · rw [Option.map_eq_none_iff]
    exact findSrc_none _ _ _ (fun e r hm => by simp [full_of_readable s h.srcs e hr r hm])

theorem denied_none (h : Half) (s : State) (hr : s.Readable h.srcs) (hw : s.Writable h.dests) (hn : h.names s s.cur.who = none) :
    h.denied s s.cur.who = none := by
  unfold Half.denied
  have h1 : h.srcs.find? (fun r => (s.strand s.cur.who).lacks r.loc) = none := by
    simp only [List.find?_eq_none]; intro r hm; simp [(hr.1 r hm).1]
  have h2 : h.dests.find? (fun l => (s.strand s.cur.who).lacks l) = none := by
    simp only [List.find?_eq_none]; intro l hm; simp [(hw l hm).1]
  simp [h1, h2, hn]

theorem parity_none (h : Half) (s : State) (hr : s.Readable h.srcs) (hw : s.Writable h.dests)
    (hx : ∀ l ∈ h.readsToo, s.locBad s.cur.who l = false) : h.parity s s.cur.who = none := by
  unfold Half.parity Half.reads
  simp only [Option.map_eq_none_iff, List.find?_eq_none, List.mem_append, List.mem_map, List.mem_filter]
  rintro l ((⟨r, hm, rfl⟩ | ⟨hm, hl⟩) | hm)
  · simp [(hr.1 r hm).2.2.1]
  · simp [(hw l hm).2.2.2 hl]
  · simp [hx l hm]

theorem maskParity_none (h : Half) (s : State) (hk : s.MaskReady h.mask) : h.maskParity s s.cur.who = none := by
  simp [Half.maskParity, State.locBad, hk.2]

theorem streamWrite_none (h : Half) (s : State) (hw : s.Writable h.dests) : h.streamWrite s s.cur.who = none := by
  unfold Half.streamWrite
  split
  · rfl
  · simp only [List.findSome?_eq_none_iff]
    intro l hm
    cases l <;> try rfl
    next i => simp [(hw _ hm).2.2.1 i rfl]

theorem pendingWait_none (h : Half) (s : State) (hw : s.Writable h.dests) : h.pendingWait s s.cur.who = none := by
  unfold Half.pendingWait
  split
  · rfl
  · simp only [Option.map_eq_none_iff, List.find?_eq_none]
    intro l hm
    have := (hw l hm).2.1
    cases hl : l.ref s.cur.who with
    | none => simp
    | some r => simp [this r hl]

/-- A half whose operands are ready passes, if its own checks do. -/
theorem passes_of_ready (h : Half) (s : State) (hb : hasRepeat h.bumps = false)
    (hk : s.MaskReady h.mask) (hr : s.Readable h.srcs) (hw : s.Writable h.dests)
    (hx : ∀ l ∈ h.readsToo, s.locBad s.cur.who l = false) (hi : h.illegal s s.cur.who = false) (hp : h.privileged s s.cur.who = false) (hn : h.names s s.cur.who = none)
    (ht : h.traps s s.cur.who = none) (hu : s.BanksOpen (h.units s s.cur.who))
    (hm : h.memory = true → s.acquiring s.cur.who = false ∧
      s.ownPending s.cur.who ((if (h.units s s.cur.who).isEmpty then [] else h.accs s s.cur.who) ++ h.touch s s.cur.who) = false)
    (hh : s.pathHold s.cur.who (h.accs s s.cur.who ++ h.touch s s.cur.who) = none)
    (hq : h.waits s (s.advance s.cur.who [h]) s.cur.who = none) : h.Passes s := by
  refine ⟨hb, ?_, emptySource_none h s hr, sourceWait_none h s hk.1 hr, ?_, fun _ => ⟨hu, ?_⟩⟩
  · simp [Half.step1, hi, hp, denied_none h s hr hw hn]
  · unfold Half.own
    simp only [maskParity_none h s hk]
    split
    · rfl
    · simp [firstCause, parity_none h s hr hw hx, ht, streamWrite_none h s hw]
  · unfold Half.waitAt
    rw [pendingWait_none h s hw]
    cases hmem : h.memory
    · simp [hh, hq]
    · obtain ⟨h1, h2⟩ := hm hmem
      rw [h1, h2, hh]
      simpa using hq

@[simp] theorem ownPending_nil (s : State) (w : Who) : s.ownPending w [] = false := by
  simp only [State.ownPending, List.any_nil, List.any_eq_false, Bool.and_eq_true, not_and]
  intro f _ _
  split <;> simp

@[simp] theorem pathHold_nil (s : State) (w : Who) : s.pathHold w [] = none := rfl

theorem idle_of_maskOn (h : Half) (s : State) (hv : h.vec = false) (hm : s.MaskOn h.mask) : h.idle s s.cur.who = false := by
  simp [Half.idle, hv, hm.2]

/-- A SHORT scalar instruction whose operands are ready writes its result. -/
theorem short_completes (k : BitVec 3) (srcs : List Src) (d : Loc) (f : State → Who → List Word → Word) (s : State)
    (hb : hasRepeat (shortHalf k srcs d f).bumps = false) (ha : s.Alone) (hm : s.MaskOn k.toNat) (hr : s.ScalarReady srcs d 1) :
    run1 (shortHalf k srcs d f) s = .next
      (((takeScalars s s.past s.cur.who srcs).2.putScalar s.cur.who d
        (f s s.cur.who (takeScalars s s.past s.cur.who srcs).1)).settleStreams s.cur.who) := by
  obtain ⟨h1, h2, h3, h4, h5, h6, h7⟩ := hr
  have had := advance_past s (shortHalf k srcs d f) rfl
  have hp : (shortHalf k srcs d f).Passes s := by
    refine passes_of_ready _ s hb hm.1 h1 h2 (by intro l hl; simp [shortHalf] at hl) rfl h5 rfl ?_ ?_ ?_ rfl ?_
    · simp [shortHalf, firstCause, h3, h4]
    · intro u hu; simp [shortHalf] at hu
    · intro hmem; exact ⟨h7 hmem, ownPending_nil s _⟩
    · rw [had]; exact h6
  rw [run1_commits _ _ ha hp, commit_plain _ _ _ _ rfl rfl, idle_of_maskOn _ _ rfl hm, had]
  rfl

/-- A LONG scalar instruction whose operands are ready owes its result to its destination. -/
theorem long_completes (k : BitVec 3) (srcs : List Src) (d : Loc) (lo hi : Nat) (f : State → Who → List Word → Word) (s : State)
    (hb : hasRepeat (longHalf k srcs d lo hi f).bumps = false) (ha : s.Alone) (hm : s.MaskOn k.toNat) (h1 : s.Readable srcs)
    (h2 : s.Writable [d]) (h3 : s.srcsFault s.cur.who srcs = none) (h6 : ioWait s.past s.cur.who srcs .none 1 = none)
    (h7 : (srcs.any (fun r => r.loc.isQ)) = true → s.acquiring s.cur.who = false) :
    run1 (longHalf k srcs d lo hi f) s = .next
      (((takeScalars s s.past s.cur.who srcs).2.sendLong s.cur.who lo (some hi)
        (.long [.s (f s s.cur.who (takeScalars s s.past s.cur.who srcs).1)]) (d.ref s.cur.who).toList).settleStreams s.cur.who) := by
  have had := advance_past s (longHalf k srcs d lo hi f) rfl
  have hp : (longHalf k srcs d lo hi f).Passes s := by
    refine passes_of_ready _ s hb hm.1 h1 h2 (by intro l hl; simp [longHalf] at hl) rfl rfl rfl h3 ?_ ?_ rfl ?_
    · intro u hu; simp [longHalf] at hu
    · intro hmem; exact ⟨h7 hmem, ownPending_nil s _⟩
    · rw [had]; exact h6
  rw [run1_commits _ _ ha hp, commit_plain _ _ _ _ rfl rfl, idle_of_maskOn _ _ rfl hm, had]
  rfl

/-- A half that draws nothing, and whose operands, accesses and own conditions are ready, completes: its effect, then the streams,
then the charge for its accesses. -/
theorem half_completes (h : Half) (s : State) (ha : s.Alone) (hi : h.idle s s.cur.who = false)
    (hk : s.MaskReady h.mask) (hr : s.Readable h.srcs) (hw : s.Writable h.dests)
    (hz : ∀ l ∈ h.readsToo, s.locBad s.cur.who l = false) (hb : hasRepeat h.bumps = false) (h1 : h.illegal s s.cur.who = false) (h2 : h.privileged s s.cur.who = false)
    (h3 : h.names s s.cur.who = none) (h4 : h.traps s s.cur.who = none) (hu : s.BanksOpen (h.units s s.cur.who))
    (hm : h.memory = true → s.acquiring s.cur.who = false ∧
      s.ownPending s.cur.who ((if (h.units s s.cur.who).isEmpty then [] else h.accs s s.cur.who) ++ h.touch s s.cur.who) = false)
    (hp : s.pathHold s.cur.who (h.accs s s.cur.who ++ h.touch s s.cur.who) = none) (hx : s.Unwatched (h.accs s s.cur.who))
    (h5 : h.waits s s.past s.cur.who = none) (hd : h.draws s s.cur.who = 0) :
    run1 h s = .next (s.charged ((h.effect s s.past s.cur.who).settleStreams s.cur.who) (h.units s s.cur.who)) := by
  have had := advance_past s h hd
  have pas : h.Passes s := passes_of_ready h s hb hk hr hw hz h1 h2 h3 h4 hu hm hp (by rw [had]; exact h5)
  rw [run1_commits h s ha pas, hi, had, commit_charged _ _ _ hi hx]
  rfl

end Sys2Proof.Machine
end

