-- ==== Sys2Proof/Tests/Slice0.lean ====
section
/-!
SUPPORT. Tests: for every statement states and operands that meet its hypotheses, clause by clause; words written out from the spec's
encodings; worked cases of the spec; ill-formed terms.
-/
namespace Sys2Proof.Tests
open Sys2Proof Machine Claims

/-! ### A small machine -/

/-- The bytes of words from an address on. -/
def bytesAt (a : Nat) (l : List Word) : FMap Byte :=
  ((l.zipIdx).flatMap (fun e => (List.range 8).map (fun i => (a + 8 * e.2 + i, e.1.extractLsb' (8 * i) 8)))).filter (fun e => e.2 ≠ 0)

/-- An item with one word. -/
def letter (ordinal : Nat) (x : Word) : Stored := { ordinal := ordinal, item := { header := 0, words := [x] } }

/-- A strand in crew 1 with registers worth addressing with: g1 a local address, g2 a translated one, g3 one of the own tile's window,
g6 a ticket. -/
def worker : Strand :=
  { running := true, crewId := 1, system := true
    g := [(1, { val := 0x10000 }), (2, { val := 0x600000 }), (3, { val := 0x0100000000010000 }), (4, { val := 3 }), (5, { val := 1 }),
      (6, { val := 0x0000004000400000 }), (7, { val := 0x0000000000010000 }),
      (8, { val := 0x0000000002000000 }), (9, { val := 0x10008 }), (10, { val := 0x0040004000000040 })]
    p := [(1, { addr := 0x10000, stride := 8 })]
    q := [(0, { port := 0 }), (1, { port := 8 }), (2, { port := 9 })] }

/-- A tile that runs a placement: crew 1 with slots and an accumulator, ports, a ring, a translation of page 3. -/
def shop : Tile :=
  { place := some 256, part := 1, strands := [(0, worker)]
    scratch := bytesAt 0x10000 [0x123456789]
    tags := [(0x2001, false)]
    ac := [(1, { state := .full })]
    crews := [(1, { claim := { xg := 2, sp := 4, os := 4, ac := 2 }, joinMask := 0xFF, window := [(0, 20)], os := [(0, 3), (1, 4), (2, 5)], ac := [(0, 2), (1, 1)]
                    trapVec := { now := 0x400, before := 0x400 } })]
    ports := [(0, { queue := 100, consumer := true, items := [letter 3 7], ordinal := 4, outst := [{ ordinal := 2, strand := 0 }] }),
      (8, { queue := 108, consumer := false }), (9, { queue := 109, consumer := false })]
    tlb := [{ part := 1, page := 3, large := false, entry := 0x1200007 }]
    rings := [(0, { size := 4, slots := [(0, 99)], wr := 1 })] }

/-- The small machine, about to issue a bundle of strand 0 of tile 0. -/
def bench : State :=
  { State.reset with
    tiles := [(0, shop)]
    nodes := [(0, {}), (256, { words := [(0, 0x40000027), (1, 0x200)], tiles := [0] })]
    queues := [(100, { type := 0, part := 1, cap := 8, window := 8, eps := [(0, 0)] }),
      (108, { type := 0, part := 1, cap := 8, window := 8, eps := [(16, 3)] }),
      (109, { type := 2, part := 1, cap := 8, window := 8, eps := [(0, 0)] })]
    nextId := 40
    cur := { who := ⟨0, 0⟩, ip := 0x80, next := 0xC0, sWord := 0x1234, vWord := 0x5678 } }

def st (d a b mod : Nat) : STail :=
  { d := BitVec.ofNat 6 d, a := BitVec.ofNat 6 a, b := BitVec.ofNat 6 b, ta := false, tb := false, mod := BitVec.ofNat 2 mod }
def lt (d fd a fa b fb sub : Nat) : LTail :=
  { d := BitVec.ofNat 6 d, fd := BitVec.ofNat 2 fd, a := BitVec.ofNat 6 a, fa := BitVec.ofNat 2 fa, b := BitVec.ofNat 6 b, fb := BitVec.ofNat 2 fb
    ta := false, tb := false, k := 0, sub := BitVec.ofNat 9 sub }
def wt (d a fa sub imm : Nat) : WTail :=
  { d := BitVec.ofNat 6 d, a := BitVec.ofNat 6 a, fa := BitVec.ofNat 2 fa, ta := false, k := 0, sub := BitVec.ofNat 4 sub, imm := BitVec.ofNat 32 imm }
def xt (d imm : Nat) : XTail := { d := BitVec.ofNat 6 d, imm := BitVec.ofNat 48 imm }
def Due (table : Instr → Option Act) (i : Instr) : Prop := ∃ r, table i = some r ∧ i.wf = true ∧ bench.Alone ∧ r.Due bench
theorem alone : bench.Alone := ⟨by decide, by decide⟩
theorem lone : bench.Lone := ⟨alone, by decide⟩
theorem even_of {o : Option Word} (h : o.all (fun x => !x.getLsbD 0) = true) : ∀ x, o = some x → x.getLsbD 0 = false := by
  rintro x rfl; simpa using h
theorem nobody {s : State} {p : Port} (h : p.waiting = []) : ¬ anotherFirst s p := by
  rintro ⟨-, w, r, hw, -⟩; rw [h] at hw; cases hw
theorem unfenced {p : Port} {x : Stored} (h : x.item.header.getLsbD 9 = false) : ¬ fencedOff p x := by
  rintro ⟨hf, -⟩; rw [h] at hf; cases hf
theorem no_role {s : State} {acc : Option Nat} {slot f : Nat}
    (h : (s.tile s.cur.who.tile).ac.all (fun e => !e.2.rule.active) = true) : ¬ roleAgainst s acc slot f := by
  rintro ⟨e, he, ha, -⟩
  have := List.all_eq_true.1 h e he
  rw [ha] at this; cases this
theorem no_format {s : State} {l : List (Nat × Nat)} {P : Nat × Nat → Nat → Prop}
    (h : l.all (fun x => (slotOf s x.1).isSome && (slotAt s x.1).format.isNone) = true) :
    ∀ x ∈ l, (slotOf s x.1).isSome = true ∧ ∀ f, (slotAt s x.1).format = some f → P x f := by
  intro x hx
  have := List.all_eq_true.1 h x hx
  simp only [Bool.and_eq_true, Option.isNone_iff_eq_none] at this
  exact ⟨this.1, fun f hf => by rw [this.2] at hf; cases hf⟩
def releasableB (s : State) (m : Nat → Nat) : Bool :=
  (List.range 5).all (fun c => decide (m c < 2 ^ nameCount c) && (List.range (nameCount c)).all (fun j =>
    !(m c).testBit j || (match s.unitOf s.cur.who c j with
      | none => false
      | some u => (decide (c ≠ 3) || decide (((s.tile s.cur.who.tile).oslot u).state ≠ .filling)) &&
          (decide (c ≠ 4) || !((s.tile s.cur.who.tile).accum u).rule.active))))
theorem releasable_of {s : State} {m : Nat → Nat} (h : releasableB s m = true) : releasable s m := by
  simp only [releasableB, List.all_eq_true, List.mem_range, Bool.and_eq_true, decide_eq_true_eq] at h
  have key : ∀ c, c < 5 → ∀ j, (m c).testBit j = true → ∃ u, s.unitOf s.cur.who c j = some u ∧
      (c = 3 → ((s.tile s.cur.who.tile).oslot u).state ≠ .filling) ∧ (c = 4 → ((s.tile s.cur.who.tile).accum u).rule.active = false) := by
    intro c hc j hj
    have hlt : j < nameCount c := by
      by_contra hn
      have := Nat.testBit_lt_two_pow (lt_of_lt_of_le (h c hc).1 (Nat.pow_le_pow_right (by norm_num) (not_lt.1 hn)))
      rw [hj] at this; cases this
    have := (h c hc).2 j hlt
    rw [hj] at this
    cases hu : s.unitOf s.cur.who c j with
    | none => rw [hu] at this; simp at this
    | some u =>
      rw [hu] at this
      simp at this
      exact ⟨u, rfl, fun e => by simpa [e] using this, fun e => by simpa [e] using this⟩
  refine ⟨fun c hc => ⟨(h c hc).1, fun j hj => ?_⟩, fun j u hj hu => ?_, fun j u hj hu => ?_⟩
  · obtain ⟨u, hu, -⟩ := key c hc j hj; simp [hu]
  · obtain ⟨v, hv, h3, -⟩ := key 3 (by norm_num) j hj
    rw [hu] at hv; cases hv; exact h3 rfl
  · obtain ⟨v, hv, -, h4⟩ := key 4 (by norm_num) j hj
    rw [hu] at hv; cases hv; exact h4 rfl
set_option maxRecDepth 100000

/-! ### Witnesses: parks and traps -/

/-- The small machine with a strand and a tile changed. -/
def withWorker (f : Strand → Strand) : State := bench.modStrand ⟨0, 0⟩ f
def withShop (f : Tile → Tile) : State := bench.modTile 0 f

/-- g11 EMPTY, g12 PENDING. -/
def waiting (limit : BitVec 32) (p : Option Park) : State := withWorker (fun x =>
  { x with g := x.g ++ [(11, { val := 5, st := .empty }), (12, { st := .pending })], waitLimit := limit, park := p })

/-- Operands in blocks that are held, no system queue among them. -/
theorem allowed_of {r : Act} {s : State} (h : (r.srcs.all (fun x => !(s.strand s.cur.who).lacks x.loc) && r.dests.all (fun l =>
    !(s.strand s.cur.who).lacks l && !s.dstPrivileged s.cur.who l)) = true) : Allowed r s := by
  simp only [Bool.and_eq_true, List.all_eq_true, Bool.not_eq_true'] at h
  exact ⟨h.1, h.2⟩

/-- OperandParks: the second source is EMPTY; the destination is PENDING. -/
theorem test_park_operands :
    (∃ (i : Instr) (r : Act) (before after : List Src) (x : Src), scalarForm i = some r ∧ i.wf = true ∧ (waiting 0 none).Alone ∧ r.On (waiting 0 none) ∧
      Allowed r (waiting 0 none) ∧ r.srcs = before ++ x :: after ∧ (∀ y ∈ before, (waiting 0 none).locFill ⟨0, 0⟩ y.loc = .full) ∧
      (waiting 0 none).locFill ⟨0, 0⟩ x.loc ≠ .full ∧ (∀ y ∈ r.srcs, y.trap = false) ∧ ((waiting 0 none).strand ⟨0, 0⟩).waitLimit = 0) ∧
    ∃ (i : Instr) (r : Act) (d : Loc) (q : RegRef), scalarForm i = some r ∧ i.wf = true ∧ r.On (waiting 0 none) ∧ Allowed r (waiting 0 none) ∧
      (waiting 0 none).Readable r.srcs ∧ (waiting 0 none).srcsFault ⟨0, 0⟩ r.srcs = none ∧ r.dests = [d] ∧ d.ref ⟨0, 0⟩ = some q ∧
      (waiting 0 none).regFill q = .pending :=
  ⟨⟨.addL (lt 9 0 4 0 11 0 0), _, [{ loc := .g 4 }], [], { loc := .g 11, isB := true }, rfl, by decide, ⟨by decide, by decide⟩, on_of (by decide),
    allowed_of (by decide), rfl, by decide, by decide, by decide, by decide⟩,
   ⟨.addL (lt 12 0 4 0 5 0 0), _, .g 12, .g ⟨0, 0⟩ 12, rfl, by decide, on_of (by decide), allowed_of (by decide), readable_of (by decide), by decide, rfl,
    rfl, by decide⟩⟩

/-- OperandTraps: an EMPTY source with its trap bit; a source and a destination in a block that is not held; a limit of 16 cycles
and a park of 16. -/
theorem test_trap_operands :
    bench.Lone ∧ ((waiting 0 none).Lone ∧ (waiting 16 none).Lone) ∧
    (∃ (i : Instr) (r : Act) (before after : List Src) (x : Src), scalarForm i = some r ∧ i.wf = true ∧ r.On (waiting 0 none) ∧
      Allowed r (waiting 0 none) ∧ r.srcs = before ++ x :: after ∧ (∀ y ∈ r.srcs, y.loc.isQ = false) ∧
      (∀ y ∈ before, (waiting 0 none).locFill ⟨0, 0⟩ y.loc = .full ∨ y.trap = false) ∧
      (waiting 0 none).locFill ⟨0, 0⟩ x.loc ≠ .full ∧ x.trap = true) ∧
    (∃ (i : Instr) (r : Act) (x : Src) (d : Loc), scalarForm i = some r ∧ i.wf = true ∧ r.dests = [d] ∧ bench.dstPrivileged ⟨0, 0⟩ d = false ∧
      r.srcs = [] ++ x :: [{ loc := .g 5, isB := true }] ∧ (bench.strand ⟨0, 0⟩).lacks x.loc = true) ∧
    (∃ (i : Instr) (r : Act) (d : Loc), scalarForm i = some r ∧ i.wf = true ∧ r.dests = [d] ∧ bench.dstPrivileged ⟨0, 0⟩ d = false ∧
      (∀ y ∈ r.srcs, (bench.strand ⟨0, 0⟩).lacks y.loc = false) ∧ (bench.strand ⟨0, 0⟩).lacks d = true) ∧
    ∃ (i : Instr) (r : Act) (x : Src) (p : Park), let s := waiting 16 (some { kind := 1, index := 11, cycles := 16 })
      scalarForm i = some r ∧ i.wf = true ∧ r.On s ∧ Allowed r s ∧ r.srcs = [] ++ x :: [{ loc := .g 5, isB := true }] ∧
        s.locFill ⟨0, 0⟩ x.loc ≠ .full ∧ (∀ y ∈ r.srcs, y.trap = false) ∧ (s.strand ⟨0, 0⟩).park = some p ∧ (s.strand ⟨0, 0⟩).waitLimit ≠ 0 ∧
        (s.strand ⟨0, 0⟩).waitLimit.toNat < p.cycles + 8 :=
  ⟨lone, ⟨⟨⟨by decide, by decide⟩, by decide⟩, ⟨by decide, by decide⟩, by decide⟩,
   ⟨.addL { lt 9 0 4 0 11 0 0 with tb := true }, _, [{ loc := .g 4 }], [], { loc := .g 11, isB := true, trap := true }, rfl, by decide, on_of (by decide),
    allowed_of (by decide), rfl, by decide, by decide, by decide, by decide⟩,
   ⟨.addL (lt 9 0 16 0 5 0 0), _, _, _, rfl, by decide, rfl, by decide, rfl, by decide⟩,
   ⟨.addL (lt 63 0 4 0 5 0 0), _, _, rfl, by decide, rfl, by decide, by decide, by decide⟩,
   ⟨.addL (lt 9 0 11 0 5 0 0), _, _, _, rfl, by decide, on_of (by decide), allowed_of (by decide), rfl, by decide, by decide, rfl, by decide, by decide⟩⟩

/-- MaskedOff: a store whose mask register k1 is zero, and an addition whose first source is EMPTY then. -/
theorem test_masked_off : ∀ i ∈ [Instr.st (.l { lt 0 0 1 0 4 0 3 with k := 1 }), .addL { lt 9 0 11 0 5 0 0 with k := 1 }], ∃ h,
    let s := withWorker (fun x => { x with k := [(1, { val := 0xFFFFFFFE })], g := x.g ++ [(11, { st := .empty })] })
    halfOf i = some h ∧ h.vec = false ∧ i.wf = true ∧ s.Alone ∧ s.MaskOff h.mask ∧ (∀ x ∈ h.srcs, (s.strand s.cur.who).lacks x.loc = false) ∧
      (∀ d ∈ h.dests, (s.strand s.cur.who).lacks d = false) ∧ h.illegal s s.cur.who = false ∧ h.privileged s s.cur.who = false ∧
      h.names s s.cur.who = none := by
  intro i h
  fin_cases h <;> exact ⟨_, rfl, by decide, by decide, ⟨by decide, by decide⟩, ⟨by decide, by decide⟩, by decide, by decide, rfl, rfl, rfl⟩

/-- TrapTaken: a handler at 0x400; none; a handler that is running; no crew; a cause of placement reach. -/
theorem test_trap_taken :
    (let w : Who := ⟨0, 0⟩; let c : Cause := { code := .software, info := 9 }
      bench.debugged w c = false ∧ c.placement = false ∧ c.poster = none ∧ (bench.strand w).crewId ≠ 0xF ∧
        (bench.strand w).trapCause.getLsbD 7 = false ∧ bench.trapVec w ≠ 0) ∧
    (withWorker (fun x => { x with crewId := 0xF })).debugged ⟨0, 0⟩ { code := .software } = false ∧
    ((withWorker (fun x => { x with trapCause := 0x80 })).strand ⟨0, 0⟩).trapCause.getLsbD 7 = true ∧
    ((withShop (fun y => { y with crews := [(1, { claim := {}, joinMask := 0 })] })).trapVec ⟨0, 0⟩ = 0) ∧
    (bench.debugged ⟨0, 0⟩ (unregistered 8) = false ∧ (unregistered 8).placement = true ∧ (unregistered 8).poster = none) := by
  decide

/-- TrapInstructions: TRAP 5; BRK; TRET in a handler and outside. -/
theorem test_trap_forms : bench.Lone ∧ Instr.wf (.trap (wt 0 0 0 0 5)) = true ∧ bench.MaskOn 0 ∧ (bench.strand ⟨0, 0⟩).ignoreOnce = false ∧
    ((withWorker (fun x => { x with ignoreOnce := true })).strand ⟨0, 0⟩).ignoreOnce = true ∧ (bench.strand ⟨0, 0⟩).trapCause.getLsbD 7 = false ∧
    ((withWorker (fun x => { x with trapCause := 0x8D })).strand ⟨0, 0⟩).trapCause.getLsbD 7 = true :=
  ⟨lone, by decide, ⟨by decide, by decide⟩, by decide, by decide, by decide, by decide⟩

/-- EncodingTraps: a strand at user level; SWR of TRAP_CAUSE; a push to a system queue. -/
theorem test_trap_encodings :
    let s := { withWorker (fun x => { x with system := false }) with queues := [(108, { type := 0, part := 1, system := true, eps := [(16, 3)] })] }
    bench.Lone ∧ (bench.strand ⟨0, 0⟩).fused = false ∧ (bench.strand ⟨0, 0⟩).matched = false ∧ (bench.tile 0).frozen = false ∧ s.Lone ∧ (xt 0 3).imm.getLsbD 0 = true ∧ Instr.wf (.swr (wt 0 1 0 0 0x18)) = true ∧
      sysNumber (wt 0 1 0 0 0x18) ≠ 0x019 ∧ (s.strand s.cur.who).system = false ∧
      (∃ r, scalarRule (.mov (st 0 0 0 0)) = some r ∧ r.dests = [.g 0]) ∧
      (∃ r, scalarRule (.movL (lt 1 2 4 0 0 0 0)) = some r ∧ r.dests = [.q 1]) ∧ s.dstPrivileged s.cur.who (.q 1) = true :=
  ⟨lone, by decide, by decide, by decide, ⟨⟨by decide, by decide⟩, by decide⟩, by decide, by decide, by decide, by decide, ⟨_, rfl, rfl⟩, ⟨_, rfl, rfl⟩, by decide⟩

/-- What AccessTraps asks for but the cause. -/
def Ready (i : Instr) (r : Act) (s : State) : Prop :=
  i.wf = true ∧ s.Lone ∧ r.On s ∧ s.Readable r.srcs ∧ s.Writable r.dests ∧ ∀ d ∈ r.dests, s.dstPrivileged s.cur.who d = false

theorem ready_of {i : Instr} {r : Act} {s : State} (h : i.wf = true) (ha : s.Lone) (hb : (onB r s && readableB s r.srcs && writableB s r.dests &&
    r.dests.all (fun d => !s.dstPrivileged s.cur.who d)) = true) : Ready i r s := by
  simp only [Bool.and_eq_true, List.all_eq_true, Bool.not_eq_true'] at hb
  exact ⟨h, ha, on_of hb.1.1.1, readable_of hb.1.1.2, writable_of hb.1.2, hb.2⟩

/-- AccessTraps: a local address one off, and one that a user strand may not access; LDF of an EMPTY word and STE of a FULL one. -/
theorem test_access_local :
    (∃ (i : Instr) (r : Act) (t : LWTail), localRule i = some r ∧ Ready i r bench ∧ localSize i = some (t, 8, 0) ∧
      localCause bench (localAt t bench) 8 0 = some { code := .misaligned, info := 0x10001 }) ∧
    (∃ (i : Instr) (r : Act) (t : LWTail), let s := withWorker (fun x => { x with system := false })
      localRule i = some r ∧ Ready i r s ∧ localSize i = some (t, 1, 1) ∧
        localCause s (localAt t s) 1 1 = some { code := .accessDenied, info := 0x0200000000010000 }) ∧
    (∃ (r : Act) (t : LWTail), localRule (.ldf t) = some r ∧ Ready (.ldf t) r bench ∧ touchable bench (localAt t bench) 8 true ∧
      bench.Moves (r.srcs.drop 1) (r.dests.headD .none) 1 ∧ r.Clear bench ∧ (bench.strand bench.cur.who).waitLimit = 0 ∧ tagFull t bench = false) ∧
    ∃ (r : Act) (t : LWTail), localRule (.ste t) = some r ∧ Ready (.ste t) r bench ∧ touchable bench (localAt t bench) 8 false ∧
      bench.Moves (r.srcs.drop 1) (r.dests.headD .none) 1 ∧ r.Clear bench ∧ tagFull t bench = true :=
  ⟨⟨.ld (.w (wt 9 1 0 3 1)), _, _, rfl, ready_of (by decide) lone (by decide), rfl, by decide⟩,
   ⟨.st (.l (lt 0 0 1 0 4 0 0)), _, _, rfl, ready_of (by decide) ⟨⟨by decide, by decide⟩, by decide⟩ (by decide), rfl, by decide⟩,
   ⟨_, .l (lt 11 0 9 0 0 0 0), rfl, ready_of (by decide) lone (by decide), ⟨by decide, by decide, by decide⟩, moves_of (by decide), clear_of (by decide),
    by decide, by decide⟩,
   ⟨_, .l (lt 0 0 1 0 4 0 0), rfl, ready_of (by decide) lone (by decide), ⟨by decide, by decide, by decide⟩, moves_of (by decide), clear_of (by decide),
    by decide⟩⟩

/-- AccessTraps: a global address one off; one without a translation. -/
theorem test_access_global :
    (∃ (i : Instr) (r : Act) (t : LWTail), globalRule i = some r ∧ Ready i r bench ∧ globalSize i = some (t, 8, 0, false) ∧
      globalCause bench (globalAt t bench) 8 0 false = some { code := .misaligned, info := 0x600001 }) ∧
    ∃ (i : Instr) (r : Act) (t : LWTail), globalRule i = some r ∧ Ready i r bench ∧ globalSize i = some (t, 8, 1, false) ∧
      globalAt t bench < 2 ^ 56 ∧ globalCause bench (globalAt t bench) 8 1 false = none ∧ heldEntry bench (globalAt t bench) = none ∧
      bench.Moves (r.srcs.drop 1) .none 1 ∧ r.Clear bench ∧ (bench.strand bench.cur.who).waitLimit = 0 :=
  ⟨⟨.ldg (.w (wt 9 2 0 3 1)), _, _, rfl, ready_of (by decide) lone (by decide), rfl, by decide⟩,
   ⟨.stg (.w (wt 4 2 0 3 0x200000)), _, _, rfl, ready_of (by decide) lone (by decide), rfl, by decide, by decide, by decide, moves_of (by decide),
    clear_of (by decide), by decide⟩⟩

/-- R170, R172: the checks where their ranges meet: below and at the windows, the last tile and beyond, the weight stores and beyond,
bits above 56; a page that may not be written, one that the pager refused. -/
theorem test_access_ranges :
    let s := withShop (fun y => { y with tlb := [{ part := 1, page := 3, large := false, entry := 0x1200003 }] })
    let f := fun (x kind : Nat) => (globalCause s x 8 kind false).map (fun c => (c.code, c.placement))
    f (2 ^ 56 - 8) 0 = none ∧ f (2 ^ 56) 0 = none ∧ f (2 ^ 56 + 0x61FF8) 1 = none ∧ f (2 ^ 56 + 0x62000) 1 = some (.accessDenied, false) ∧
      f (2 ^ 56 + 25 * 2 ^ 24) 0 = none ∧ f (2 ^ 56 + 26 * 2 ^ 24) 0 = some (.unregistered, true) ∧
      f (2 ^ 56 + 2 ^ 31 - 8) 0 = some (.unregistered, true) ∧ f (2 ^ 56 + 2 ^ 31) 0 = some (.unregistered, true) ∧
      f 0x0110000000000000 0 = none ∧ f 0x0110000000000000 1 = some (.accessDenied, false) ∧ f 0x011000002FFFFFF8 0 = none ∧
      f 0x0110000030000000 0 = some (.accessDenied, false) ∧ f 0x0110000100000000 0 = some (.unregistered, true) ∧
      f (2 ^ 57 - 8) 0 = some (.unregistered, true) ∧ f (2 ^ 57) 0 = some (.unregistered, true) ∧
      f 0x600000 0 = none ∧ f 0x600000 1 = some (.accessDenied, false) ∧
      ((globalCause s (2 ^ 56 - 8) 8 0 true).map (·.code)) = some .accessDenied ∧
      ((globalCause (s.modStrand ⟨0, 0⟩ (fun x => { x with xfault := some (4, 0x17) })) 0x800000 8 0 false).map (·.code)) = some .pageRefused ∧
      ((globalCause (s.modStrand ⟨0, 0⟩ (fun x => { x with system := false })) (2 ^ 56 + 0xFFF8) 8 0 false).map (·.code)) = some .accessDenied ∧
      globalCause (s.modStrand ⟨0, 0⟩ (fun x => { x with system := false })) (2 ^ 56 + 0x10000) 8 0 false = none := by
  decide

/-! ### Witnesses: gangs, queues, redeems -/

/-- Two tiles side by side whose strands 0 are fused. -/
def pair : State :=
  { bench with
    tiles := [(0, { shop with strands := [(0, { worker with gangShape := 0x10001 })] }),
      (1, { shop with strands := [(0, { worker with gangShape := 0x10101 })] })] }

/-- The hypotheses of GangResult. -/
def GangReady (i : Instr) (s : State) : Prop :=
  ∃ r, gangRule i = some r ∧ i.wf = true ∧ (i = .gsplit → (s.strand s.cur.who).fused = true) ∧
    (∀ t, i = .gbr t → (away s t.imm).getLsbD 0 = false) ∧
    (∀ w ∈ s.members s.cur.who, (s.tile w.tile).frozen = false ∧ (s.strand w).fused = (s.strand s.cur.who).fused ∧
      s.members w = s.members s.cur.who ∧ (1 < (s.members s.cur.who).length →
        (s.strand w).running = true ∧ (s.strand w).dying = false ∧ s.leader w = s.leader s.cur.who) ∧ (seenBy s w).MaskOn r.mask ∧
      (seenBy s w).Readable r.srcs ∧ (seenBy s w).Writable r.dests) ∧
    (s.members s.cur.who).Nodup

theorem members_pair : pair.members pair.cur.who = [⟨0, 0⟩, ⟨1, 0⟩] := by decide

theorem gang_of {i : Instr} {r : GangAct} (h : gangRule i = some r) (hw : i.wf = true)
    (he : ∀ t, i = .gbr t → (away pair t.imm).getLsbD 0 = false) (h0 : (seenBy pair ⟨0, 0⟩).MaskOn r.mask) (h1 : (seenBy pair ⟨1, 0⟩).MaskOn r.mask)
    (hb : (readableB (seenBy pair ⟨0, 0⟩) r.srcs && writableB (seenBy pair ⟨0, 0⟩) r.dests && readableB (seenBy pair ⟨1, 0⟩) r.srcs &&
      writableB (seenBy pair ⟨1, 0⟩) r.dests) = true) : GangReady i pair := by
  simp only [Bool.and_eq_true] at hb
  refine ⟨r, h, hw, fun _ => by decide, he, fun w hm => ?_, by rw [members_pair]; decide⟩
  rw [members_pair] at hm
  rcases List.mem_cons.1 hm with rfl | hm
  · exact ⟨by decide, by decide, by decide, fun _ => by decide, h0, readable_of hb.1.1.1, writable_of hb.1.1.2⟩
  · obtain rfl := List.mem_singleton.1 hm
    exact ⟨by decide, by decide, by decide, fun _ => by decide, h1, readable_of hb.1.2, writable_of hb.2⟩

theorem test_gang_ready :
    GangReady (.gbr (wt 0 0 3 0 8)) pair ∧ GangReady (.gred (lt 9 0 4 0 0 0 0)) pair ∧ GangReady (.gxch (lt 9 0 4 0 0 0 1)) pair ∧
      GangReady .gsplit pair := by
  refine ⟨gang_of rfl (by decide) (fun t h => by cases h; decide) ?_ ?_ (by decide), gang_of rfl (by decide) (fun t h => by cases h) ?_ ?_ (by decide),
    gang_of rfl (by decide) (fun t h => by cases h) ?_ ?_ (by decide), gang_of rfl (by decide) (fun t h => by cases h) ?_ ?_ (by decide)⟩ <;>
    exact ⟨by decide, by decide⟩

/-- GangResult, GangMismatch: a strand alone; MRED of both members. -/
theorem test_gang_mred :
    bench.Lone ∧
    (let t := lt 1 0 0 0 0 0 0
     let ms := pair.members pair.cur.who
     Instr.wf (.mred t) = true ∧ (pair.strand pair.cur.who).fused = true ∧ ms.Nodup ∧ pair.leader pair.cur.who ∈ ms ∧
      (∀ w ∈ ms, (pair.tile w.tile).frozen = false ∧ (pair.strand w).running = true ∧ (pair.strand w).dying = false ∧ (pair.strand w).fused = true ∧ pair.members w = ms ∧ pair.leader w = pair.leader pair.cur.who ∧
        accOf (seenBy pair w) 1 = some 1 ∧ (accAt (seenBy pair w) 1).state = .full ∧ (accAt (seenBy pair w) 1).busy = false ∧
        (accAt (seenBy pair w) 1).int = (accAt (seenBy pair (pair.leader pair.cur.who)) 1).int ∧ (accAt (seenBy pair w) 1).rule.active = false) ∧
      (ms.map (·.tile)).Nodup) :=
  ⟨lone, by rw [members_pair]; decide⟩

/-- A port whose head is a beacon, is fenced, or is missing. -/
def headed (header : BitVec 16) : State :=
  let p : Port := { queue := 100, consumer := true, items := [{ ordinal := 3, item := { header := header, words := [2, 0x200] } }]
                    ordinal := 4, outst := [{ ordinal := 2, strand := 0 }] }
  withShop (fun y => { y with ports := FMap.set y.ports 0 p })
def emptied : State := withShop (fun y => { y with ports := FMap.set y.ports 0 { queue := 100, consumer := true } })

/-- QueueLook: QTRY and QPEEK of a port with an item, with a beacon, with a fenced item, and of an empty one. -/
theorem test_queue_look : ∃ (i : Instr) (t : LTail) (look : Found → State → State), lookRule i = some (t, finds, look, true) ∧ i.wf = true ∧
    bench.MaskOn t.k.toNat ∧ bench.Readable [{ loc := .q t.a.toNat, trap := t.ta }] ∧ bench.Writable (popRegs t true) ∧
    bench.acquiring bench.cur.who = false ∧
    (∃ n p, popsFrom bench t.a.toNat n p ∧ finds bench p (.item (letter 3 7))) ∧
    (∃ n p x, popsFrom (headed 0x2100) t.a.toNat n p ∧ finds (headed 0x2100) p (.beacon x)) ∧
    (∃ n p x, popsFrom (headed 0x2200) t.a.toNat n p ∧ finds (headed 0x2200) p (.held x)) ∧
    ∃ n p, popsFrom emptied t.a.toNat n p ∧ finds emptied p .nothing :=
  ⟨.qtryL (lt 11 0 0 0 0 0 0), _, _, rfl, by decide, ⟨by decide, by decide⟩, readable_of (by decide), writable_of (by decide), by decide,
    ⟨_, _, ⟨rfl, by decide, by decide⟩, _, rfl, by decide, nobody rfl, unfenced (by decide), by decide⟩,
    ⟨_, _, _, ⟨rfl, by decide, by decide⟩, _, rfl, by decide⟩,
    ⟨_, _, _, ⟨rfl, by decide, by decide⟩, _, rfl, by decide, nobody rfl, .inl ⟨by decide, _, List.mem_singleton.2 rfl, by decide⟩⟩,
    ⟨_, _, ⟨rfl, by decide, by decide⟩, .inl rfl⟩⟩

theorem test_queue_peek : ∃ (i : Instr) (t : LTail) (look : Found → State → State) (n : Nat) (p : Port), lookRule i = some (t, peeks, look, false) ∧
    i.wf = true ∧ popsFrom bench t.a.toNat n p ∧ peeks bench p (.item (letter 3 7)) :=
  ⟨.qpeekL (lt 11 0 0 0 0 0 0), _, _, _, _, rfl, by decide, ⟨rfl, by decide, by decide⟩, _, rfl, by decide, nobody rfl, unfenced (by decide)⟩

/-- QueueLook: QSEL over q0 with an item, and its .t form over an empty port. -/
theorem test_queue_select :
    (let t := lt 11 0 5 0 0 0 0
     Instr.wf (.qsel t) = true ∧ bench.MaskOn t.k.toNat ∧ bench.Readable [t.srcA] ∧ bench.Writable (popRegs t true) ∧
      (bench.strand bench.cur.who).lastSel < 16 ∧ bitsOf (val bench t.srcA.loc) 0 16 ≠ 0 ∧
      (∀ q, q < 16 → (val bench t.srcA.loc).getLsbD q = true → ∃ n p, popsFrom bench q n p) ∧
      chosen bench (val bench t.srcA.loc) 0 ∧ ∃ n p, bound bench 0 = some (n, p) ∧ finds bench p (.item (letter 3 7))) ∧
    (let t := lt 11 0 5 0 0 0 8
     Instr.wf (.qsel t) = true ∧ t.bit 3 = true ∧ ∀ q, q < 16 → (val emptied t.srcA.loc).getLsbD q = true → ¬ poppable emptied q) := by
  have hf : finds bench { queue := 100, consumer := true, items := [letter 3 7], ordinal := 4, outst := [{ ordinal := 2, strand := 0 }] } (.item (letter 3 7)) :=
    ⟨_, rfl, by decide, nobody rfl, unfenced (by decide), by decide⟩
  have one : ∀ q, q < 16 → (1 : Word).getLsbD q = true → q = 0 := by decide
  refine ⟨⟨by decide, ⟨by decide, by decide⟩, readable_of (by decide), writable_of (by decide), by decide, by decide, ?_, ?_, _, _, rfl, hf⟩, by decide, by decide, ?_⟩
  · intro q hq h
    obtain rfl := one q hq h
    exact ⟨_, _, rfl, by decide, by decide⟩
  · refine ⟨by decide, by decide, ⟨_, _, _, rfl, .inl hf⟩, fun x hx h _ => ?_⟩
    obtain rfl := one x hx h
    exact ⟨le_refl _, fun _ => le_refl _⟩
  · intro q hq h
    obtain rfl := one q hq h
    rintro ⟨n, p, x, hb, hx⟩
    cases hb
    rcases hx with ⟨r, hr, -⟩ | ⟨r, hr, -⟩ <;> cases hr

/-- TrappingRedeem: RDM of a ticket; a hold whose answer has not come, is OK, is STALE. -/
theorem test_redeem_held :
    (∃ (i : Instr) (r : Act) (req : State → RedeemReq), heldRule i = some (r, req) ∧ i.wf = true ∧ bench.Alone ∧ r.Due bench) ∧
    ∀ a ∈ [none, some 0, some 1], ∃ h, ((withWorker (fun x => { x with hold := some { ticket := 64, redeem := 7, dest := some (.g ⟨0, 0⟩ 9), next := 0xC0, answer := a } })).strand
      ⟨0, 0⟩).hold = some h ∧ h.answer = a ∧ ∀ r, h.dest = some r → bench.regFill r ≠ .pending :=
  ⟨⟨.rdm (st 11 6 0 0), _, _, rfl, by decide, alone, due_of (by decide) ⟨.inr ⟨by decide, by decide⟩, by decide⟩⟩, fun a _ => ⟨_, rfl, rfl, fun r h => by
    cases h; decide⟩⟩

/-! ### Witnesses: causes and waits -/

/-- g4 holds a word; descriptors and stores changed. -/
def g4 (x : Nat) (s : State) : State :=
  s.modStrand ⟨0, 0⟩ (fun y => { y with g := FMap.set y.g 4 { val := BitVec.ofNat 64 x } })
def lawful (f : Queue → Queue) (s : State) : State := { s with queues := s.queues.map (fun e => (e.1, f e.2)) }
def full : State := lawful (fun y => { y with window := 0 }) bench
def faulted : State := lawful (fun y => { y with state := 2, broken := 3 }) bench
def slot (p : Nat) (o : OSlot) : State := withShop (fun y => { y with os := [(p, o)] })
def accum (p : Nat) (x : Accum) : State := withShop (fun y => { y with ac := [(p, x)] })
def active (p : Pair) (a b : Option Nat) : Rule :=
  { active := true, pair := p, a := a, b := b, m := 8, n := 8, kf := 1, gscale := 0, zero := true, ext := {} }
def headOnly (kind : Nat) : State :=
  withShop (fun y => { y with ports := FMap.set y.ports 0 { queue := 100, consumer := true, items := [{ ordinal := 3, item := beaconItem ⟨kind, 2, 3⟩ }] } })
def alienClaim (c : Counts) : State :=
  withShop (fun y => { y with crews := [(1, { claim := c, joinMask := 0xFF }), (2, { claim := { sp := 80 }, joinMask := 0 })]
                              quar := (List.range 78).map (fun i => ⟨2, 16 + i⟩) })

/-- EncodingTraps: odd targets; SPAWN of the own index (R86, R90). -/
theorem test_raises_control : ∀ e ∈ [⟨.j (xt 0 0x101), bench, .misaligned, 0x101⟩, ⟨.call (xt 0 0x101), bench, .misaligned, 0x101⟩,
    ⟨.jr (st 0 5 0 0), bench, .misaligned, 1⟩, ⟨.jrLinkLForm (lt 0 0 5 0 0 0 1), bench, .misaligned, 1⟩, ⟨.br (wt 4 5 0 1 7), bench, .misaligned, 0x87⟩,
    ⟨.loop (wt 4 0 0 0 7), bench, .misaligned, 0x87⟩, ⟨.spawn (wt 0 4 0 0 0x40), bench, .illegalOpcode, 0x1234⟩], Raising controlRule controlCause e :=
  raising_of (by decide)

/-- EncodingTraps: BZ on 0 and BNZ on 1 to an odd target, GBR on a set bit; a user's BCN, QBIND and pushes to a system queue; one pointer
post-incremented twice. -/
theorem test_raises_words :
    (bench.Lone ∧ Instr.wf (.bnz (wt 0 5 0 1 7)) = true ∧ bench.MaskOn 0 ∧ bench.Readable [(wt 0 5 0 1 7).srcA] ∧ bench.Moves [(wt 0 5 0 1 7).srcA] .none 1 ∧
      decide (a1 (takeScalars bench bench.past bench.cur.who [(wt 0 5 0 1 7).srcA]).1 = 0) ≠ true ∧ (away bench 7).getLsbD 0 = true ∧
      decide (a1 (takeScalars bench bench.past bench.cur.who [(wt 0 11 0 0 7).srcA]).1 = 0) ≠ false) ∧
    (let s := withWorker (fun x => { x with k := [(2, { val := 1 })] });
      s.Lone ∧ Instr.wf (.gbr (wt 0 2 3 0 7)) = true ∧ s.Readable [{ loc := .k 2 }] ∧ ((s.strand s.cur.who).readK 2).val.getLsbD 0 = true) ∧
    (∃ r, vectorRule (.vaddL (lt 3 0 1 1 1 1 0)) = some r ∧ ¬ (posted (r.srcs.map (·.loc) ++ r.dests)).Nodup) ∧
    (let s := lawful (fun y => { y with system := true }) (withWorker (fun x => { x with system := false }));
      s.Lone ∧ (s.strand s.cur.who).system = false ∧
        (∃ p, FMap.find (s.tile s.cur.who.tile).ports (fieldNat (wt 5 0 0 0 8).imm 0 5) = some p ∧ (s.queue p.queue).system = true) ∧
        s.dstPrivileged s.cur.who (.q 1) = true ∧ s.dstPrivileged s.cur.who (.q 2) = true ∧
        (∃ r, queueRule (.qpushL (lt 1 0 4 0 5 0 0)) = some r ∧ .q 1 ∈ r.dests) ∧ (∃ r, engineRule (.cpy (lt 2 0 1 0 0 0 0)) = some r ∧ .q 2 ∈ r.dests) ∧
        (∃ r, localRule (.ld (.l (lt 1 2 1 0 0 0 0))) = some r ∧ .q 1 ∈ r.dests) ∧
        ∃ r, vectorRule (.vaddL (lt 1 2 3 0 3 0 0)) = some r ∧ (posted (r.srcs.map (·.loc) ++ r.dests)).Nodup ∧ .q 1 ∈ r.dests) :=
  ⟨⟨lone, by decide, ⟨by decide, by decide⟩, readable_of (by decide), moves_of (by decide), by decide, by decide, by decide⟩,
   ⟨lone_of (by decide), by decide, readable_of (by decide), by decide⟩, ⟨_, rfl, by decide⟩,
   lone_of (by decide), by decide, ⟨_, rfl, by decide⟩, by decide, by decide, ⟨_, rfl, by decide⟩, ⟨_, rfl, by decide⟩, ⟨_, rfl, by decide⟩,
   ⟨_, rfl, by decide, by decide⟩⟩

/-- CrewResult: the words of CLAIM_INVALID and CLAIM_EXCEEDED, of SLOT_STATE at a release, of GFUSE (R107, R190, R194, R198). -/
theorem test_raises_crew : ∀ e ∈ [⟨.crew (lt 9 0 4 0 5 0 2), g4 (17 + 2 ^ 40) bench, .claimInvalid, 0x41000110⟩,
    ⟨.crew (lt 9 0 4 0 5 0 2), g4 (33 * 2 ^ 16) bench, .claimInvalid, 0x52000212⟩, ⟨.crew (lt 9 0 4 0 5 0 2), g4 (2 ^ 40) bench, .claimInvalid, 0x80000000⟩,
    ⟨.acq (.w (wt 9 0 0 0 300)), bench, .claimExceeded, 0x10200FF0⟩, ⟨.acq (.w (wt 9 0 0 0 4)), alienClaim { xg := 16 }, .claimExceeded, 0x20300040⟩,
    ⟨.acq (.w (wt 9 0 0 1 3)), withWorker (fun x => { x with crewId := 0xF }), .claimInvalid, 0x30000031⟩,
    ⟨.acqm (lt 9 0 4 0 0 0 0), g4 (2 ^ 41) bench, .claimInvalid, 0x80000000⟩, ⟨.rel (.w (wt 0 0 0 0 9)), bench, .claimInvalid, 0x70200020⟩,
    ⟨.rel (.w (wt 0 0 0 2 6)), bench, .claimInvalid, 0x60401022⟩, ⟨.rel (.w (wt 0 0 0 3 2)), slot 4 { state := .filling }, .slotState, 0x16⟩,
    ⟨.relm (lt 0 0 4 0 0 0 0), g4 (3 * 2 ^ 54) (accum 1 { rule := active .i8i8 none none }), .slotState, 0x116⟩,
    ⟨.gfuse (lt 0 0 4 0 0 0 0), g4 (2 ^ 20) bench, .gangMismatch, 0x1000000000000000⟩,
    ⟨.gfuse (lt 0 0 4 0 0 0 0), g4 (14 + 2 ^ 11 * 3) bench, .gangMismatch, 0x2000000000000000⟩,
    ⟨.gfuse (lt 0 0 4 0 0 0 0), g4 (2 ^ 11) bench, .gangMismatch, 0x3000000000000000⟩,
    ⟨.gfuse (lt 0 0 4 0 0 0 0), g4 1 { bench with tiles := [(0, shop), (1, shop)] }, .gangMismatch, 0x4000000000000000⟩,
    ⟨.gfuse (lt 0 0 4 0 0 0 0), g4 (2 ^ 11) { bench with tiles := [(0, shop), (1, { shop with strands := [(0, { worker with fuse := some 5 })] })] },
      .gangMismatch, 0x7000000000000001⟩], Raising crewRule crewCause e :=
  raising_of (by decide)

/-- A strand with a result owed to the first register of a block. -/
def owing : State := withWorker (fun x => { x with xg := [(0, 3)], g := x.g ++ [(17, { st := .pending })] })

/-- ControlResult, CrewResult: SPAWN of a strand that runs; an acquisition that is SHORT, a release, STOP, CJOIN.X and GFUSE that wait. -/
theorem test_parks_crew :
    Parking controlRule controlCause controlWait (.spawn (wt 1 4 0 0 0x40)) (bench.modStrand ⟨0, 1⟩ (fun x => { x with running := true })) 13 0 ∧
    Parking crewRule crewCause crewWait (.acq (.w (wt 9 0 0 2 3))) (alienClaim { sp := 4 }) 6 2 ∧
    Parking crewRule crewCause crewWait (.rel (.w (wt 0 0 0 0 1))) owing 10 17 ∧ Parking crewRule crewCause crewWait .stop owing 12 0 ∧
    Parking crewRule crewCause crewWait (.cjoinXL (lt 9 0 0 0 0 0 1)) owing 12 0 ∧
    Parking crewRule crewCause crewWait (.gfuse (lt 0 0 4 0 0 0 0)) (g4 (2 ^ 11) { bench with tiles := [(0, shop), (1, shop)] }) 14 0 :=
  ⟨parking_of rfl (by decide) ⟨by decide, rfl, rfl, rfl, rfl⟩,
   parking_of rfl (by decide) ⟨⟨rfl, by decide, by decide, .inr (by decide), rfl⟩, rfl, rfl, rfl⟩,
   parking_of rfl (by decide) ⟨.g 17, by decide, rfl, rfl, rfl, rfl⟩, parking_of rfl (by decide) ⟨by decide, rfl, rfl, rfl, rfl⟩,
   parking_of rfl (by decide) ⟨by decide, by decide, by decide, rfl, rfl, rfl, rfl⟩,
   parking_of rfl (by decide) ⟨by decide, .inl (by decide), rfl, rfl, rfl, rfl⟩⟩

/-- GangResult, MatrixResult: a gang of two whose crews have a handler; SPAWN of another index; MRED of two types. -/
theorem test_raises_gang :
    Gathered pair 0 [] [] ∧ notInGang .stop = true ∧ (∃ r, crewRule .stop = some r ∧ r.mask = 0 ∧ r.srcs = [] ∧ r.dests = []) ∧
    Gathered pair 0 [{ loc := .k 0 }] [] ∧ Instr.wf (.gbr (wt 0 0 3 0 7)) = true ∧ (away pair 7).getLsbD 0 = true ∧
    (∃ m ∈ pair.members pair.cur.who, ((pair.strand m).readK 0).val.getLsbD 0 = true) ∧
    (let s : State := { pair with tiles := pair.tiles.map (fun e => (e.1, { e.2 with ac := [(2, { state := .full, int := decide (e.1 = 1) })] })) }
     Instr.wf (.mred (lt 0 0 0 0 0 0 0)) = true ∧ Gathered s 0 [] [] ∧
      (∀ w ∈ s.members s.cur.who, (accOf (seenBy s w) 0).isSome = true ∧ (accAt (seenBy s w) 0).state = .full ∧ (accAt (seenBy s w) 0).busy = false ∧
        colOf (s.leader s.cur.who).tile ≤ colOf w.tile ∧ rowOf (s.leader s.cur.who).tile ≤ rowOf w.tile) ∧
      (s.members s.cur.who).filter (fun w => decide ((accAt (seenBy s w) 0).int ≠ (accAt (seenBy s (s.leader s.cur.who)) 0).int)) = [⟨1, 0⟩]) := by
  have key : ∀ s : State, ∀ l : List Src, s.members s.cur.who = [⟨0, 0⟩, ⟨1, 0⟩] → ((s.strand s.cur.who).fused &&
      decide (s.trapVec (s.leader s.cur.who) ≠ 0) && [(⟨0, 0⟩ : Who), ⟨1, 0⟩].all (fun w => !(s.tile w.tile).frozen && (s.strand w).running &&
        !(s.strand w).dying && (s.strand w).fused && decide (s.leader w = s.leader s.cur.who) && decide (s.members w = s.members s.cur.who) &&
        !(s.strand w).trapCause.getLsbD 7 && onB { next := id } (seenBy s w) && readableB (seenBy s w) l)) = true → Gathered s 0 l [] := by
    intro s l hm h
    simp only [Bool.and_eq_true, List.all_eq_true, decide_eq_true_eq, Bool.not_eq_true'] at h
    obtain ⟨⟨hf, hv⟩, hall⟩ := h
    refine ⟨hf, by rw [hm]; decide, by rw [hm]; decide, hv, fun w hw => ?_⟩
    rw [hm] at hw
    obtain ⟨⟨⟨⟨⟨⟨⟨⟨a, b⟩, c⟩, d⟩, e⟩, f⟩, g⟩, i⟩, j⟩ := hall w hw
    exact ⟨a, b, c, d, e, f, g, on_of (r := { next := id }) i, readable_of j, fun d hd => nomatch hd⟩
  exact ⟨key pair _ (by decide) (by decide), rfl, ⟨_, rfl, rfl, rfl, rfl⟩, key pair _ (by decide) (by decide), by decide, by decide,
    ⟨⟨0, 0⟩, by decide, by decide⟩, by decide, key _ _ (by decide) (by decide), by decide, by decide⟩

/-- QueueResult: the words of QUEUE_FAULT (R217, R219, R223, R228). -/
theorem test_raises_queue : ∀ e ∈ [⟨.qbind (wt 5 0 0 0 7), bench, .queueFault, 0x758⟩, ⟨.qpushL (lt 5 0 4 0 5 0 0), bench, .queueFault, 0x51⟩,
    ⟨.qpushL (lt 0 0 4 0 5 0 0), bench, .queueFault, 0x640002⟩, ⟨.qpushL (lt 2 0 4 0 5 0 0), bench, .queueFault, 0x6D0927⟩,
    ⟨.qpush (st 1 4 5 0), faulted, .queueFault, 0x3006C0814⟩, ⟨.qpopL (lt 9 0 1 0 0 0 0), bench, .queueFault, 0x6C0812⟩,
    ⟨.qpopL (lt 9 0 0 0 0 0 0), lawful (fun y => { y with broken := 1 }) bench, .queueFault, 0x100640003⟩,
    ⟨.qpopL (lt 9 0 0 0 0 0 0), headOnly 1, .queueFault, 0x640005⟩, ⟨.qdoneL (lt 0 0 0 0 4 0 0), bench, .queueFault, 0x640006⟩,
    ⟨.qdoneOL (lt 0 0 1 0 0 0 1), bench, .queueFault, 0x6C0812⟩, ⟨.qcancel (.w (wt 5 0 0 0 1)), bench, .queueFault, 0x51⟩,
    ⟨.qstat (lt 9 0 5 0 0 0 0), bench, .queueFault, 0x51⟩, ⟨.bcn (lt 1 0 2 0 5 0 0), bench, .queueFault, 0x6C081A⟩], Raising queueRule queueCause e :=
  raising_of (by decide)

/-- QueueResult, QueueLook: MOV of a queue that is a PRODUCER's, MOV to a CONSUMER's; QTRY and QSEL through wrong registers. -/
theorem test_raises_operand :
    (∃ r, scalarForm (.movL (lt 9 0 1 2 0 0 0)) = some r ∧ r.Examined bench ∧ r.srcs = [] ++ { loc := .q 1 } :: [] ∧ (popCause bench 1 false).isSome = true) ∧
    (∃ r, scalarRule (.movL (lt 0 2 4 0 0 0 0)) = some r ∧ r.Examined bench ∧ r.dests = [.q 0] ∧ (pushCause bench 0 false).isSome = true) ∧
    (let s := g4 0x23 bench;
      s.Lone ∧ s.MaskOn 0 ∧ s.Readable [(lt 9 0 4 0 0 0 0).srcA] ∧ (∀ d ∈ popRegs (lt 9 0 4 0 0 0 0) true, (s.strand s.cur.who).lacks d = false) ∧
        selCause s (val s (.g 4)) = some { code := .queueFault, info := 0x6C0812 } ∧ s.Readable [{ loc := .q 1 }] ∧
        (popCause s 1 true).isSome = true) :=
  ⟨⟨_, rfl, examined_of (by decide), rfl, by decide⟩, ⟨_, rfl, examined_of (by decide), rfl, by decide⟩,
   lone_of (by decide), ⟨by decide, by decide⟩, readable_of (by decide), by decide, by decide, readable_of (by decide), by decide⟩

/-- QueueResult: a push without room (2), an empty port, a forced beacon (3), a fence (15); BPASS without a beacon (3). -/
theorem test_parks_queue :
    Parking queueRule queueCause queueWait (.qpushL (lt 1 0 4 0 5 0 0)) full 2 8 ∧
    Parking queueRule queueCause queueWait (.qpopL (lt 9 0 0 0 0 0 0)) emptied 3 0 ∧
    Parking queueRule queueCause queueWait (.qpopL (lt 9 0 0 0 0 0 8)) (headOnly 2) 3 0 ∧
    Parking queueRule queueCause queueWait (.qpopL (lt 9 0 0 0 0 0 0)) (headed 0x2200) 15 0 ∧
    Parking queueRule queueCause queueWait .bpass bench 3 0 :=
  ⟨parking_of rfl (by decide) ⟨8, _, rfl, by decide, rfl, rfl, rfl, rfl⟩,
   parking_of rfl (by decide) ⟨0, _, ⟨rfl, by decide, by decide⟩, .inl ⟨.inl rfl, rfl⟩, rfl, rfl, rfl⟩,
   parking_of rfl (by decide) ⟨0, _, ⟨rfl, by decide, by decide⟩, .inr (.inr ⟨_, ⟨_, rfl, by decide⟩, by decide, rfl⟩), rfl, rfl, rfl⟩,
   parking_of rfl (by decide) ⟨0, _, ⟨rfl, by decide, by decide⟩, .inr (.inl ⟨_, ⟨_, rfl, by decide, nobody rfl, .inl ⟨by decide, _,
     List.mem_singleton.2 rfl, by decide⟩⟩, .inl ⟨⟨by decide, _, List.mem_singleton.2 rfl, by decide⟩, rfl⟩⟩), rfl, rfl, rfl⟩,
   parking_of rfl (by decide) ⟨rfl, rfl, .inr ⟨fun c h => by simp [show bench.cutReady bench.cur.who.tile = none from by decide] at h, rfl, by decide⟩⟩⟩

/-- EngineResult: the faults of CPY, of an absent ring, of SBIND; a CMD queue without room, an empty ring (R283, R295, R298). -/
theorem test_raises_engine : (∀ e ∈ [⟨.cpy (lt 2 0 5 0 0 0 0), bench, .misaligned, 1⟩, ⟨.cpy (lt 1 0 1 0 0 0 0), bench, .queueFault, 0x6C0819⟩,
    ⟨.cpy (lt 2 0 1 0 0 0 0), faulted, .queueFault, 0x3006D0924⟩, ⟨.rrel (lt 0 0 0 0 0 0 3), bench, .accessDenied, 0xF000000000000003⟩,
    ⟨.sbind (lt 2 0 1 0 0 0 0), bench, .streamFault, 0x25⟩,
    ⟨.sbind (lt 2 0 1 0 0 0 0), withWorker (fun x => { x with streams := (List.range 4).map (fun i => (4 + i, { base := 0, levels := [] })) }), .streamFault, 0x24⟩],
      Raising engineRule engineCause e) ∧
    Parking engineRule engineCause engineWait (.cpy (lt 2 0 1 0 0 0 0)) full 2 9 ∧
    Parking engineRule engineCause engineWait (.rrel (lt 0 0 0 0 0 0 0)) (withShop (fun y => { y with rings := [(0, { size := 4 })] })) 4 0 :=
  ⟨raising_of (by decide), parking_of rfl (by decide) ⟨9, _, rfl, by decide, rfl, rfl, rfl, rfl⟩,
   parking_of rfl (by decide) ⟨by decide, rfl, rfl, rfl, rfl⟩⟩

/-- A register in stream mode that has been read to its end, or whose next strip was refused. -/
def streaming (taken : Nat) (landed : List (Option VWord)) : State :=
  withWorker (fun x => { x with streams := [(2, { base := 0x80000, levels := [(8, 128)], taken := taken, landed := landed })] })

/-- EngineResult: a write to a register in stream mode, a read behind its last strip, a read of a refused strip (R298). -/
theorem test_raises_stream :
    (∃ r o, vectorRule (.vaddL (lt 2 0 3 0 4 0 0)) = some r ∧ (streaming 8 []).Lone ∧ r.Examined (streaming 8 []) ∧
      (posted (r.srcs.map (·.loc) ++ r.dests)).Nodup ∧ r.dests.head? = some (.v 2) ∧ (streamOf (streaming 8 []) 2).isSome = true ∧
      vectorOp (.vaddL (lt 2 0 3 0 4 0 0)) = some (o, none) ∧ o.fault (streaming 8 []) ⟨0, 0⟩ = none) ∧
    ∀ s ∈ [streaming 8 [], streaming 2 [none]], ∃ o z, vectorOp (.vaddL (lt 3 0 4 0 2 0 0)) = some (o, none) ∧ s.Lone ∧ s.LanesOn o.k.toNat ∧
      o.srcs = [{ loc := .v 4, items := 2 }] ++ { loc := .v 2, isB := true, items := 2 } :: [] ∧ s.Readable [{ loc := .v 4, items := 2 }] ∧
      (∀ y ∈ o.srcs, y.loc.isQ = false ∧ y.loc.isM = false) ∧ streamOf s 2 = some z ∧ (z.total ≤ z.taken ∨ z.taken < z.total ∧ z.landed.head? = some none) := by
  refine ⟨⟨_, _, rfl, lone_of (by decide), examined_of (by decide), by decide, rfl, by decide, rfl, by decide⟩, fun s hs => ?_⟩
  fin_cases hs
  · exact ⟨_, _, rfl, lone_of (by decide), ⟨⟨by decide, by decide⟩, by decide⟩, rfl, readable_of (by decide), by decide, rfl, .inl (by decide)⟩
  · exact ⟨_, _, rfl, lone_of (by decide), ⟨⟨by decide, by decide⟩, by decide⟩, rfl, readable_of (by decide), by decide, rfl, .inr ⟨by decide, rfl⟩⟩

/-- MatrixResult: the words of MATRIX_CONFIG and SLOT_STATE, reason by reason, and names that are not held (R107, R279). -/
theorem test_raises_fill : ∀ e ∈ [⟨.mfill (lt 7 0 1 0 4 0 0), bench, .accessDenied, 0xF000000000000017⟩,
    ⟨.mfill (lt 0 0 1 0 4 0 0), g4 0x80 bench, .matrixConfig, 3⟩, ⟨.mfill (lt 0 0 1 0 4 0 0), g4 0x7F7F bench, .matrixConfig, 5⟩,
    ⟨.mfill (lt 0 0 5 0 4 0 0), g4 0 bench, .misaligned, 1⟩, ⟨.mfill (lt 0 0 1 0 4 0 0), g4 0 (slot 3 { state := .full }), .slotState, 1⟩,
    ⟨.mfill (lt 0 0 1 0 4 0 0), g4 (2 ^ 21) (slot 3 { state := .full, sticky := true }), .slotState, 1⟩,
    ⟨.mfill (lt 0 0 1 0 4 0 0), g4 (2 ^ 16) (slot 3 { state := .filling, format := some 3 }), .matrixConfig, 0x31000A⟩,
    ⟨.mfill (lt 0 0 1 0 4 0 0), g4 (2 ^ 16) (accum 0 { rule := active .i8i8 (some 3) (some 4) }), .matrixConfig, 0x510004⟩,
    ⟨.mscl (lt 0 0 1 0 4 0 0), g4 (2 ^ 18) bench, .matrixConfig, 3⟩, ⟨.mscl (lt 0 0 1 0 4 0 0), g4 0xFFFF bench, .matrixConfig, 5⟩],
    Raising matrixRule matrixCause e :=
  raising_of (by decide)
theorem test_raises_rule : ∀ e ∈ [⟨.mrule .e4e4 (lt 3 0 4 0 5 0 0x10), bench, .accessDenied, 0xF000000000000023⟩,
    ⟨.mrule .e4e4 (lt 0 0 4 0 5 0 0x10), g4 (2 ^ 15) bench, .matrixConfig, 0x103⟩, ⟨.mrule .f4f4 (lt 0 0 4 0 5 0 0x10), g4 65 bench, .matrixConfig, 0x101⟩,
    ⟨.mrule .f4f4 (lt 0 0 4 0 5 0 0x10), g4 (65 * 256) bench, .matrixConfig, 0x102⟩, ⟨.mrule .e4e5 (lt 0 0 4 0 5 0 0x11), g4 65 bench, .matrixConfig, 0x18⟩,
    ⟨.mrule .e4e4 (lt 0 0 4 0 5 0 0x10), g4 65 (accum 2 { stage := { fb := some (some 2, 3) } }), .matrixConfig, 0x30104⟩,
    ⟨.mrule .e4e4 (lt 0 0 4 0 5 0 0x10), g4 65 (slot 4 { format := some 3 }), .matrixConfig, 0x30014⟩,
    ⟨.mrule .e4e4 (lt 0 0 4 0 5 0 0x10), g4 65 (accum 2 { rule := active .e4e4 none none }), .slotState, 0x102⟩], Raising matrixRule matrixCause e :=
  raising_of (by decide)
theorem test_raises_matrix : ∀ e ∈ [⟨.mtag (lt 0 0 4 0 0 0 0), g4 (3 * 2 ^ 40) bench, .matrixConfig, 0x109⟩, ⟨.mwait 0, bench, .slotState, 0x104⟩,
    ⟨.mdrain (lt 1 0 1 0 4 0 4), bench, .matrixConfig, 0x116⟩,
    ⟨.mdrain (lt 0 0 5 0 4 0 0), accum 2 { state := .full, rule := active .e4e4 none none }, .misaligned, 0x200000000000001⟩,
    ⟨.mclrSlot 32, slot 3 { state := .filling }, .slotState, 3⟩, ⟨.mstatL (lt 9 0 7 0 0 0 1), bench, .accessDenied, 0xF000000000000017⟩,
    ⟨.mred (lt 0 0 0 0 0 0 0), bench, .slotState, 0x104⟩], Raising matrixRule matrixCause e :=
  raising_of (by decide)

/-- MatrixResult: a fill of a slot that is FULL, MWAIT, MDRAIN and MRED of an accumulator that is busy. -/
theorem test_parks_matrix :
    Parking matrixRule matrixCause matrixWait (.mfill (lt 0 0 1 0 4 0 0)) (g4 (2 ^ 21) (slot 3 { state := .full })) 8 16 ∧
    Parking matrixRule matrixCause matrixWait (.mwait 0) (accum 2 { busy := true, completions := 5 }) 8 0 ∧
    Parking matrixRule matrixCause matrixWait (.mdrain (lt 0 0 1 0 4 0 0)) (accum 2 { busy := true }) 8 0 ∧
    Parking matrixRule matrixCause matrixWait (.mred (lt 0 0 0 0 0 0 0)) (accum 2 { busy := true }) 8 0 :=
  ⟨parking_of rfl (by decide) ⟨rfl, rfl, rfl, by decide, by decide, by decide⟩,
   parking_of rfl (by decide) ⟨rfl, rfl, rfl, by decide, by decide, by decide⟩,
   parking_of rfl (by decide) ⟨rfl, rfl, rfl, by decide, .inr (by decide)⟩, parking_of rfl (by decide) ⟨rfl, rfl, rfl, by decide, .inr (by decide)⟩⟩

/-! ### Witnesses: arrivals -/

/-- A flight of strand 0, and the small machine with it under way. -/
def under (k : Kind) (d : List RegRef) : Flight := { id := 5, owner := ⟨0, 0⟩, dests := d, kind := k }
def flying (s : State) (k : Kind) (d : List RegRef) : State := { s with flights := [under k d] }

theorem test_arrive_long :
    lands (flying bench (.long [.s 7]) [.g ⟨0, 0⟩ 9]) 5 (under (.long [.s 7]) [.g ⟨0, 0⟩ 9]) ∧
      lands { bench with flights := [{ under (.long [.s 7]) [] with live := false }] } 5 { under (.long [.s 7]) [] with live := false } :=
  ⟨⟨rfl, by decide⟩, rfl, by decide⟩

/-- RegistersArrive: a fill and a read that are denied; of a register in no block; of a drowsy one; of one that is full, and of one
that is PENDING. -/
theorem test_arrive_remote :
    let k := fun (i : Nat) => Kind.rfill false (.g ⟨0, 0⟩ i) 7
    let user := withWorker (fun x => { x with system := false })
    let lazy := withWorker (fun x => { x with drowsy := true })
    let owed := withWorker (fun x => { x with g := [(11, { st := .pending })] })
    lands (flying user (.rfill false (.g ⟨1, 0⟩ 9) 7) [.g ⟨0, 0⟩ 11]) 5 (under (.rfill false (.g ⟨1, 0⟩ 9) 7) [.g ⟨0, 0⟩ 11]) ∧
      ¬ mayTouch (flying user (.rfill false (.g ⟨1, 0⟩ 9) 7) [.g ⟨0, 0⟩ 11]) ⟨0, 0⟩ 1 ∧
      mayTouch (flying bench (k 20) []) ⟨0, 0⟩ 0 ∧ absent (flying bench (k 20) []) (.g ⟨0, 0⟩ 20) ∧ ¬ absent (flying bench (k 9) []) (.g ⟨0, 0⟩ 9) ∧
      ((flying lazy (k 9) []).strand ⟨0, 0⟩).drowsy = true ∧ ¬ drowses (flying bench (k 9) []) (.g ⟨0, 0⟩ 9) ∧
      5 ∉ ((flying bench (k 9) []).tile 0).fills ∧ open_ (flying bench (k 9) []) false (.g ⟨0, 0⟩ 9) ∧ open_ (flying bench (k 0) []) true (.g ⟨0, 0⟩ 0) ∧
      ¬ open_ (flying owed (k 11) []) false (.g ⟨0, 0⟩ 11) ∧ (flying bench (k 9) []).regBad (.g ⟨0, 0⟩ 9) = false := by
  refine ⟨⟨rfl, by decide⟩, ?_, .inl (by decide), ⟨_, rfl, by decide⟩, ?_, by decide, ?_, by decide, .inr (by decide), .inl ⟨⟨0, 0⟩, .inl rfl⟩, ?_, by decide⟩
  · rintro (h | ⟨h, -⟩) <;> exact absurd h (by decide)
  · rintro ⟨w, h, hl⟩; cases h; exact absurd hl (by decide)
  · rintro ⟨w, h, hl⟩; cases h; exact absurd hl (by decide)
  · rintro (⟨w, h | h⟩ | h)
    · cases h
    · cases h
    · exact absurd h (by decide)

/-- RegistersArrive: a fill that has waited, of a register that is EMPTY and of one in a block that has been released. -/
theorem test_arrive_waiting :
    let s := fun (i : Nat) => { withShop (fun y => { y with fills := [5] }) with flights := [under (.rfill true (.g ⟨0, 0⟩ i) 7) []] }
    (∀ i ∈ [20, 9], (s i).flight 5 = some (under (.rfill true (.g ⟨0, 0⟩ i) 7) []) ∧ 5 ∈ ((s i).tile 0).fills) ∧
      absent (s 20) (.g ⟨0, 0⟩ 20) ∧ ¬ absent (s 9) (.g ⟨0, 0⟩ 9) ∧ open_ (s 9) false (.g ⟨0, 0⟩ 9) := by
  refine ⟨fun i h => ?_, ⟨_, rfl, by decide⟩, ?_, .inr (by decide)⟩
  · fin_cases h <;> exact ⟨rfl, by decide⟩
  · rintro ⟨w, h, hl⟩; cases h; exact absurd hl (by decide)

/-- RegistersArrive: fills behind an earlier one that may be written, and behind none; a read of a register in error. -/
theorem test_arrive_order :
    let a : Flight := { under (.rfill false (.g ⟨0, 0⟩ 9) 1) [] with id := 4 }
    let s (l : List Nat) : State := { withShop (fun y => { y with fills := l }) with flights := [a, under (.rfill true (.g ⟨0, 0⟩ 9) 7) []] }
    outrun (s [4]) ((s [4]).tile 0).fills (.g ⟨0, 0⟩ 9) ∧ outrun (s [4, 5]) (((s [4, 5]).tile 0).fills.takeWhile (fun i => i != 5)) (.g ⟨0, 0⟩ 9) ∧
      ¬ outrun (s []) ((s []).tile 0).fills (.g ⟨0, 0⟩ 9) ∧ ¬ outrun (s [5]) (((s [5]).tile 0).fills.takeWhile (fun i => i != 5)) (.g ⟨0, 0⟩ 9) ∧
      (withWorker (fun x => { x with g := [(11, { st := .full, bad := true })] })).regBad (.g ⟨0, 0⟩ 11) = true := by
  refine ⟨⟨4, by decide, _, false, 1, rfl, rfl, .inr (by decide)⟩, ⟨4, by decide, _, false, 1, rfl, rfl, .inr (by decide)⟩, ?_, ?_, by decide⟩ <;>
    (rintro ⟨i, h, -⟩; cases h)

/-- A stopped strand that nobody has touched for 1,024 cycles, and one whose banks wake. -/
theorem test_arrive_drowsy :
    let s := { bench with dies := [(0, { clock := 2048 })] }
    (s.strand ⟨0, 3⟩).running = false ∧ (s.strand ⟨0, 3⟩).drowsy = false ∧ (s.strand ⟨0, 3⟩).touched + 1024 ≤ s.now 0 ∧
      ((withWorker (fun x => { x with waking := some 9 })).strand ⟨0, 0⟩).waking ≠ none := by
  decide

/-- Port 3 has a path to package 1. -/
def linked1 : State := { bench with links := [(3, { up := true, peers := [1] })] }

/-- AccessArrives: accesses to HBM, a weight store, a package and the own tile; a starving request. -/
theorem test_arrive_access :
    (∀ op ∈ [AccOp.load true, .store 7, .amo 0 7, .cas 0 7], ∃ u, lands (flying bench (.access op (.hbm 0x1200000) 8 none false) []) 5
        (under (.access op (.hbm 0x1200000) 8 none false) []) ∧ inHbm (flying bench (.access op (.hbm 0x1200000) 8 none false) [])
          (under (.access op (.hbm 0x1200000) 8 none false) []) 0x1200000 8 op = some u) ∧
      lands (flying bench (.access (.load true) (.ws 0 0x88) 8 none false) []) 5 (under (.access (.load true) (.ws 0 0x88) 8 none false) []) ∧
      lands (flying linked1 (.access (.store 7) (.peer 1 8 8) 8 none false) []) 5 (under (.access (.store 7) (.peer 1 8 8) 8 none false) []) ∧
      lands (flying bench (.access (.store 7) (.tile 0 0x10000) 8 none false) []) 5 (under (.access (.store 7) (.tile 0 0x10000) 8 none false) []) ∧
      ¬ waitsAtBank (flying bench (.access (.store 7) (.tile 0 0x10000) 8 none false) []) 5 0 ∧
      ∃ r, r ∈ ((withShop (fun y => { y with bankQ := [{ flight := 5, unit := 0, refused := 16 }] })).tile 0).bankQ ∧ 16 ≤ r.refused ∧ r.bank ∉ (bench.tile 0).bankTaken := by
  refine ⟨fun op h => ?_, ⟨rfl, by decide⟩, ⟨rfl, by decide⟩, ⟨rfl, by decide⟩, ?_, _, List.mem_singleton.2 rfl, by decide⟩
  · fin_cases h <;> exact ⟨_, ⟨rfl, by decide⟩, rfl⟩
  · rintro ⟨r, hr, -⟩; cases hr

/-- AccessServed: a store that waits alone at its bank. -/
theorem test_arrive_served : ∃ (x : Flight) (op : AccOp) (rest : List Move),
    let s := { (withShop (fun y => { y with bankQ := [{ flight := 5, unit := 0x10008 / 64, refused := 2 }] })) with
      due := [.endCycle 0], flights := [under (.access (.stf 7) (.tile 0 0x10008) 8 none false) []] }
    let y := s.tile 0
    let pa := y.winPhys 0x10008
    s.due = .endCycle 0 :: rest ∧ s.flight 5 = some x ∧ x.kind = .access op (.tile 0 0x10008) 8 none false ∧
      y.bankQ = [{ flight := 5, unit := pa / 64, refused := 2 }] ∧ y.bankTaken = [] ∧ y.path = [] ∧ y.job = none ∧ y.fills = [] ∧
      s.banksFree 0 [bankOf pa] = true ∧ (∀ l b, y.strikes { pa := pa, n := 8, load := l, store := b } = none) ∧ pa % 8 = 0 :=
  ⟨_, _, _, rfl, rfl, rfl, rfl, rfl, rfl, rfl, rfl, by decide, by decide, by decide⟩

/-! ### Witnesses: tickets -/

/-- Entries of the ticket source of tile 0. -/
def booth (l : FMap Entry) : State := { bench with sources := [(8192, { entries := l })] }
/-- The owner of every entry here: crew 1 of tile 0. -/
def buyer : TOwner := ⟨0, true, 1⟩

theorem ofLe_lt : ∀ (n : Nat) (l : List Byte), l.length ≤ n → ofLe l < 256 ^ n
  | n, [], _ => by simp [ofLe]
  | n + 1, b :: l, h => by
    have := ofLe_lt n l (by simpa using h)
    have := b.isLt
    simp only [ofLe, Nat.pow_succ]; omega

theorem check_lt (s : State) (key bits : Nat) : s.ticketCheck key bits < 65536 :=
  ofLe_lt 2 _ (by simp [shake256, keccakSponge])

/-- The ticket of entry 3 at generation 1, of partition 1: it names its entry, and its check holds. -/
theorem booth_ticket (s : State) : let t := s.ticketOf 8192 3 1 1
    ticketSource t = 8192 ∧ ticketEntry t = 3 ∧ t.extractLsb' 22 16 = 1 ∧ t.toNat / 2 ^ 16 % 2 ^ 6 = 1 ∧
      t.toNat % 2 ^ 16 = s.ticketCheck (ticketSource t) (t.toNat / 2 ^ 16) := by
  have hc := check_lt s 8192 (ticketBits 8192 3 1 1)
  have hb : ticketBits 8192 3 1 1 = 140737500938305 := by decide
  have ht : (s.ticketOf 8192 3 1 1).toNat = 140737500938305 * 65536 + s.ticketCheck 8192 140737500938305 := by
    simp only [State.ticketOf, hb, BitVec.toNat_ofNat] at hc ⊢; omega
  rw [hb] at hc
  have hs : ticketSource (s.ticketOf 8192 3 1 1) = 8192 := by
    simp only [ticketSource, sourceKey, fieldNat, ht]; omega
  refine ⟨hs, ?_, ?_, ?_, ?_⟩
  · simp only [ticketEntry, fieldNat, ht]; omega
  · apply BitVec.eq_of_toNat_eq
    simp only [ht, BitVec.extractLsb'_toNat, Nat.shiftRight_eq_div_pow]; have : (1 : BitVec 16).toNat = 1 := rfl
    omega
  · rw [ht]; omega
  · rw [hs, ht]
    have : (140737500938305 * 65536 + s.ticketCheck 8192 140737500938305) / 2 ^ 16 = 140737500938305 := by omega
    rw [this]; omega

/-- A source answers OK, STALE, DOUBLE and FORGED. -/
theorem booth_answers (s : State) (x : Entry) : let u : State := { s with sources := [(8192, { entries := [(3, x)] })] }
    (x.gen = 1 → x.st = .fetching ∨ x.st = .ready → ticketSays u (u.ticketOf 8192 3 1 1) (some 1) = 0) ∧
      (x.st = .free → ticketSays u (u.ticketOf 8192 3 1 1) (some 1) = 1) ∧
      (x.gen = 1 → x.st = .redeeming → ticketSays u (u.ticketOf 8192 3 1 1) (some 1) = 2) ∧
      ticketSays u (u.ticketOf 8192 3 1 1) (some 2) = 3 := by
  intro u
  obtain ⟨hs, he, hg, hp, hc⟩ := booth_ticket u
  have hx : u.entry 8192 3 = x := rfl
  rw [hs] at hc
  refine ⟨fun h1 h2 => ?_, fun h1 => ?_, fun h1 h2 => ?_, ?_⟩ <;> simp only [ticketSays, hs, he, hx, hg, hp, hc]
  · rcases h2 with h2 | h2 <;> simp [h1, h2]
  · simp [h1]
  · simp [h1, h2]
  · simp

/-- TicketEvents: an LDT request finds an entry, finds none, or finds its budget used up; a fetch of bytes of a tile, one whose entry
is free again, and one that makes its entry READY. -/
theorem test_tickets_asked :
    let k := Kind.ldt 8192 (.hbm 0x1200000) 0x600000 1 false buyer 1 none
    let all : FMap Entry := (List.range 64).map (fun i => (i, { st := .ready }))
    (lands (flying bench k []) 5 (under k []) ∧ 5 ∉ ((flying bench k []).source 8192).waiting ∧ (flying bench k []).ticketFits none = true ∧
      ((flying bench k []).entry 8192 63).st = .free) ∧
    (lands (flying (booth all) k []) 5 (under k []) ∧ ∀ e, e < tableSize (8192 / 4096) → ((flying (booth all) k []).entry 8192 e).st ≠ .free) ∧
    (let s := { bench with nodes := [(256, { words := [(0, 0x40000027 ||| (1 <<< 41))] })] };
      (flying s k []).ticketFits (some 256) = false) ∧
    (let a := Kind.fetch 8192 3 1 (.tile 0 0x10000) 8 [none] 4;
      lands (flying bench a []) 5 (under a []) ∧ ¬ waitsAtBank (flying bench a []) 5 0) ∧
    let b := Kind.fetch 8192 3 1 (.hbm 0x1200000) 16 [some 7, some 8] 4
    let s := flying (booth [(3, { st := .fetching })]) b [];
    lands s 5 (under b []) ∧ s.targetBad (.hbm 0x1200000) 16 = false ∧ (s.entry 8192 3).gen = 1 ∧ (s.entry 8192 3).st = .fetching ∧
      ((flying bench b []).entry 8192 3).st = .free := by
  refine ⟨⟨⟨rfl, by decide⟩, by decide⟩, ⟨⟨rfl, by decide⟩, by decide⟩, by decide, ⟨⟨rfl, by decide⟩, ?_⟩, ⟨rfl, by decide⟩, by decide⟩
  rintro ⟨r, hr, -⟩; cases hr

/-- TicketEvents: a fetch whose words are read waits alone at the bank of its landing cell. -/
theorem test_tickets_stored : ∃ (x : Flight) (rest : List Move),
    let k := Kind.fetch 8192 3 1 (.tile 0 0x10000) 16 [some 7, some 8] 4
    let b : BankReq := { flight := 5, unit := 0x8180 / 64, refused := 2 }
    let s : State := { booth [(3, { st := .fetching })] with
      tiles := [(0, { shop with bankQ := [b] })], due := [.endCycle 0], flights := [under k []] }
    let y := s.tile 0
    s.due = .endCycle 0 :: rest ∧ s.flight 5 = some x ∧ x.kind = .fetch 8192 3 (s.entry 8192 3).gen (.tile 0 0x10000) 16 [some 7, some 8] 4 ∧
      (∀ w ∈ [some 7, some 8], w ≠ none) ∧ s.targetBad (.tile 0 0x10000) 16 = false ∧ (s.entry 8192 3).st = .fetching ∧
      (s.entry 8192 3).seen ≠ some ((s.die (sourceDie 8192)).clock / 2) ∧ y.bankQ = [b] ∧ y.bankTaken = [] ∧ y.path = [] ∧ y.job = none ∧
      y.fills = [] ∧ s.banksFree 0 [bankOf (64 * b.unit)] = true :=
  ⟨_, _, rfl, rfl, rfl, by decide, by decide, rfl, by decide, rfl, rfl, rfl, rfl, rfl, by decide⟩

/-- TicketEvents: tickets that are presented for a redeem, dropped and queried, with every answer. -/
theorem test_tickets_presented : ∀ st ∈ [TState.free, .fetching, .ready, .redeeming], ∀ p ∈ [1, 2], ∃ (s : State) (t : Word),
    let k := Kind.present t p none 6 false none
    let q := fun (drop : Bool) => Kind.query drop t (some p) none;
    lands (flying s k []) 5 (under k []) ∧ (∀ drop, lands (flying s (q drop) []) 5 (under (q drop) [])) ∧ (s.entry (ticketSource t) (ticketEntry t)).bad = false ∧
      (p = 1 → (s.entry (ticketSource t) (ticketEntry t)).st = st) ∧
      ticketSays s t (some p) = if p = 2 then 3 else match st with | .free => 1 | .redeeming => 2 | _ => 0 := by
  intro st hst p hp
  let s := booth [(3, { st := st })]
  refine ⟨s, s.ticketOf 8192 3 1 1, ⟨rfl, rfl⟩, fun _ => ⟨rfl, rfl⟩, ?_, fun _ => ?_, ?_⟩
  · rw [(booth_ticket s).1, (booth_ticket s).2.1]; rfl
  · rw [(booth_ticket s).1, (booth_ticket s).2.1]; rfl
  · obtain ⟨h0, h1, h2, h3⟩ := booth_answers bench { st := st }
    fin_cases hst <;> fin_cases hp <;> first | exact h3 | exact h0 rfl (.inl rfl) | exact h0 rfl (.inr rfl) | exact h1 rfl | exact h2 rfl rfl

/-- RedeemEvents: the answers to a quiet form and to a held one; a forged ticket; deliveries to a register and to bytes; a retirement
notice; a source above its mark. -/
theorem test_redeem_events :
    let fl (l : List Flight) : State := { withWorker (fun x => { x with hold := some { ticket := 64, redeem := 6, dest := some (.g ⟨0, 0⟩ 9), next := 0xC0, answer := none } }) with flights := l }
    let held (r : Option (Nat × Nat)) (d : Option (List Byte)) := Kind.redeem 64 8 r false d 0
    (∀ p q a, let y : Flight := { under (held p none) [.g ⟨0, 0⟩ 9] with id := 6 }
      let k := Kind.present 64 1 (some 256) 6 q (some a);
      lands (fl [under k [], y]) 5 (under k []) ∧ (under k []).live = true ∧ (fl [under k [], y]).flight 6 = some y ∧ y.live = true ∧ ((fl [under k [], y]).tile 0).place = some 256 ∧
        ∃ h, ((fl [under k [], y]).strand ⟨0, 0⟩).hold = some h ∧ h.redeem = 6) ∧
    (∀ r, let k := held r (some [1, 2, 3, 4, 5, 6, 7, 8]);
      lands (flying bench k [.g ⟨0, 0⟩ 9]) 5 (under k [.g ⟨0, 0⟩ 9]) ∧ ¬ waitsAtBank (flying bench k [.g ⟨0, 0⟩ 9]) 5 0) ∧
    (let s := flying (booth [(3, { st := .ready, owner := buyer }), (4, {}), (5, { st := .redeeming, owner := buyer })]) (.retire buyer 8192) [];
      lands s 5 (under (.retire buyer 8192) []) ∧ onceEach s 8192 ∧ noWaiters s) ∧
    let s : State := { booth ((List.range 57).map (fun i => (i, { st := .ready, owner := { buyer with idx := 5 }, arrived := i }))) with dies := [(0, { clock := 4000 })] };
    highWater 2 < ((s.source (sourceKey 2 0)).entries.filter (fun y => y.2.st != .free)).length ∧ (s.source (sourceKey 2 0)).reclaimed ≠ some 2000 ∧
      (s.orphan (sourceKey 2 0)).map (·.1) = some 0 := by
  refine ⟨fun p q a => ⟨⟨rfl, rfl⟩, rfl, rfl, rfl, rfl, _, rfl, rfl⟩, fun r => ⟨⟨rfl, rfl⟩, ?_⟩, ⟨⟨rfl, by decide⟩, ?_, ?_⟩, by decide⟩
  · rintro ⟨r, hr, -⟩; cases hr
  · show ([3, 4, 5] : List Nat).Nodup; decide
  · intro e he; cases he with
    | head => rfl
    | tail _ h => cases h

/-! ### Witnesses: items, crews, beacons -/

/-- ItemArrives: an item for port 0, a command for engine 0, a cancel, an endpoint without a port. -/
theorem test_item_arrives :
    let k := Kind.item 100 0 30 [{ header := 0, words := [9] }] 0 none
    let c : Cmd := { who := ⟨0, 0⟩, crew := some 1, system := true, part := 1, place := some 256, wsRead := false, image := [] }
    let p : Port := { queue := 100, consumer := true, items := [letter 3 7], ordinal := 4, outst := [{ ordinal := 2, strand := 0 }] }
    (lands (flying bench k []) 5 (under k []) ∧ endsAt (flying bench k []) 100 0 0 0 p ∧ p.breakAt = none ∧ lastCopy (flying bench k []) 5 100 30) ∧
    lands (flying bench (.command 109 c) []) 5 (under (.command 109 c) []) ∧ ((flying bench (.command 109 c) []).queue 109).eps = [(0, 0)] ∧
    (lands (flying bench (.cancel 100 0 3) []) 5 (under (.cancel 100 0 3) []) ∧ endsAt (flying bench (.cancel 100 0 3) []) 100 0 0 0 p) ∧
    let s := flying bench (.item 108 0 30 [{ header := 0, words := [9] }] 0 none) [];
    0 < s.toward 108 0 ∧ (s.queue 108).type ≠ 2 ∧ s.epLost 108 0 = true := by
  refine ⟨⟨⟨rfl, by decide⟩, ⟨by decide, by decide, rfl, rfl⟩, by decide, ?_⟩, ⟨rfl, by decide⟩, by decide, ⟨⟨rfl, by decide⟩, ⟨by decide, by decide, rfl, rfl⟩⟩, by decide⟩
  intro y hy hne
  obtain rfl := List.mem_singleton.1 hy
  exact absurd rfl hne

/-- ItemArrives: an endpoint whose buffer an error has struck. -/
theorem test_item_struck :
    let s := withShop (fun y => { y with poison := [(4032, true)] })
    ∃ t pn p, s.epPort 100 0 = some (t, pn, p) ∧ (s.badBuffer t pn p).isSome = true ∧ (s.queue 100).broken.getLsbD 0 = false :=
  ⟨_, _, _, rfl, by decide, by decide⟩

/-- ItemArrives: a cancel that reaches a translation unit and one that reaches an engine. -/
theorem test_cancel_buffers :
    let c : Cmd := { who := ⟨0, 0⟩, crew := some 1, system := true, part := 1, place := some 256, wsRead := false, image := [] }
    let s (q : Nat) : State := { flying bench (.cancel q 0 3) [] with
      queues := bench.queues ++ [(120, { type := 3, eps := [(512, 31)] })], engines := [(0, { buf := [c] })]
      dies := [(0, { xlateQueue := some 120, commands := [{ header := 3, words := [7] }] })] }
    (∀ q ∈ [120, 109], lands (s q) 5 (under (.cancel q 0 3) []) ∧ (s q).epPort q 0 = none ∧ (s q).waitsForResume q 0 = false) ∧
      (s 120).unitQueue 120 = some 0 ∧ (s 109).unitQueue 109 = none ∧ ((s 109).queue 109).type = 2 ∧ ((s 109).queue 109).eps = [(0, 0)] := by
  refine ⟨fun q h => ?_, by decide⟩
  fin_cases h <;> exact ⟨⟨rfl, by decide⟩, by decide⟩

/-- A strand whose park of 16 cycles outlasts its limit, alone and in a gang. -/
def late : State := withWorker (fun x => { x with waitLimit := 16, park := some { kind := 1, index := 11, cycles := 16 } })
def latePair : State := pair.modStrand ⟨1, 0⟩ (fun x => { x with waitLimit := 16, park := some { kind := 1, index := 11, cycles := 16 } })

/-- A unit in quarantine. -/
def shelved (cls unit : Nat) : State :=
  withShop (fun y => { y with quar := [⟨cls, unit⟩], scratch := bytesAt 0x7000 [0x1234], os := [(7, { state := .full })], ac := [(1, { state := .full })] })

/-- CrewEvents: a strand that is late and has a handler, and one that is not late; a gang with a late member, without one, and one that
a frozen tile holds; units in quarantine that are free, and one that a command uses. -/
theorem test_crew_events :
    ((late.tile 0).frozen = false ∧ (late.strand ⟨0, 0⟩).fused = false ∧ (late.strand ⟨0, 0⟩).matched = false ∧ lateCause bench ⟨0, 0⟩ = none ∧
      ∃ c, lateCause late ⟨0, 0⟩ = some c ∧ late.debugged ⟨0, 0⟩ c = false ∧ (late.strand ⟨0, 0⟩).crewId ≠ 0xF ∧
        (late.strand ⟨0, 0⟩).trapCause.getLsbD 7 = false ∧ late.trapVec ⟨0, 0⟩ ≠ 0) ∧
    ((latePair.strand ⟨0, 0⟩).fused = true ∧ 1 < (latePair.gang ⟨0, 0⟩).length ∧ latePair.gangHeld (latePair.gang ⟨0, 0⟩) = false ∧
      (latePair.gang ⟨0, 0⟩).filterMap (fun m => (lateCause latePair m).map (fun c => (m, c))) ≠ [] ∧
      (pair.gang ⟨0, 0⟩).filterMap (fun m => (lateCause pair m).map (fun c => (m, c))) = [] ∧
      (let s := latePair.modTile 1 (fun y => { y with frozen := true }); s.gangHeld (s.gang ⟨0, 0⟩) = true)) ∧
    (∀ e ∈ [(2, 7), (3, 7), (4, 1)], (⟨e.1, e.2⟩ : Quar) ∈ ((shelved e.1 e.2).tile 0).quar ∧ (shelved e.1 e.2).unitBusy 0 e.1 e.2 = false ∧
      ((shelved e.1 e.2).tile 0).waiters = []) ∧
    let s : State := { shelved 3 7 with engines := [(0, { run := some { cmd := { who := ⟨0, 0⟩, crew := some 1, system := true, part := 1, place := some 256, wsRead := false, image := [] }, slot := some 7 } })] };
    s.unitBusy 0 3 7 = true := by
  refine ⟨⟨by decide, by decide, by decide, by decide, _, rfl, by decide, by decide, by decide, by decide⟩, ?_, by decide, by decide⟩
  decide

/-- A beacon of a kind with sequence 2 for a region. -/
def beacon (kind rgn : Nat) : Kind := .item 100 0 30 [beaconItem { kind := kind, seq := 2, rgn := rgn }] 0 none

/-- BeaconEvents: beacons for a region that the placement is in, and for one that it is not in; a forced cut at a tile; a beacon that
a frozen tile sends, to an OPEN queue and to one that is not. -/
theorem test_beacon_events :
    let p : Port := { queue := 100, consumer := true, items := [letter 3 7], ordinal := 4, outst := [{ ordinal := 2, strand := 0 }] }
    let c : TileCut := { kind := 2, seq := 2, rgn := 256 }
    (∀ rgn ∈ [256, 768], lands (flying bench (beacon 2 rgn) []) 5 (under (beacon 2 rgn) []) ∧ endsAt (flying bench (beacon 2 rgn) []) 100 0 0 0 p ∧
      lastCopy (flying bench (beacon 2 rgn) []) 5 100 30) ∧
    ((beaconItem c).beacon = true ∧ p.breakSeq ≠ some (beaconItem c).cut.seq) ∧
    (bench.tile 0).place = some 256 ∧ bench.inside 256 256 = true ∧ bench.inside 256 768 = false ∧
    (let s := { bench with queues := [(100, { type := 0, part := 1, loopBack := true, eps := [(0, 0)] })] };
     (s.queue 100).loopBack = true ∧ s.inside 256 256 = true) ∧
    (let s := withShop (fun y => { y with cutDue := some c });
     (s.tile 0).cut = none ∧ (s.tile 0).place ≠ none ∧ (s.tile 0).strands.any (fun e => e.2.running && e.2.hold.isSome) = false ∧ (s.tile 0).cutDue = some c) ∧
    let s := withShop (fun y => { y with beaconDue := [(8, c)] });
    (s.tile 0).beaconDue.find? (fun e => e.1 == 8) = some (8, c) ∧ s.port 0 8 = some { queue := 108, consumer := false } ∧ (s.queue 108).state = 1 ∧
      s.admits ⟨0, 8⟩ 108 1 = true := by
  refine ⟨fun rgn h => ?_, by decide, by decide, by decide, by decide, by decide, by decide, by decide⟩
  fin_cases h <;> refine ⟨⟨rfl, by decide⟩, ⟨by decide, by decide, rfl, rfl⟩, ?_⟩ <;> (intro y hy hne; obtain rfl := List.mem_singleton.1 hy; exact absurd rfl hne)

/-! ### Witnesses: engines -/

/-- A command of strand 0 in crew 1: one element of 64 bytes, with its operation, kinds and words 1 to 3. -/
def cmd (op src dst w1 w2 w3 : Nat) (system : Bool) : Cmd :=
  { who := ⟨0, 0⟩, crew := some 1, system := system, part := 1, place := some 256, wsRead := false
    image := [BitVec.ofNat 64 (op + 8 * src + 64 * dst + 512 * 63), BitVec.ofNat 64 w1, BitVec.ofNat 64 w2, BitVec.ofNat 64 w3] }

/-- Engine 0 with a command in its buffer; engine 0 with a command at a phase. -/
def asked (c : Cmd) : State := { bench with engines := [(0, { buf := [c] })] }
def at0 (c : Cmd) (p : EPhase) : State := { bench with engines := [(0, { run := some { cmd := c, phase := p } })] }

/-- CommandProceeds: a command that fills a page of the window, one whose operation does not exist, and those with an operand slot as
their destination: an unknown name, a slot that is FULL and sticky, one that is not EMPTY, one with another format, and an EMPTY one. -/
theorem test_command_pops :
    let slot (o : OSlot) (c : Cmd) : State := { asked c with tiles := [(0, { shop with os := [(4, o)] })] }
    let os (n fmt first : Nat) := cmd 1 0 3 0 (n + 2 ^ 19 * fmt + 2 ^ 23 * first) 7 false
    popsCommand (asked (cmd 1 0 1 0 0x80000 7 false)) 0 (cmd 1 0 1 0 0x80000 7 false) [] ∧ (asked (cmd 1 0 1 0 0x80000 7 false)).malformed (cmd 1 0 1 0 0x80000 7 false) = false ∧
      (asked (cmd 7 0 1 0 0x80000 7 false)).malformed (cmd 7 0 1 0 0x80000 7 false) = true ∧
      (os 1 3 1).dkind = 3 ∧ (asked (os 1 3 1)).malformed (os 1 3 1) = false ∧ (asked (os 5 3 1)).cmdSlot (os 5 3 1) = none ∧
      (asked (os 1 3 1)).cmdSlot (os 1 3 1) = some 4 ∧
      (let o := ((slot { state := .full, sticky := true } (os 1 3 1)).tile 0).oslot 4; o.state = .full ∧ o.sticky = true) ∧
      (let o := ((slot { state := .full } (os 1 3 1)).tile 0).oslot 4; o.state ≠ .empty ∧ o.sticky = false) ∧
      (let o := ((slot { state := .filling, format := some 1 } (os 1 3 0)).tile 0).oslot 4; o.state = .filling ∧ o.format = some 1) ∧
      (((asked (os 1 3 1)).tile 0).oslot 4).state = .empty ∧ (((asked (os 1 3 1)).tile 0).oslot 4).format = none := by
  refine ⟨⟨by decide, by decide⟩, by decide⟩

def Error (h : Hinder) : Except Hinder Access → Prop
  | .error x => x = h
  | .ok _ => False

/-- CommandProceeds: an element that is performed; a read of another program's weights, a refreshing bank, a queue that is FAULTED, one
without room, a package without a path. -/
theorem test_element :
    (let c := cmd 1 0 0 0 0x600000 7 false
     let s : State := { at0 c .run with dies := [(0, { xcache := [{ part := 1, page := 3, large := false, entry := 0x1200007 }] })] }
     atPhase s 0 { cmd := c } .run ∧ ∃ a, s.accessOf 0 { cmd := c } = .ok a ∧ s.hindered 0 { cmd := c } a = none) ∧
    (let c := cmd 0 2 1 0 0x80000 0 false
     atPhase (at0 c .run) 0 { cmd := c } .run ∧ (at0 c .run).accessOf 0 { cmd := c } = .error (.denied 0)) ∧
    (let c := cmd 0 2 1 0 0x80000 0 true
     ∃ a, (at0 c .run).accessOf 0 { cmd := c } = .ok a ∧ (at0 c .run).hindered 0 { cmd := c } a = some (.refresh 0 0)) ∧
    (let c := cmd 2 1 4 0x80000 108 0 false
     let s : State := { at0 c .run with queues := [(108, { type := 0, part := 1, state := 2, eps := [(16, 3)] })] }
     ∃ a, s.accessOf 0 { cmd := c } = .ok a ∧ s.hindered 0 { cmd := c } a = some .queue) ∧
    (let c := cmd 2 1 4 0x80000 108 0 false
     let s : State := { at0 c .run with queues := [(108, { type := 0, part := 1, cap := 0, eps := [(16, 3)] })] }
     ∃ a, s.accessOf 0 { cmd := c } = .ok a ∧ s.hindered 0 { cmd := c } a = some .room) ∧
    let c := cmd 1 0 0 0 0x600000 7 false
    let s : State := { at0 c .run with dies := [(0, { xcache := [{ part := 1, page := 3, large := false, entry := 0x1200037 }] })] }
    ∃ a, s.accessOf 0 { cmd := c } = .ok a ∧ s.hindered 0 { cmd := c } a = some (.path 1 0x600000) :=
  ⟨⟨⟨rfl, rfl⟩, _, rfl, rfl⟩, ⟨⟨rfl, rfl⟩, rfl⟩, ⟨_, rfl, rfl⟩, ⟨_, rfl, rfl⟩, ⟨_, rfl, rfl⟩, _, rfl, rfl⟩

/-- A plain command without a ring, and one with ring 0 and tag 5. -/
def bareCmd : Cmd := cmd 1 0 1 0 0x80000 7 false
def ringCmd : Cmd := { bareCmd with image := [BitVec.ofNat 64 (1 + 64 + 512 * 63 + 2 ^ 36 + 5 * 2 ^ 37), 0, 0x80000, 7] }

/-- CommandEnds: the end of a command with a ring and without; a ring slot that is empty and one that is filled; a phase that is
complete; a strip that lands, and one that is denied. -/
theorem test_command_ends :
    atPhase (at0 ringCmd (.ended 0 0)) 0 { cmd := ringCmd, phase := .ended 0 0 } (.ended 0 0) ∧ ringCmd.ring = some 0 ∧ bareCmd.ring = none ∧
    (FMap.find ((at0 ringCmd (.ended 0 0)).tile 0).rings 0).isSome = true ∧
    atPhase (at0 bareCmd (.ended 4 9)) 0 { cmd := bareCmd, phase := .ended 4 9 } (.ended 4 9) ∧
    (let g : Ring := { size := 4, slots := [(0, 99)], wr := 1 }
     FMap.find ((at0 ringCmd (.ring 1)).tile 0).rings 0 = some g ∧ FMap.find g.slots g.wr = none) ∧
    (let g : Ring := { size := 1, slots := [(0, 99)] }
     FMap.find (({ at0 ringCmd (.ring 1) with tiles := [(0, { shop with rings := [(0, g)] })] } : State).tile 0).rings 0 = some g ∧ FMap.find g.slots g.wr ≠ none) ∧
    let s := withShop (fun y => { y with bars := [(3, { arrivals := 1 })] });
    ((s.tile 0).bar 3).arrivals = ((s.tile 0).bar 3).expected ∧ ((s.tile 0).bar 3).bytes = 0 := by
  refine ⟨⟨by decide, rfl⟩, by decide, by decide, by decide, ⟨by decide, rfl⟩, by decide⟩

/-- A stream of v3 whose first strip is under way, from an address. -/
def stripped (va : Nat) : State :=
  { flying (withWorker (fun x => { x with streams := [(3, { base := va, levels := [(4, 128)], asked := 1 })] }))
      (.strip 3 va (List.replicate 16 (some 7))) [] with
    dies := [(0, { xcache := [{ part := 1, page := 3, large := false, entry := 0x1200007 }] })] }

theorem test_strip_lands :
    let x := fun (va : Nat) => under (.strip 3 va (List.replicate 16 (some 7))) []
    (∀ va ∈ [0x600000, 0x0110000030000000], lands (stripped va) 5 (x va) ∧ (FMap.find ((stripped va).strand ⟨0, 0⟩).streams 3).isSome = true ∧
      ∀ y ∈ (stripped va).flights, y.id < 5 → y.owner = ⟨0, 0⟩ → ∀ a l, y.kind ≠ .strip 3 a l) ∧
    ((∀ t, (stripped 0x600000).stripTarget (x 0x600000) 0x600000 = .ok t → (∀ d off, t = .ws d off → (stripped 0x600000).refreshing d (off / 128 % 32) = false) ∧
        (∀ p a v, t ≠ .peer p a v) ∧ ∀ i < 16, (stripped 0x600000).targetBad (t.plus (8 * i)) 8 = false) ∧
      ∃ t, (stripped 0x600000).stripTarget (x 0x600000) 0x600000 = .ok t) ∧
    ∃ c, (stripped 0x0110000030000000).stripTarget (x 0x0110000030000000) 0x0110000030000000 = .bad c ∧ c.code ≠ .unregistered := by
  have ht : (stripped 0x600000).stripTarget (under (.strip 3 0x600000 (List.replicate 16 (some 7))) []) 0x600000 = .ok (.hbm 0x1200000) := rfl
  refine ⟨fun va h => ?_, ⟨fun t e => ?_, _, ht⟩, ⟨_, rfl, by decide⟩⟩
  · fin_cases h <;> refine ⟨⟨rfl, by decide⟩, by decide, ?_⟩ <;>
      (intro y hy hl; obtain rfl := List.mem_singleton.1 hy; exact absurd hl (by decide))
  · rw [ht] at e; cases e
    exact ⟨fun d off h => (by cases h), fun p a v h => (by cases h), by decide⟩

/-- CommandProceeds: an element whose source bytes wait for their banks, and one that waits for an earlier write of the command; writes
that reach HBM and a tile. -/
theorem test_element_order :
    (let c := cmd 0 1 1 0x80000 0x80040 0 false
     ∃ a l, (at0 c .run).accessOf 0 { cmd := c } = .ok a ∧ (at0 c .run).hindered 0 { cmd := c } a = some (.bank l)) ∧
    (let c := cmd 1 0 1 0 0x80000 7 false
     let s : State := { at0 c .run with flights := [under (.ewrite 0 c { spot := .pad 0 0x14000, n := 64, addr := 0x80000 } [1]) []] }
     ∃ a, s.accessOf 0 { cmd := c } = .ok a ∧ s.hindered 0 { cmd := c } a = some .order) ∧
    ∀ p ∈ [Spot.hbm 0x1200000, .pad 0 0x10000], ∃ x rest,
      let k := Kind.ewrite 0 bareCmd { spot := p, n := 64, addr := 0x80000 } [1]
      let s : State := { bench with due := [.land 5], flights := [under k []] }
      let u := { s with due := rest }
      s.due = .land 5 :: rest ∧ s.flight 5 = some x ∧ u.arrived x = true ∧ u.queued x = false ∧ x.kind = k := by
  refine ⟨⟨_, _, rfl, rfl⟩, ⟨_, rfl, rfl⟩, fun p h => ?_⟩
  fin_cases h <;> exact ⟨_, _, rfl, rfl, by decide, by decide, rfl⟩

/-- CommandEnds: a command with rel that owes a write, and one that owes none; an engine whose banks have served it; a strip that is
read from a tile. -/
theorem test_command_waits :
    (let c : Cmd := { bareCmd with image := [BitVec.ofNat 64 (1 + 64 + 512 * 63 + 2 ^ 28), 0, 0x80000, 7] }
     let s : State := { at0 c (.ended 0 0) with flights := [under (.ewrite 0 c { spot := .pad 0 0x14000, n := 64, addr := 0x80000 } [1]) []] }
     s.owesWrites 0 c = true ∧ (at0 c (.ended 0 0)).owesWrites 0 c = false) ∧
    (at0 bareCmd (.ended 0 0)).owesWrites 0 bareCmd = false ∧ (at0 ringCmd (.ended 0 0)).owesWrites 0 ringCmd = false ∧
    (∀ y ∈ (at0 bareCmd .bank).tiles, ∀ q ∈ y.2.bankQ, q.engine ≠ some 0) ∧
    (let va := 2 ^ 56 + 0x10000
     let k := Kind.strip 3 va (List.replicate 16 none)
     let s : State := { stripped va with flights := [under k []] }
     lands s 5 (under k []) ∧ s.stripTarget (under k []) va = .ok (.tile 0 0x10000) ∧ (∀ i < 16, s.targetBad (.tile 0 (0x10000 + 8 * i)) 8 = false) ∧
       ¬ waitsAtBank s 5 0) := by
  refine ⟨by decide, by decide, by decide, fun y h q hq => ?_, ⟨rfl, by decide⟩, rfl, by decide, ?_⟩
  · obtain rfl := List.mem_singleton.1 h; cases hq
  · rintro ⟨r, hr, -⟩; cases hr

/-- CommandEnds: a command with rel at DEVICE scope that has a circuit to sweep, one at TILE scope, and one that owes its barrier bytes. -/
theorem test_command_sweeps :
    let c (scope : Nat) : Cmd := { bareCmd with image := [BitVec.ofNat 64 (1 + 64 + 512 * 63 + 2 ^ 28 + 2 ^ 29 * scope), 0, 0x80000, 7] }
    let r (scope : Nat) (l : List (Nat × Nat × Nat)) : Run := { cmd := c scope, phase := .ended 0 0, circuits := l }
    let s (scope : Nat) (l : List (Nat × Nat × Nat)) : State := { bench with engines := [(0, { run := some (r scope l) })] }
    (∀ scope ∈ [2, 4], ((c scope).word 0).getLsbD 28 = true ∧ bitsOf ((c scope).word 0) 29 3 = scope) ∧
      (∀ l ∈ [[], [(0, 1, 0)]], ∀ scope ∈ [2, 4], atPhase (s scope l) 0 (r scope l) (.ended 0 0) ∧ (s scope l).owesLanding 0 (c scope) = false) ∧
      ({ r 4 [] with owed := 64 } : Run).owed ≠ 0 := by
  refine ⟨by decide, fun l h k hk => ?_, by decide⟩
  fin_cases h <;> fin_cases hk <;> exact ⟨⟨by decide, rfl⟩, by decide⟩

/-- CommandEnds: engines that wait for a slot, a page, room, a bank of a weight store, a package, the matrix path, a bank of a tile. -/
theorem test_engine_waits :
    let os := cmd 1 0 3 0 (1 + 2 ^ 19 * 3 + 2 ^ 23) 7 false
    let q := cmd 2 1 4 0x80000 108 0 false
    (at0 os (.slot 4)).cmdSlot os = some 4 ∧ (at0 os (.slot 5)).cmdSlot os ≠ some 5 ∧ (((at0 os (.slot 4)).tile 0).oslot 4).state = .empty ∧
      (∀ m ∈ ((at0 os (.page 3 0x600000)).die 0).merge, m.isFor 1 3 = true → 0 ∉ m.engines) ∧
      (at0 q .room).admits (engineWho 0) 108 1 = true ∧ (at0 os (.refresh 0 5)).refreshing 0 5 = false ∧ ((at0 os (.refresh 0 5)).die 0).refreshWait = [] ∧
      linked1.hasPath 1 = true ∧ bench.hasPath 1 = false ∧ 0 + 40000 ≤ (({ bench with dies := [(0, { clock := 40000 })] } : State).die 0).clock ∧
      (at0 os .path).tile 0 = shop ∧ shop.path = [] := by
  refine ⟨by decide, by decide, by decide, fun m h => (by cases h), by decide, by decide, by decide, by decide, by decide, by decide, rfl, rfl⟩

/-! ### Witnesses: the array -/

/-- A tile with requests on the matrix path, a job, slots and accumulators. -/
def mill (f : Tile → Tile) : State := withShop (fun y => f { y with arrayOn := true })

/-- A request of 64 bytes that has moved m of them. -/
def req (m : Nat) (k : PathKind) : PathReq := { id := 7, who := ⟨0, 0⟩, crew := 1, issued := 0, total := 64, moved := m, kind := k }

/-- A rule over slots 3 and 4 with 2 firings left, and one on its last firing. -/
def ruleOn (p : Pair) (count : Nat) (x : Ext) : Accum :=
  { state := .opened, rule := { active := true, pair := p, a := some 3, b := some 4, m := 2, n := 2, kf := 2, gscale := 0x3F800000, count := count, ext := x } }

/-- MatrixEvents: requests of the path start and complete. -/
theorem test_path :
    (∃ r rest, ((mill (fun y => { y with path := [req 0 (.fill 3 0 false true)] })).tile 0).path = r :: rest ∧ r.started = false ∧ r.issued ≤ 0) ∧
    (∃ r rest, ((mill (fun y => { y with path := [req 64 (.fill 3 0 false true)] })).tile 0).path = r :: rest ∧ r.total ≤ r.moved ∧ r.kind = .fill 3 0 false true) ∧
    (∃ r rest, ((mill (fun y => { y with path := [req 64 (.write 0 3 0 false (List.replicate 64 1))] })).tile 0).path = r :: rest ∧ r.total ≤ r.moved ∧
      r.kind = .write 0 3 0 false (List.replicate 64 1)) ∧
    let s := { mill (fun y => { y with path := [req 64 (.drain 1 0 2 2 64)] }) with dies := [(0, { clock := 9 })] };
    ∃ r rest, (s.tile 0).path = r :: rest ∧ r.kind = .drain 1 0 2 2 64 ∧ r.total ≤ r.moved ∧ r.issued < s.now 0 :=
  ⟨⟨_, _, rfl, rfl, by decide⟩, ⟨_, _, rfl, by decide, rfl⟩, ⟨_, _, rfl, by decide, rfl⟩, _, _, rfl, rfl, by decide, by decide⟩

/-- MatrixEvents: a rule that fires, and one that writes back its feedback. -/
theorem test_array_starts :
    (let s := mill (fun y => { y with os := [(3, { state := .full, format := some 0 }), (4, { state := .full, format := some 0 })], ac := [(1, ruleOn .e4e4 0 {})] })
     (s.tile 0).job = none ∧ (s.tile 0).frozen = false ∧ (s.tile 0).arrayOn = true ∧ firesOn (s.tile 0) 1 [3, 4] ∧
      (∀ i q, i < 4 → ¬ writesBack (s.tile 0) i q) ∧
      ∀ i q, i < 4 → (i + 3 - (s.tile 0).lastFired % 4) % 4 < (1 + 3 - (s.tile 0).lastFired % 4) % 4 → ¬ firesOn (s.tile 0) i q) ∧
    let s := mill (fun y => { y with ac := [(1, { ruleOn .e4e4 2 { fb := some (some 5, 0) } with rule := { (ruleOn .e4e4 2 { fb := some (some 5, 0) }).rule with waiting := true } })] });
    writesBack (s.tile 0) 1 5 ∧ ∀ i q, i < 1 → ¬ writesBack (s.tile 0) i q := by
  refine ⟨⟨by decide, by decide, by decide, ⟨by decide, by decide, by decide, by decide, by decide, rfl, by decide⟩, ?_, ?_⟩, ⟨0, rfl, by decide, by decide, by decide⟩, ?_⟩
  · rintro i q hi ⟨f, hf, -⟩
    interval_cases i <;> cases hf
  · rintro i q hi hl ⟨ha, -⟩
    interval_cases i
    · exact absurd ha (by decide)
    · exact absurd hl (by decide)
    · exact absurd ha (by decide)
    · exact absurd ha (by decide)
  · rintro i q hi ⟨f, hf, -⟩
    interval_cases i; cases hf

/-- MatrixEvents: firings that end in an FP and an INT rule, with and without feedback; the end of a feedback write; the parts of an
MRED. -/
theorem test_array_ends :
    (∀ p ∈ [Pair.e4e4, .i8i8], ∀ c ∈ [0, 1], ∀ x ∈ [({} : Ext), { fb := some (some 5, 0) }, { tagsOn := true, tags := 0xAA }],
      let s := mill (fun y => { y with
        job := some { feedback := false, acc := 1, slots := [3, 4, 5], left := 0 }
        os := [(3, { state := .full, format := some 0, sticky := true }), (4, { state := .full, format := some 0 })], ac := [(1, ruleOn p c x)] });
      (s.tile 0).firePoison { feedback := false, acc := 1, slots := [3, 4, 5], left := 0 } = none) ∧
    (∀ w ∈ [true, false], let s := mill (fun y => { y with
        job := some { feedback := true, acc := 1, slots := [5], left := 0 }
        ac := [(1, { ruleOn .e4e4 2 { fb := some (some 5, 0) } with rule := { (ruleOn .e4e4 2 { fb := some (some 5, 0) }).rule with waiting := w } })] });
      (s.tile 0).job = some { feedback := true, acc := 1, slots := [5], left := 0 } ∧ ((s.tile 0).accum 1).rule.active = true ∧
        ((s.tile 0).accum 1).rule.waiting = w) ∧
    lands (flying bench (.mredPart 0 1) []) 5 (under (.mredPart 0 1) []) ∧ lands (flying bench (.mredSum 0 1 [(0, 7)]) []) 5 (under (.mredSum 0 1 [(0, 7)]) []) := by
  refine ⟨by decide, by decide, ⟨rfl, by decide⟩, rfl, by decide⟩

/-- MatrixEvents: a cycle in which the array may begin work, and one behind the end of a feedback write; a frozen tile; an accumulator
whose region and words are without error. -/
theorem test_array_free :
    (let s := mill (fun y => { y with frozen := true })
     (s.tile 0).job = none ∧ (s.tcyc 0 + colOf 0) % 8 < 8 - (s.die (dieOf 0)).pwrStep.toNat ∧ (s.tile 0).frozen = true ∧
       ∀ i q, i < 4 → ¬ writesBack (s.tile 0) i q) ∧
    (let s := mill (fun y => { y with backEnded := some 0 }); (s.tile 0).backEnded = some (s.now 0)) ∧
    (∀ w ∈ [true, false], (Accum.backBad { ruleOn .e4e4 2 { fb := some (some 5, 0) } with
      rule := { (ruleOn .e4e4 2 { fb := some (some 5, 0) }).rule with waiting := w } }) = false) ∧
    ∀ e ∈ ((bench.tile 0).accum 1).poison, e.2 = false := by
  refine ⟨⟨by decide, Nat.mod_lt _ (by norm_num), by decide, ?_⟩, by decide, by decide, by decide⟩
  rintro i q hi ⟨f, hf, -⟩
  interval_cases i <;> cases hf

/-! ### Witnesses: placements and cuts -/

/-- A record of layout units, predecessors and entries, with an image of one line whose strand 0 starts at 0. -/
def record (us : List LayUnit) (preds : List Nat) (es : List TileEntry) : PlaceRecord :=
  { image := List.replicate 8 0 ++ [1, 0, 0, 0, 1] ++ List.replicate 179 0 ++ (List.range 64).map (BitVec.ofNat 8), system := false, wsRead := false, notify := none
    units := us, preds := preds, entries := es }

/-- A placement at 768 of partition 1 in a state, under a root whose budgets leave room. -/
def placed (state : Nat) (n : Node) (l : FMap Tile) : State :=
  { State.reset with
    tiles := l
    nodes := [(0, { words := [(4, 0xFFFFFFFFFF)] }), (768, { n with words := [(0, BitVec.ofNat 64 (0x23 + state * 2 ^ 29))] }),
      (1024, { words := [(0, 0xA0000023)] }), (1280, { words := [(0, 0xC0000023)] })]
    passDue := true }

def oneTile : LayUnit := { col := 0, row := 0, width := 1, height := 1 }
def plainEntry : TileEntry := { params := [7], ports := [(0, 100, false)], rings := [4] }

/-- PassPlaces: one that fits; one for which no position is free; one behind a placement that is not DONE, and one behind a FAILED
one. -/
theorem test_pass :
    (let s := placed 0 { record := some (record [oneTile] [1024] [plainEntry]) } []
     s.inState 0 = [768] ∧ s.recordOf 768 = some (record [oneTile] [1024] [plainEntry]) ∧ (∀ p ∈ [1024], s.placeState p = 5) ∧
      s.fits (s.rcb 768 1).toNat (s.dueOf 768 (record [oneTile] [1024] [plainEntry])) = true ∧ firstPosition s 768 [0]) ∧
    (let r := record [oneTile, { oneTile with col := 15, row := 25 }] [] [plainEntry, plainEntry]
     let s := placed 0 { record := some r } [(0, { place := some 256 }), (512, { place := some 256 }), (1024, { place := some 256 }), (1536, { place := some 256 })]
     (s.positions 768).length = 4 ∧ s.fits (s.rcb 768 1).toNat (s.dueOf 768 r) = true ∧
      ∀ ts ∈ s.positions 768, ∃ t ∈ ts, (s.tile t).place ≠ none ∨ s.reserved t = true) ∧
    (placed 0 { record := some (record [oneTile] [768] [plainEntry]) } []).placeState 768 = 0 ∧
    (placed 0 { record := some (record [oneTile] [1280] [plainEntry]) } []).placeState 1280 = 6 := by
  refine ⟨⟨by decide, by decide, by decide, by decide, [], _, List.eq_cons_of_mem_head? (by decide +kernel), by decide, fun us h => by cases h⟩, by decide +kernel⟩

/-- PlacementEnds: a placement that is loaded, one whose attachment its tile cannot take, one that was pre-empted; one that has
drained. -/
theorem test_placement_ends :
    let s (n : Node) : State := { placed 1 n [(1, { place := some 768, part := 1 })] with queues := [(100, { type := 0, part := 1, eps := [(1, 0)] })] }
    let r := record [oneTile] [] [plainEntry]
    let bad := record [oneTile] [] [{ plainEntry with rings := [513] }]
    ((s { record := some r, tiles := [1] }).placeState 768 = 1 ∧ (∀ e ∈ [1].zip r.entries, (s { record := some r, tiles := [1] }).entryOk e.1 e.2 = true) ∧
      (parseImage r.image).data = none ∧ (parseImage r.image).lines.length = 1 ∧ FMap.find (parseImage r.image).starts 0 = some 0) ∧
    (∃ e ∈ [1].zip bad.entries, (s { record := some bad, tiles := [1] }).entryOk e.1 e.2 = false) ∧
    (∃ n, FMap.find (s { record := some r, tiles := [1], resume := true, context := [(1, {})] }).nodes 768 = some n ∧ n.resume = true) ∧
    let u := placed 4 { record := some r, tiles := [1], cause := some 7 } [(1, { place := some 768, part := 1 })];
    u.placeState 768 = 4 ∧ bitsOf (u.rcb 768 0) 0 2 = 3 ∧ (∀ t ∈ [1], u.tileCommands t = false) ∧ u.notifyReady 768 = true := by
  refine ⟨by decide +kernel, ⟨_, List.mem_singleton.2 rfl, by decide +kernel⟩, ⟨_, rfl, rfl⟩, by decide +kernel⟩

/-- CutActs: a region whose placement is FROZEN, with a cut of each kind; one that quiesces, and one whose tile still owes a write. -/
theorem test_cut_acts :
    let s (k : Nat) (a : Bool) : State := { placed 3 { record := some (record [oneTile] [] [plainEntry]), tiles := [1], cut := some { kind := k, seq := 2, acting := a } }
      [(1, { place := some 768, part := 1, frozen := true })] with passDue := false }
    (∀ k ∈ [1, 2, 3, 4], cutReached (s k false) 768 k { kind := k, seq := 2 }) ∧
    (∀ k ∈ [2, 4], (s k true).cutOf 768 = some { kind := k, seq := 2, acting := true } ∧ ∀ t ∈ (s k true).liveTiles 768, (s k true).quiet t = true) ∧
    let u : State := { s 2 true with tiles := [(1, { place := some 768, part := 1, frozen := true, c := [(0, { now := { st := .pending } })] })] };
    ∃ t ∈ u.liveTiles 768, u.quiet t = false := by
  refine ⟨fun k h => ?_, by decide +kernel, ⟨1, by decide +kernel⟩⟩
  fin_cases h <;> exact ⟨by decide +kernel, rfl, rfl, rfl, by decide +kernel⟩

/-- PlacementEnds: a placement with read rights whose die's weight store a command writes, and one whose die no command writes. -/
theorem test_placement_waits :
    let r := { record [oneTile] [] [plainEntry] with wsRead := true }
    let s : State := { placed 1 { record := some r, tiles := [1] } [(1, { place := some 768, part := 1 })] with
      engines := [(0, { run := some { cmd := cmd 1 0 2 0 0 7 true } })] }
    s.placeState 768 = 1 ∧ r.wsRead = true ∧ (∃ t ∈ [1], s.wsFilling (dieOf t) = true) ∧ ∀ t ∈ [1], { s with engines := [] }.wsFilling (dieOf t) = false := by
  decide +kernel

/-- CutActs: a replacement without a data segment, and one whose segment no budget allows; a node whose save area nobody has set. -/
theorem test_cut_replaces :
    let im := (record [oneTile] [] []).image
    let s : State := { placed 3 { record := some (record [oneTile] [] [plainEntry]), tiles := [1] } [(1, { place := some 768, part := 1, frozen := true })] with passDue := false }
    (∃ u, s.replaceAll [{ tile := 1, image := im, params := [7] }] = some u) ∧
      s.replaceAll [{ tile := 1, image := im.set 6 1 |>.set 34 0xFF |>.set 35 0xFF, params := [7] }] = none ∧ s.rcb (s.setter 5 7 768) 2 = 0 :=
  ⟨⟨_, rfl⟩, by decide +kernel, by decide +kernel⟩

/-! ### Witnesses: translation and services -/

/-- Die 0 with a command at its translation unit, a cached page, and a queue for replies. -/
def unit (w0 : Nat) : State :=
  { withShop (fun y => { y with tlb := [{ part := 1, page := 3, large := false, entry := 0x1200007 }, { part := 1, page := 4, large := false, entry := 0x1400007 }] }) with
    nodes := [(0, { words := [(0, 1)] })]
    dies := [(0, { commands := [{ header := 0, words := [BitVec.ofNat 64 w0, 0x600000, 108] }]
                   xcache := [{ part := 1, page := 3, large := false, entry := 0x1200007 }, { part := 1, page := 4, large := false, entry := 0x1400007 }] })] }

theorem test_translation :
    (∀ code ∈ [0, 1, 2, 3, 4, 15], commandFirst (unit (code + 16)) 0 { header := 0, words := [BitVec.ofNat 64 (code + 16), 0x600000, 108] } [] ∧
      bitsOf ({ header := 0, words := [BitVec.ofNat 64 (code + 16), 0x600000, 108] } : Item).words.head! 0 4 = code) ∧
    (unit 0).partNode 0 = some 0 ∧ bench.partNode 0 = none ∧
    (let k := Kind.invalidated 0 1 0x600000 108
     (flying bench k []).flight 5 = some (under k []) ∧ ((flying bench k []).queue 108).state = 1 ∧ (flying bench k []).admits ⟨0, 9⟩ 108 1 = true ∧
      ¬ ∃ y ∈ (flying bench k []).flights, y.id < 5) ∧
    let a : Flight := { under (.access (.store 7) (.hbm 0x1200000) 8 none false) [] with id := 4 };
    a.id < 5 ∧ a.kind.touches = some (.hbm 0x1200000, 8) := by
  refine ⟨fun code h => by fin_cases h <;> exact ⟨rfl, by decide⟩, by decide, by decide, ⟨rfl, by decide, by decide, ?_⟩, by decide, rfl⟩
  rintro ⟨y, hy, hl⟩
  obtain rfl := List.mem_singleton.1 hy
  exact absurd hl (by decide)

/-- Tile 2 of die 0 runs the allocator, whose port 4 holds a request. -/
def shelf (ws : List Word) : State :=
  { bench with
    tiles := [(0, shop), (2, { ports := [(4, { queue := 110, consumer := true, items := [{ ordinal := 6, item := { header := 0, words := ws } }] })] })]
    queues := bench.queues ++ [(110, { type := 3, eps := [(2, 4)] })]
    nodes := [(0, { words := [(16, 0x8002)] })]
    dies := [(0, { allocQueue := some 110 })] }

/-- ServiceAnswers: ALLOC and FREE, with arguments that are valid and not; a service that is lost, with a stored request and without. -/
theorem test_services :
    (∀ ws ∈ [[(0x1B1 : Word), 0x1000, 12, 9], [0x1B1, 0, 12, 9], [0x1B2, 0x600000, 0, 9]],
      asksAllocator (shelf ws) 0 110 { ordinal := 6, item := { header := 0, words := ws } } 4 ∧ ((shelf ws).queue (bitsOf (ws.getD 0 0) 2 16)).state = 1 ∧
        (shelf ws).admits ⟨2, 0⟩ (bitsOf (ws.getD 0 0) 2 16) 1 = true ∧ (((shelf ws).serviceTake 2 4).queue (bitsOf (ws.getD 0 0) 2 16)).state = 1 ∧
        ∀ h ∈ (shelf ws).handles, h.part ≠ 1) ∧
    let s (t : Tile) : State := { shelf [0x1B0] with tiles := [(2, { t with poison := [(0, true)] })] }
    (s { ports := [(4, { queue := 110, consumer := true, items := [{ ordinal := 6, item := { header := 0, words := [0x1B0] } }] })] }).serviceBroken 2 = true ∧
      (s { ports := [(4, { queue := 110, consumer := true, items := [{ ordinal := 6, item := { header := 0, words := [0x1B0] } }] })] }).rpcPorts 2 = [4] ∧
      (s {}).serviceBroken 2 = true ∧ (s {}).rpcPorts 2 = [] := by
  refine ⟨fun ws h => ?_, by decide⟩
  fin_cases h <;> exact ⟨⟨_, _, rfl, rfl, rfl⟩, by decide, by decide, by decide, fun h hh => by cases hh⟩

/-- TranslationEvents: the reply of an INVALIDATE with an access before it, without one, and to a queue that is full or not OPEN. -/
theorem test_invalidated :
    let s := flying bench (.invalidated 0 1 0x600000 108) []
    let a : Flight := { under (.access (.store 7) (.hbm 0x1200000) 8 none false) [] with id := 4 }
    let k (q : Nat) : State := { s with queues := [(q, { type := 0, part := 1, cap := 0, window := 8, eps := [(16, 3)] })] }
    (a ∈ ({ s with flights := s.flights ++ [a] } : State).flights ∧ a.order < 5 ∧ a.die = 0 ∧ ∃ t n, a.kind.touches = some (t, n) ∧ ∃ p, t = .hbm p) ∧
    (¬ ∃ y ∈ s.flights, y.order < 5) ∧ (s.queue 108).state = 1 ∧ s.admits ⟨0, 9⟩ 108 1 = true ∧
    ((k 108).queue 108).state = 1 ∧ (k 108).admits ⟨0, 9⟩ 108 1 = false ∧ ((k 100).queue 108).state ≠ 1 := by
  refine ⟨⟨by decide, by decide, rfl, _, _, rfl, _, rfl⟩, ?_, by decide, by decide, by decide, by decide, by decide⟩
  rintro ⟨y, hy, hl⟩
  obtain rfl := List.mem_singleton.1 hy
  exact absurd hl (by decide)

/-- ServiceAnswers: an operation that does not exist; an ALLOC whose answer finds its queue OPEN; a pager that is lost. -/
theorem test_services_more :
    (∀ w ∈ [(0x1B0 : Word), 0x1B3], asksAllocator (shelf [w, 0, 0, 9]) 0 110 { ordinal := 6, item := { header := 0, words := [w, 0, 0, 9] } } 4 ∧
      (bitsOf w 0 2 = 0 ∨ bitsOf w 0 2 = 3) ∧ (((shelf [w, 0, 0, 9]).serviceTake 2 4).queue 108).state = 1) ∧
    (let u := ((shelf [0x1B1, 0x1000, 12, 9]).alloc 1 [0x1B1, 0x1000, 12, 9]).2.2
     (u.queue 108).state = 1 ∧ ((u.serviceTake 2 4).queue 108).state = 1) ∧
    let s : State := { bench with nodes := [(0, { words := [(16, 0x8001)] })], tiles := [(1, { poison := [(0, true)] })] };
    s.serviceBroken 1 = true ∧ s.rpcPorts 1 = [] := by
  refine ⟨fun w h => ?_, by decide +kernel, by decide⟩
  fin_cases h <;> exact ⟨⟨_, _, rfl, rfl, rfl⟩, by decide, by decide⟩

/-! ### Witnesses: the host -/

/-- A key, a session 5 under it, and a frame of that session: its header and payload with their tag. -/
def hostKey : List Byte := zeros 32
def guest (part : Nat) : Session := { part := part, keyIn := hostKey, keyOut := hostKey, versions := [(0, (1, 0)), (2, (1, 0)), (3, (1, 0)), (4, (1, 0))], tile := 3 }
def headOf (op part : Byte) (l : List Byte) : List Byte :=
  [1, 0, op, 0, part, 0, 0, 0, 5, 0, 0, 0, 9, 0, 0, 0, 0, 0, 0, 0, BitVec.ofNat 8 l.length, BitVec.ofNat 8 (l.length / 256), 0, 0, 0, 0, 0, 0, 0, 0, 0, 0] ++ l
def sealedBy (op part : Byte) (l tag : List Byte) : Frame := { bytes := headOf op part l ++ tag }
def frame (op part : Byte) (l : List Byte) : Frame := sealedBy op part l (rpcTag hostKey (headOf op part l))

theorem squeeze_length : ∀ n a, (keccakSqueeze n a).length = 136 * n
  | 0, _ => rfl
  | n + 1, a => by simp [keccakSqueeze, keccakOut, keccakRate, squeeze_length n]; omega

theorem tag_length (k l : List Byte) : (rpcTag k l).length = 32 := by
  simp [rpcTag, kmac256, cshake256, keccakSponge, squeeze_length, keccakRate]

/-- What the device reads in such a frame. -/
theorem sealed_reads (op part : Byte) (l tag : List Byte) (h : l.length ≤ 8192) (hp : part.toNat < 64) (ht : tag.length = 32) :
    let f := sealedBy op part l tag
    f.op = op.toNat ∧ f.part = part.toNat ∧ f.session = 5 ∧ f.seq = 9 ∧ f.payload = l ∧ f.tag = tag ∧
      f.bytes.take (32 + f.length) = headOf op part l ∧ f.wellFormed = true := by
  intro f
  have hl : f.length = l.length := by
    show (BitVec.ofNat 8 l.length).toNat + 256 * ((BitVec.ofNat 8 (l.length / 256)).toNat + 256 * 0) = _
    simp only [BitVec.toNat_ofNat]; omega
  have hh : (headOf op part l).length = 32 + l.length := by simp [headOf]; omega
  have hpart : f.part = part.toNat := by show part.toNat + 256 * 0 = _; omega
  refine ⟨by show op.toNat + 256 * 0 = _; omega, hpart, by show ofLe [5, 0, 0, 0] = 5; decide, by show ofLe [9, 0, 0, 0, 0, 0, 0, 0] = 9; decide, ?_, ?_, ?_, ?_⟩
  · rw [Frame.payload, hl]
    show (l ++ tag).take l.length = l
    simp
  · rw [Frame.tag, hl, ← hh]; show (headOf op part l ++ tag).drop _ = _; simp
  · rw [hl, ← hh]; show (headOf op part l ++ tag).take _ = _; simp
  · have hb : f.bytes.length = 64 + l.length := by show (headOf op part l ++ tag).length = _; rw [List.length_append, hh, ht]; omega
    have h3 : leAt f.bytes 3 1 = 0 := by show ofLe [0] = 0; decide
    have h5 : zeroAt f.bytes 5 8 = true := by show ([0, 0, 0] : List Byte).all (fun b => b == 0) = true; decide
    have h22 : zeroAt f.bytes 22 32 = true := by show ([0, 0, 0, 0, 0, 0, 0, 0, 0, 0] : List Byte).all (fun b => b == 0) = true; decide
    simp only [Frame.wellFormed, hb, hl, hpart, h3, h5, h22]
    simp [hp, h]

theorem frame_reads (op part : Byte) (l : List Byte) (h : l.length ≤ 8192) (hp : part.toNat < 64) : let f := frame op part l
    f.op = op.toNat ∧ f.part = part.toNat ∧ f.session = 5 ∧ f.seq = 9 ∧ f.payload = l ∧ f.tag = rpcTag hostKey (headOf op part l) ∧
      f.bytes.take (32 + f.length) = headOf op part l ∧ f.wellFormed = true :=
  sealed_reads op part l _ h hp (tag_length _ _)

/-- A state with one session; the device takes its frames. -/
def opened (s : State) (k : Session) : State := { s with sessions := [(5, k)], hostKeys := [(1, List.replicate 56 7)] }

theorem opened_takes (s : State) (k : Session) (op part : Byte) (l : List Byte) (h : l.length ≤ 8192) (hp : part.toNat < 64) (ho : op ≠ 1)
    (hk : k.keyIn = hostKey) : (opened s k).takes (frame op part l) = true := by
  obtain ⟨h1, h2, h3, h4, h5, h6, h7, h8⟩ := frame_reads op part l h hp
  have : ¬ op.toNat = 1 := fun e => ho (BitVec.eq_of_toNat_eq e)
  simp only [State.takes, h8, h1, h3, h6, h7, if_neg this]
  show (true && (rpcTag hostKey (headOf op part l) == rpcTag k.keyIn (headOf op part l))) = true
  rw [hk]; simp

theorem opened_admits (s : State) (k : Session) (op part : Byte) (l : List Byte)
    (h : (decide (l.length ≤ 8192) && decide (part.toNat < 64) && decide (op ≠ 1) && decide (k.keyIn = hostKey) && decide (k.replies = []) &&
      decide (k.highest = none)) = true) : admitted (opened s k) (frame op part l) k := by
  simp only [Bool.and_eq_true, decide_eq_true_eq] at h
  obtain ⟨⟨⟨⟨⟨h1, h2⟩, h3⟩, h4⟩, h5⟩, h6⟩ := h
  refine ⟨opened_takes s k op part l h1 h2 h3 h4, ?_, fun e he => ?_, fun x hx => ?_⟩
  · rw [(frame_reads op part l h1 h2).2.2.1]; rfl
  · rw [h5] at he; cases he
  · rw [h6] at hx; cases hx

theorem opened_asks (s : State) (k : Session) (op part : Byte) (l : List Byte) (sel : Option Nat)
    (h : (decide (l.length ≤ 8192) && decide (part.toNat < 64) && decide (op ≠ 1) && decide (k.keyIn = hostKey) && decide (k.replies = []) &&
      decide (k.highest = none)) = true) (hp : k.part = part.toNat) (hs : sel.all (fun n => leAt l 0 1 == n) = true) :
    asks (opened s k) (frame op part l) k op.toNat sel := by
  have hb := h
  simp only [Bool.and_eq_true, decide_eq_true_eq] at hb
  obtain ⟨h1, h2, h3, h4, h5, h6, h7, h8⟩ := frame_reads op part l hb.1.1.1.1.1 hb.1.1.1.1.2
  refine ⟨opened_admits s k op part l h, by rw [hp, h2], h1, fun n hn => ?_⟩
  rw [Frame.selector, h5]; rw [hn] at hs; simpa using hs

/-- A number as n bytes of a payload. -/
abbrev le (x n : Nat) : List Byte := leBytes x n
/-- Bytes of device memory. -/
def stored8 (a : Nat) (l : List Byte) : FMap Byte := (l.zipIdx.map (fun e => (a + e.2, e.1))).filter (fun e => e.2 ≠ 0)

/-- A placement record of one tile under node 512, and its image. -/
def recordBytes : List Byte := le 512 8 ++ le 0x601000 8 ++ le 256 4 ++ le 0 4 ++ [1, 0, 1, 0]
def imageBytes : List Byte := [0x53, 0x59, 0x52, 0x58, 1, 0, 0, 0, 1, 0, 0, 0, 1] ++ zeros 179 ++ [0x40]

/-- A replacement record of one entry for tile 0. -/
def replaceBytes : List Byte := le 1 8 ++ le 0 8 ++ le 0x601000 8 ++ le 256 8
/-- The small machine with a region tree, and with tables of partition 1: page 3 is mapped and holds the record, page 4 is lazy. -/
def house : State :=
  { bench with
    nodes := [(0, { words := [(4, 0xFFFFFFFFFF), (5, 0x10000000000), (15, 0x100000)] }), (256, { words := [(0, 0x40000027), (1, 512)], tiles := [0] }),
      (512, { words := [(0, 0x25)] })]
    hbm := bytesAt 0x100008 [0x200001] ++ bytesAt 0x200000 [0x400001] ++ bytesAt 0x400000 [0x600001] ++ bytesAt 0x600018 [0x1200005, 8] ++
      stored8 0x1200000 recordBytes ++ stored8 0x1201000 imageBytes ++ stored8 0x1202000 replaceBytes
    registered := [{ part := 1, base := 0x600000, len := 0x400000, lazy := false, write := true }] }

/-- A session of partition p at the house, and the state once a frame of it is accepted. -/
def asking (p : Byte) : State := opened house (guest p.toNat)
def after (p op : Byte) (l : List Byte) : State := noticed (asking p) (frame op p l) (guest p.toNat)

theorem house_asks (p op : Byte) (l : List Byte) (sel : Option Nat)
    (h : (decide (l.length ≤ 8192) && decide (p.toNat < 64) && decide (op ≠ 1) && sel.all (fun n => leAt l 0 1 == n)) = true) :
    asks (asking p) (frame op p l) (guest p.toNat) op.toNat sel := by
  simp only [Bool.and_eq_true, decide_eq_true_eq] at h
  exact opened_asks _ _ _ _ _ _ (by simp [h.1.1.1, h.1.1.2, guest]; exact h.1.2) rfl h.2

/-- FramesTaken: a frame of an unknown session; a repeat; a sequence far below; another partition's session; an unknown operation. -/
theorem test_frames :
    (∀ f : Frame, f.bytes = [] → bench.takes f = false) ∧
    (let f := frame 6 1 (le 0x600000 8 ++ le 8 8)
     (opened house { guest 1 with replies := [(9, some [1])], highest := some 9 }).takes f = true ∧
      (opened house { guest 1 with highest := some 90 }).takes f = true ∧ (9 : Nat) + 64 < 90 ∧ f.seq = 9 ∧ f.session = 5) ∧
    (let f := frame 6 1 []
     admitted (opened house (guest 2)) f (guest 2) ∧ (guest 2).part ≠ f.part) ∧
    let f := frame 15 1 [];
    admitted (asking 1) f (guest 1) ∧ (guest 1).part = f.part ∧ f.unknown = true := by
  have hr := frame_reads 6 1 (le 0x600000 8 ++ le 8 8) (by decide) (by decide)
  refine ⟨fun f h => by simp [State.takes, Frame.wellFormed, h], ⟨?_, ?_, by decide, hr.2.2.2.1, hr.2.2.1⟩, ⟨opened_admits _ _ _ _ _ (by decide), ?_⟩,
    opened_admits _ _ _ _ _ (by decide), ?_⟩
  · exact opened_takes _ _ _ _ _ (by decide) (by decide) (by decide) rfl
  · exact opened_takes _ _ _ _ _ (by decide) (by decide) (by decide) rfl
  · rw [(frame_reads 6 1 [] (by decide) (by decide)).2.1]; decide
  · obtain ⟨h1, h2, -⟩ := frame_reads 15 1 [] (by decide) (by decide)
    exact ⟨h2.symm, by simp only [Frame.unknown, h1]; decide⟩

/-- A HELLO of partition 1 with a key and version entries. -/
def hello (key : Byte) (n : Byte) (entries : List Byte) : Frame :=
  { bytes := [1, 0, 1, 0, 1, 0, 0, 0, 0, 0, 0, 0, 9, 0, 0, 0, 0, 0, 0, 0, 68] ++ zeros 11 ++ (List.replicate 56 key ++ [n] ++ zeros 7 ++ entries) ++ zeros 32 }

theorem choose_some (x : Nat × Nat) (b : List (Nat × Nat)) (h : ∃ y ∈ b, y.1 = x.1) : (chooseVersion [x] b).isSome = true := by
  have keep : ∀ (l : List (Nat × Nat)) (o : Option (Nat × Nat)), o.isSome = true → (l.foldl (fun (o : Option (Nat × Nat)) x =>
      match o with | none => some x | some y => if y.1 < x.1 then some x else some y) o).isSome = true := by
    intro l
    induction l with
    | nil => intro o h; exact h
    | cons a r ih =>
      intro o ho
      cases o with
      | none => cases ho
      | some y => exact ih _ (by dsimp only; split <;> rfl)
  have key : ∀ l : List (Nat × Nat), l ≠ [] → (l.foldl (fun (o : Option (Nat × Nat)) x =>
      match o with | none => some x | some y => if y.1 < x.1 then some x else some y) none).isSome = true := by
    intro l hl
    cases l with
    | nil => exact absurd rfl hl
    | cons a r => exact keep r _ rfl
  refine key _ ?_
  obtain ⟨y, hy, hyx⟩ := h
  intro e
  have hm : (x.1, min x.2 y.2) ∈ [x].flatMap (fun x => (b.filter (fun y => y.1 == x.1)).map (fun y => (x.1, min x.2 y.2))) := by
    simp only [List.flatMap_cons, List.flatMap_nil, List.append_nil, List.mem_map, List.mem_filter]
    exact ⟨y, ⟨hy, by simpa using hyx⟩, rfl⟩
  rw [e] at hm
  cases hm

/-- HelloAnswered: a payload without entries; a key that is not listed; no version of RPC; and, where the device lists a major for RPC,
a HELLO that lists it too. -/
theorem test_hello :
    (let f := hello 7 0 [0, 1, 0, 0]
     (asking 1).takes f = true ∧ f.op = 1 ∧ helloOk f.payload = false) ∧
    (let f := hello 8 1 [2, 1, 0, 0]
     (asking 1).takes f = true ∧ f.op = 1 ∧ helloOk f.payload = true ∧ (f.part, f.payload.take 56) ∉ (asking 1).hostKeys) ∧
    (let f := hello 7 1 [2, 1, 0, 0]
     (asking 1).takes f = true ∧ f.op = 1 ∧ helloOk f.payload = true ∧ (f.part, f.payload.take 56) ∈ (asking 1).hostKeys ∧
      FMap.find (helloVersions f.payload) 0 = none) ∧
    ∀ major minor : Byte, (∃ y ∈ Config.versions 0, y.1 = major.toNat) →
      let f := hello 7 1 [0, major, minor, 0];
      (asking 1).takes f = true ∧ f.op = 1 ∧ helloOk f.payload = true ∧ (f.part, f.payload.take 56) ∈ (asking 1).hostKeys ∧
        (FMap.find (helloVersions f.payload) 0).isSome = true := by
  refine ⟨by decide, by decide, by decide, fun major minor h => ?_⟩
  have hp : (hello 7 1 [0, major, minor, 0]).payload = List.replicate 56 7 ++ [1] ++ zeros 7 ++ [0, major, minor, 0] := rfl
  refine ⟨rfl, rfl, ?_, ?_, ?_⟩
  · rw [hp]; rfl
  · rw [hp]; show _ ∈ [(1, List.replicate 56 7)]; exact List.mem_singleton.2 rfl
  · rw [hp]
    have he : ((helloEntries (List.replicate 56 7 ++ [1] ++ zeros 7 ++ [0, major, minor, 0])).filter (fun e => e.1 == 0)).map (fun e => e.2) =
        [(major.toNat, minor.toNat)] := by
      have : helloEntries (List.replicate 56 7 ++ [1] ++ zeros 7 ++ [0, major, minor, 0]) = [(0, major.toNat + 256 * 0, minor.toNat + 256 * 0)] := rfl
      rw [this]; simp
    obtain ⟨v, hv⟩ := Option.isSome_iff_exists.1 (choose_some (major.toNat, minor.toNat) (deviceVersions 0) h)
    simp only [helloVersions, List.filterMap_cons, he, hv]
    rfl

/-- MemoryRequests: REGISTER of an overlapping, a too large, a lazy and a badly laid out range. -/
theorem test_register :
    let l (base len flags : Nat) := le base 8 ++ le len 8 ++ le flags 8
    (∀ e ∈ [(0x600000, 0x200000, 3), (0xA00000, 0x20000000000, 3), (0xA00000, 0x200000, 3)], asks (asking 1) (frame 2 1 (l e.1 e.2.1 e.2.2)) (guest 1) 2 none) ∧
    (let f := frame 2 1 (l 0x600000 0x200000 3); wholeRange (field f 0 8) (field f 8 8) ∧ (asking 1).partNode f.part = some 512 ∧ (asking 1).overlaps f.part (field f 0 8) (field f 8 8) = true) ∧
    (let f := frame 2 1 (l 0xA00000 0x20000000000 3); (asking 1).overlaps f.part (field f 0 8) (field f 8 8) = false ∧
      (after 1 2 (l 0xA00000 0x20000000000 3)).withinHbm 512 (field f 8 8) = false) ∧
    (let f := frame 2 1 (l 0xA00000 0x200000 3); f.payload.length = 24 ∧ field f 16 1 < 4 ∧ zeroAt f.payload 17 24 = true ∧ (asking 1).overlaps f.part (field f 0 8) (field f 8 8) = false ∧
      (after 1 2 (l 0xA00000 0x200000 3)).withinHbm 512 (field f 8 8) = true ∧ (field f 16 1).testBit 0 = true ∧
      ((after 1 2 (l 0xA00000 0x200000 3)).lazyRange f.part (pageList (field f 0 8) (field f 8 8))).isSome = true) ∧
    asks (asking 1) (frame 2 1 (le 7 8)) (guest 1) 2 none ∧ (frame 2 1 (le 7 8)).payload.length ≠ 24 := by
  refine ⟨fun e h => ?_, ⟨⟨?_, ?_, ?_, ?_⟩, ?_, ?_⟩, ⟨?_, ?_⟩, ⟨?_, ?_, ?_, ?_, ?_, ?_, ?_⟩, house_asks _ _ _ none (by decide), by decide +kernel⟩
  · fin_cases h <;> exact house_asks 1 2 _ none (by decide)
  all_goals decide +kernel

/-- MemoryRequests: UNREGISTER of a range that is registered and of one that is not. -/
theorem test_unregister :
    (∀ base ∈ [0x600000, 0xC00000], let f := frame 3 1 (le base 8 ++ le 0x200000 8)
      asks (asking 1) f (guest 1) 3 none ∧ f.payload.length = 16 ∧ (field f 0 8 = base ∧ field f 8 8 = 0x200000)) ∧
    (after 1 3 (le 0x600000 8 ++ le 0x200000 8)).allRegistered 1 0x600000 0x200000 = true ∧
    (after 1 3 (le 0xC00000 8 ++ le 0x200000 8)).allRegistered 1 0xC00000 0x200000 = false := by
  refine ⟨fun base h => ?_, by decide +kernel, by decide +kernel⟩
  fin_cases h <;> exact ⟨house_asks 1 3 _ none (by decide), by decide +kernel, by decide +kernel⟩

/-- MemoryRequests: READ and WRITE of bytes that are mapped, unregistered and lazy. -/
theorem test_read_write :
    (∀ va ∈ [0x600000, 0xC00000, 0x7FFFFC], asks (asking 1) (frame 6 1 (le va 8 ++ le 8 8)) (guest 1) 6 none ∧ asks (asking 1) (frame 7 1 (le va 8 ++ le 7 8)) (guest 1) 7 none) ∧
    (let f := frame 6 1 (le 0x600000 8 ++ le 8 8)
     f.payload.length = 16 ∧ field f 8 4 = 8 ∧ zeroAt f.payload 12 16 = true ∧ f.part = 1) ∧
    (frame 7 1 (le 0x600000 8 ++ le 7 8)).payload.length = 16 ∧
    (∀ kind ∈ [0, 1], (house.hostSpan (request (frame 6 1 [])) 0x600000 kind 8 = .ok ((List.range 8).map (fun i => .hbm (0x1200000 + i)))) ∧
      house.hostSpan (request (frame 6 1 [])) 0xC00000 kind 8 = .status 4 ∧ house.hostSpan (request (frame 6 1 [])) 0x7FFFFC kind 8 = .lazy 4) := by
  refine ⟨fun va h => ?_, by decide +kernel, by decide +kernel, by decide +kernel⟩
  fin_cases h <;> exact ⟨house_asks 1 6 _ none (by decide), house_asks 1 7 _ none (by decide)⟩

/-- The house with a placement that is DONE, one in whose region a cut is under way, and one that is QUEUED in the region 2048. -/
def estate : State :=
  { house with
    nodes := [(0, { words := [(4, 0xFFFFFFFFFF), (5, 0x10000000000), (15, 0x100000)] }), (256, { words := [(0, 0x40000027), (1, 512), (7, 50)], tiles := [0] }),
      (512, { words := [(0, 0x25)] }), (768, { words := [(0, 0xA0000027), (1, 512)] }),
      (1024, { words := [(0, 0xA0000027), (1, 512)], cut := some { kind := 3, seq := 2 } })] }

theorem estate_asks (p op : Byte) (l : List Byte) (sel : Option Nat)
    (h : (decide (l.length ≤ 8192) && decide (p.toNat < 64) && decide (op ≠ 1) && sel.all (fun n => leAt l 0 1 == n)) = true) :
    asks (opened estate (guest p.toNat)) (frame op p l) (guest p.toNat) op.toNat sel := by
  simp only [Bool.and_eq_true, decide_eq_true_eq] at h
  exact opened_asks _ _ _ _ _ _ (by simp [h.1.1.1, h.1.1.2, guest]; exact h.1.2) rfl h.2

/-- MemoryRequests: bytes of a tile window; a malformed entry; a window access that has come to its tile. -/
theorem test_host_window :
    (∀ kind ∈ [0, 1], house.hostSpan (request (frame 6 1 [])) (2 ^ 56 + 0x10000) kind 8 = .ok ((List.range 8).map (fun i => .tile 0 (0x10000 + i)))) ∧
    (asks (asking 1) (frame 6 1 (le (2 ^ 56 + 0x10000) 8 ++ le 8 8)) (guest 1) 6 none ∧
      asks (asking 1) (frame 7 1 (le (2 ^ 56 + 0x10000) 8 ++ le 7 8)) (guest 1) 7 none) ∧
    ({ house with hbm := house.hbm ++ bytesAt 0x600028 [0x100001] }.malformedAt 1 0xA00000 8 = some (0xA00000, 0x600028)) ∧
    ∃ x rest, let s : State := { bench with due := [.land 5], flights := [under (.host 40 0 0x10000) []] }
      s.due = .land 5 :: rest ∧ s.flight 5 = some x ∧ ({ s with due := rest } : State).arrived x = true ∧
        ({ s with due := rest } : State).queued x = false ∧ x.kind = .host 40 0 0x10000 :=
  ⟨by decide +kernel, ⟨house_asks 1 6 _ none (by decide), house_asks 1 7 _ none (by decide)⟩, by decide +kernel,
    _, _, rfl, rfl, by decide, by decide, rfl⟩

/-- FramesTaken: a repeat that is not yet answered, and a sequence that has been accepted. -/
theorem test_frames_repeated :
    (∀ k ∈ [{ guest 1 with replies := [(9, none)], highest := some 9 }, { guest 1 with highest := some 40, accepted := [9] }],
      (opened house k).takes (frame 6 1 []) = true) ∧ (frame 6 1 []).seq = 9 := by
  refine ⟨fun k h => ?_, (frame_reads 6 1 [] (by decide) (by decide)).2.2.2.1⟩
  fin_cases h <;> exact opened_takes _ _ _ _ _ (by decide) (by decide) (by decide) rfl

/-- The estate once a frame of a session of partition p is accepted. -/
def then_ (p op : Byte) (l : List Byte) : State := noticed (opened estate (guest p.toNat)) (frame op p l) (guest p.toNat)

/-- PlaceRequests: PLACE without the image format; of a record that is valid, that is not, that lies at no address of a record, or in a
lazy page. -/
theorem test_place :
    (let k : Session := { guest 1 with versions := [] }
     asks (opened estate k) (frame 4 1 (le 0x600000 8)) k 4 none ∧ FMap.find k.versions 2 = none) ∧
    ∀ va ∈ [0x600000, 0x600040, 0x600001, 0x800000], asks (opened estate (guest 1)) (frame 4 1 (le va 8)) (guest 1) 4 none := by
  refine ⟨⟨opened_asks _ _ _ _ _ none (by decide) rfl rfl, by decide⟩, fun va h => ?_⟩
  fin_cases h <;> exact estate_asks 1 4 _ none (by decide)

/-- No control block and no descriptor stands in the estate's frames. -/
theorem estate_byte (s : State) (hn : s.nodes = estate.nodes) (hd : s.descHome = []) (hh : s.hbm = estate.hbm) (pa : Nat) :
    s.hbmByte pa = FMap.get 0 estate.hbm pa := by
  rw [← hh]
  refine hbmByte_frame s pa ?_
  simp only [State.blockAt, hn, hd]
  rfl

theorem page_three (s : State) (hn : s.nodes = estate.nodes) (hd : s.descHome = []) (hh : s.hbm = estate.hbm) (hp : s.hbmPoison = []) (hk : s.pkg = 0) (va : Nat)
    (h : va / 2 ^ 21 = 3) : s.reach 1 va = .at (0x1200000 + va % 2 ^ 21) := by
  have h1 : va / 2 ^ 45 % 2048 = 0 := by omega
  have h2 : va / 2 ^ 33 % 4096 = 0 := by omega
  have e : ∀ t i, s.tableEntry t i = estate.tableEntry t i := fun t i => by
    simp only [State.tableEntry, State.hbmRead, estate_byte s hn hd hh, estate_byte estate rfl rfl rfl]
  have b : ∀ a n, s.hbmBad a n = false := fun a n => by simp [State.hbmBad, hp, FMap.get]
  have r : (s.rcb 0 15).toNat = 0x100000 := by simp only [State.rcb, hn]; decide
  have t0 : estate.tableEntry 0x100000 1 = 0x200001 := by decide +kernel
  have t1 : estate.tableEntry 0x200000 0 = 0x400001 := by decide +kernel
  have t2 : estate.tableEntry 0x400000 0 = 0x600001 := by decide +kernel
  have t3 : estate.tableEntry 0x600000 0 = 0 := by decide +kernel
  have t4 : estate.tableEntry 0x600000 3 = 0x1200005 := by decide +kernel
  have n0 : nextTable 0x200001 = 0x200000 := by decide
  have n1 : nextTable 0x400001 = 0x400000 := by decide
  have n2 : nextTable 0x600001 = 0x600000 := by decide
  have hw : s.walk 1 va = .page { part := 1, page := 3, large := false, entry := 0x1200005 } := by
    simp only [State.walk, State.walkPointer, State.walkLeaf, b, e, r, h1, h2, t0, n0, t1, n1, t2, n2, t3, t4, hk, h]
    rfl
  simp only [State.reach, hw, if_neg (show ¬ va ≥ 2 ^ 56 by omega)]
  show Reach.at (9 * 2 ^ 21 + va % 2 ^ 21) = _
  norm_num

/-- The bytes of the house's page 3 from an offset on. -/
def houseBytes (off n : Nat) : List Byte := (List.range n).map (fun i => FMap.get 0 estate.hbm (0x1200000 + off + i))

theorem read_page_three (s : State) (hn : s.nodes = estate.nodes) (hd : s.descHome = []) (hh : s.hbm = estate.hbm) (hp : s.hbmPoison = []) (hk : s.pkg = 0) (off : Nat) :
    ∀ n, off + n ≤ 2 ^ 21 → s.devRead 1 (0x600000 + off) n = .ok (houseBytes off n)
  | 0, _ => rfl
  | n + 1, h => by
    have hr : s.reach 1 (0x600000 + off + n) = .at (0x1200000 + off + n) := by
      rw [page_three s hn hd hh hp hk _ (by omega)]
      congr 1; omega
    simp only [State.devRead, read_page_three s hn hd hh hp hk off n (by omega), hr, estate_byte s hn hd hh, houseBytes, List.range_succ, List.map_append, List.map_cons, List.map_nil]

/-- A record and its image, read byte by byte. -/
theorem record_read (s : State) (va n : Nat) (h l im : List Byte) (m : Nat) (iv : Nat) (h0 : va % 64 = 0) (d0 : s.devRead 1 va 128 = .ok h)
    (e0 : entryBase (leAt h 24 1) + 256 * leAt h 26 2 = n) (d1 : s.devRead 1 va n = .ok l) (e1 : leAt h 8 8 = iv) (e2 : leAt h 16 4 = m)
    (d2 : s.devRead 1 iv m = .ok im) : s.readRecord 1 va = .ok l im := by
  simp only [State.readRecord, h0, d0, e0, d1, e1, e2, d2, ne_eq, not_true_eq_false, if_false]

theorem test_records :
    (∃ l im, (then_ 1 4 (le 0x600000 8)).readRecord 1 0x600000 = .ok l im ∧ (then_ 1 4 (le 0x600000 8)).recordOk 1 l im = true) ∧
    (∃ l im, (then_ 1 4 (le 0x600040 8)).readRecord 1 0x600040 = .ok l im ∧ (then_ 1 4 (le 0x600040 8)).recordOk 1 l im = false) ∧
    (then_ 1 4 (le 0x600001 8)).readRecord 1 0x600001 = .invalid none ∧ (then_ 1 4 (le 0x800000 8)).readRecord 1 0x800000 = .lazy 4 := by
  have d := fun va off n h => read_page_three (then_ 1 4 (le va 8)) rfl rfl rfl rfl rfl off n h
  have l0 : houseBytes 0 128 = recordBytes ++ zeros 100 := by decide +kernel
  have l1 : houseBytes 0 448 = recordBytes ++ zeros 420 := by decide +kernel
  have l2 : houseBytes 0x1000 256 = imageBytes ++ zeros 63 := by decide +kernel
  have m0 : houseBytes 0x40 128 = zeros 128 := by decide +kernel
  have d0 := d 0x600000 0 128 (by norm_num)
  have d1 := d 0x600000 0 448 (by norm_num)
  have d2 := d 0x600000 0x1000 256 (by norm_num)
  have g0 := d 0x600040 0x40 128 (by norm_num)
  rw [l0] at d0; rw [l1] at d1; rw [l2] at d2; rw [m0] at g0
  refine ⟨⟨_, _, record_read _ _ _ _ _ _ _ _ (by decide) d0 (by decide) d1 (by decide) (by decide) d2, by decide +kernel⟩,
    ⟨_, _, record_read _ _ _ _ _ [] 0 0 (by decide) g0 (by decide) g0 (by decide) (by decide) rfl, by decide +kernel⟩, by decide +kernel, by decide +kernel⟩

/-- PlaceRequests: BEACON of no region, of another partition's, of one with a cut, of one without. -/
theorem test_beacon_requests : ∀ e ∈ [(0x900, 0), (0, 1), (1024, 2), (256, 3)], let f := frame 5 1 (le e.1 8 ++ le 3 8)
    asks (opened estate (guest 1)) f (guest 1) 5 none ∧ f.payload.length = 16 ∧ field f 8 1 = 3 ∧ zeroAt f.payload 9 16 = true ∧ field f 0 8 = e.1 ∧
      (FMap.find estate.nodes e.1 = none ↔ e.2 = 0) ∧ (e.2 = 1 → bitsOf (estate.rcb e.1 0) 5 6 ≠ 1) ∧ (2 ≤ e.2 → bitsOf (estate.rcb e.1 0) 5 6 = 1) ∧
      (estate.cutOf e.1 ≠ none ↔ e.2 = 2) := by
  intro e h
  fin_cases h <;> exact ⟨estate_asks 1 5 _ none (by decide), by decide +kernel, by decide +kernel, by decide +kernel, by decide +kernel, by decide +kernel,
    by decide +kernel, by decide +kernel, by decide +kernel⟩

/-- A replacement record of one entry and its image, read byte by byte. -/
theorem replace_read (s : State) (rgn va t : Nat) (h l h' im : List Byte) (m iv : Nat) (d0 : s.devRead 1 va 8 = .ok h)
    (e0 : leAt h 0 2 = 1 ∧ zeroAt h 2 8 = true) (d1 : s.devRead 1 va 88 = .ok l) (e1 : leAt l 8 2 = t ∧ leAt l 16 8 = iv ∧ t < 2048 ∧ zeroAt l 10 16 = true)
    (er : s.replaceable rgn t = true) (d2 : s.devRead 1 iv 192 = .ok h') (e2 : imageLength h' = m) (d3 : s.devRead 1 iv m = .ok im)
    (e3 : (imageOk im false && (s.tile t).ports.all (fun p => s.declared (imageQueues im) p.1 p.2.queue)) = true) :
    ∃ es, s.replaceRecord 1 rgn va = .ok es := by
  have hg : ∀ x : List Byte, (Got.ok x).thenDo = fun _ _ k => k x := fun x => rfl
  refine ⟨[{ tile := t, image := im, params := (List.range 8).map (fun i => BitVec.ofNat 64 (leAt l (8 + 16 + 8 * i) 8)) }], ?_⟩
  have hz : s.replaceEntries 1 rgn l 1 = .ok [{ tile := t, image := im, params := (List.range 8).map (fun i => BitVec.ofNat 64 (leAt l (8 + 16 + 8 * i) 8)) }] := by
    rw [State.replaceEntries, State.replaceEntries]
    simp only [Nat.mul_zero, Nat.add_zero, e1.1, e1.2.1, er, show zeroAt l (8 + 2) (8 + 8) = true from e1.2.2.2, d2, hg, e2, d3]
    simp [e3, e1.2.2.1]
  simp only [State.replaceRecord, d0, hg, e0.1, e0.2, show 8 + 80 * 1 = 88 from rfl, d1, hz]
  norm_num

/-- PlaceRequests: BEACON of kind 1 from records in lazy and unregistered pages, from one with a count of 0, and from one whose entry
stands. -/
theorem test_replace_requests :
    (∀ va ∈ [0x602000, 0x602020, 0x800000, 0xA00000], let f := frame 5 1 (le 256 8 ++ le 1 8 ++ le va 8)
      asks (opened estate (guest 1)) f (guest 1) 5 none ∧ f.payload.length = 24 ∧ field f 0 8 = 256 ∧ field f 8 1 = 1 ∧ zeroAt f.payload 9 16 = true ∧
        field f 16 8 = va) ∧
    named estate 256 ∧ ¬ named estate 0x900 ∧ estate.cutOf 256 = none ∧ FMap.find (guest 1).versions 2 ≠ none ∧
    (∃ h, estate.devRead 1 0x602020 8 = .ok h ∧ leAt h 0 2 = 0) ∧ estate.replaceRecord 1 256 0x800000 = .lazy 4 ∧
    estate.replaceRecord 1 256 0xA00000 = .invalid (some (0xA00000, 8)) ∧
    ∃ es, ({ estate with tiles := [(0, { shop with ports := [] })] } : State).replaceRecord 1 256 0x602000 = .ok es := by
  have d := fun off n h => read_page_three { estate with tiles := [(0, { shop with ports := [] })] } rfl rfl rfl rfl rfl off n h
  have d0 := d 0x2000 8 (by norm_num)
  have d1 := d 0x2000 88 (by norm_num)
  have d2 := d 0x1000 192 (by norm_num)
  have d3 := d 0x1000 256 (by norm_num)
  rw [show houseBytes 0x2000 8 = le 1 8 by decide +kernel] at d0
  rw [show houseBytes 0x2000 88 = replaceBytes ++ zeros 56 by decide +kernel] at d1
  rw [show houseBytes 0x1000 192 = imageBytes.take 192 by decide +kernel] at d2
  rw [show houseBytes 0x1000 256 = imageBytes ++ zeros 63 by decide +kernel] at d3
  refine ⟨fun va h => ?_, ⟨by decide, by decide⟩, fun h => h.1 (by decide), by decide, by decide, ?_, by decide +kernel, by decide +kernel,
    replace_read _ _ _ 0 _ _ _ _ 256 0x601000 d0 (by decide) d1 (by decide) (by decide) d2 (by decide) d3 (by decide +kernel)⟩
  · fin_cases h <;> exact ⟨estate_asks 1 5 _ none (by decide), by decide +kernel, by decide +kernel, by decide +kernel, by decide +kernel, by decide +kernel⟩
  · have e := read_page_three estate rfl rfl rfl rfl rfl 0x2020 8 (by norm_num)
    rw [show houseBytes 0x2020 8 = zeros 8 by decide +kernel] at e
    exact ⟨_, e, by decide⟩

/-- OtherRequests: PUSH to a queue with room, to one without, and to none; one that has waited. -/
theorem test_host_push :
    let l (q : Nat) := le q 2 ++ le 0 6 ++ le 7 8
    let full : State := { estate with queues := [(108, { type := 0, part := 1, cap := 0, window := 8, eps := [(16, 3)] })] }
    (∀ q ∈ [108, 999], asks (opened estate (guest 1)) (frame 8 1 (l q)) (guest 1) 8 none) ∧ asks (opened full (guest 1)) (frame 8 1 (l 108)) (guest 1) 8 none ∧
    (let f := frame 8 1 (l 108)
     f.payload.length = 16 ∧ zeroAt f.payload 4 8 = true ∧ field f 2 2 = 0 ∧ field f 0 2 = 108 ∧ f.part = 1) ∧
    FMap.find (guest 1).versions 3 ≠ none ∧ (estate.queue 108).state = 1 ∧ (estate.queue 108).type ≠ 2 ∧ (estate.queue 108).part = 1 ∧
    (estate.queue 108).system = false ∧ estate.admits ⟨3, 0⟩ 108 1 = true ∧ full.admits ⟨3, 0⟩ 108 1 = false ∧ (full.queue 108).state = 1 ∧
    (estate.queue 999).state = 0 ∧
    let c : Call := { session := 5, seq := 9, frame := frame 8 1 (l 108), kind := .push 108 { header := 0, words := [7] } 0 }
    let s : State := { opened full (guest 1) with calls := [(40, c)], dies := [(0, { clock := 4000000 })] };
    FMap.find s.calls 40 = some c ∧ FMap.find s.sessions c.session = some (guest 1) ∧ 0 + 4000000 ≤ s.now (guest 1).tile := by
  refine ⟨fun q h => ?_, opened_asks _ _ _ _ _ none (by decide) rfl rfl, by decide +kernel, by decide, by decide, by decide, by decide, by decide, by decide,
    by decide, by decide, by decide, rfl, rfl, by decide⟩
  fin_cases h <;> exact estate_asks 1 8 _ none (by decide)

/-- OtherRequests: ATTEST; END of no region, of one with a running placement, and of one whose placement is DONE; REGION_CAP above
and below the energy used; MEASURE of partition 1, of a register that is not open, and of one that is. -/
theorem test_host_others :
    (asks (opened estate (guest 1)) (frame 11 1 (zeros 32)) (guest 1) 11 none ∧ (frame 11 1 (zeros 32)).payload.length = 32) ∧
    (∀ a ∈ [0x900, 256, 768], asks (opened estate (guest 1)) (frame 12 1 (le a 8)) (guest 1) 12 none ∧ (frame 12 1 (le a 8)).payload.length = 8 ∧ field (frame 12 1 (le a 8)) 0 8 = a) ∧
    FMap.find estate.nodes 0x900 = none ∧
    (∀ a ∈ [256, 768], let u := then_ 1 12 (le a 8)
      bitsOf (estate.rcb a 0) 5 6 = 1 ∧ (u.placementsIn a = [a]) ∧ (((u.endPlacement a).placeState a ≠ 5 ∧ (u.endPlacement a).placeState a ≠ 6) ↔ a = 256)) ∧
    (∀ cap ∈ [60, 40], let f := frame 13 0 (le 256 8 ++ le cap 8)
      asks (opened estate (guest 0)) f (guest 0) 13 none ∧ f.payload.length = 16 ∧ FMap.find estate.nodes (field f 0 8) ≠ none ∧ f.part = 0 ∧
        (((then_ 0 13 (le 256 8 ++ le cap 8)).modRcb (field f 0 8) 6 (fun _ => BitVec.ofNat 64 (field f 8 8))).modRcb (field f 0 8) 0 (fun x => putField x 43 1 1)).energyDue
          (field f 0 8) = decide (cap = 40)) ∧
    (∀ e ∈ [(1, 4), (0, 1), (0, 8), (0, 4)], let f := frame 14 e.1 (le e.2 8 ++ zeros 64)
      asks (opened estate (guest e.1.toNat)) f (guest e.1.toNat) 14 none ∧ f.payload.length = 72 ∧ zeroAt f.payload 1 8 = true ∧ f.part = e.1.toNat ∧ field f 0 1 = e.2) := by
  refine ⟨⟨estate_asks 1 11 _ none (by decide), by decide +kernel⟩, fun a h => ?_, by decide, by decide +kernel, fun cap h => ?_, fun e h => ?_⟩
  · fin_cases h <;> exact ⟨estate_asks 1 12 _ none (by decide), by decide +kernel, by decide +kernel⟩
  · fin_cases h <;> exact ⟨estate_asks 0 13 _ none (by decide), by decide +kernel, by decide +kernel, by decide +kernel, by decide +kernel⟩
  · fin_cases h <;> exact ⟨estate_asks _ 14 _ none (by decide), by decide +kernel, by decide +kernel, by decide +kernel, by decide +kernel⟩

/-- HealthRequests: STATUS with and without a stray byte; SET_CAP of partition 1, out of range and in it; LANTERN. -/
theorem test_health :
    (∀ l ∈ [[1], [1, 0]], asks (asking 1) (frame 9 1 l) (guest 1) 9 (some 1) ∧ (frame 9 1 l).payload = l) ∧
    (∀ e ∈ [(1, 700), (0, 599), (0, 600), (0, 2400), (0, 2401)], let f := frame 9 e.1 ([2] ++ le e.2 2)
      asks (asking e.1) f (guest e.1.toNat) 9 (some 2) ∧ f.payload.length = 3 ∧ f.part = e.1.toNat ∧ field f 1 2 = e.2) ∧
    (∀ p ∈ [0, 1], let f := frame 9 p ([3, 2] ++ le 0 4)
      asks (asking p) f (guest p.toNat) 9 (some 3) ∧ f.payload.length = 6 ∧ f.part = p.toNat ∧ field f 1 1 = 2) := by
  refine ⟨fun l h => ?_, fun e h => ?_, fun p h => ?_⟩
  · fin_cases h <;> exact ⟨house_asks 1 9 _ (some 1) (by decide), by decide +kernel⟩
  · fin_cases h <;> exact ⟨house_asks _ 9 _ (some 2) (by decide), by decide +kernel, by decide +kernel, by decide +kernel⟩
  · fin_cases h <;> exact ⟨house_asks _ 9 _ (some 3) (by decide), by decide +kernel, by decide +kernel, by decide +kernel⟩

/-- A TRACE request: its selector, tile, port and two words. -/
def traceBytes (sel : Byte) (t pn : Nat) (x y : Nat) : List Byte := [sel, 0] ++ le t 2 ++ le pn 1 ++ zeros 3 ++ le x 8 ++ le y 8

/-- TraceRequests: every operation, with the fields that it allows. -/
theorem test_traces :
    ∀ e ∈ [((1 : Byte), 8, 0, 0, true, false, false), (2, 0, 0, 0, true, false, false), (3, 0, 0x101, 0, false, true, false), (4, 0, 0, 0, false, false, false),
        (5, 0, 0, 0, true, false, false), (6, 0, 2 ^ 64 - 1, 0, true, true, true), (6, 0, 4, 7, true, true, true), (6, 0, 3, 7, true, true, true), (6, 8, 4, 7, true, true, true),
        (7, 0, 0, 0, false, false, false), (8, 0, 0, 0, false, false, false), (9, 3, 0x100000040, 0x8040, true, true, true), (10, 0, 0, 0, false, false, false)],
      traces (asking 1) (frame 10 1 (traceBytes e.1 0 e.2.1 e.2.2.1 e.2.2.2.1)) (guest 1) e.1.toNat e.2.2.2.2.1 e.2.2.2.2.2.1 e.2.2.2.2.2.2 := by
  intro e h
  fin_cases h <;> exact ⟨house_asks 1 10 _ (some _) (by decide), by decide +kernel, by decide +kernel, by decide +kernel, by decide +kernel,
    by decide +kernel, by decide +kernel, by decide +kernel, .inr (by decide +kernel)⟩

/-- TraceRequests: the ports of the tile, claims by the session, by another and by none, a stop, a placement without the trace interface;
RESUME of strand 0; a walk whose second snapshot is there. -/
theorem test_trace_states :
    (∃ p, (asking 1).port 0 0 = some p ∧ p.consumer = true ∧ p.ordinal = 4) ∧ (∃ p, (asking 1).port 0 8 = some p ∧ p.consumer = false) ∧
    (asks (opened house { guest 1 with versions := [] }) (frame 10 1 (traceBytes 4 0 0 0 0)) { guest 1 with versions := [] } 10 (some 4) ∧ FMap.find (guest 1).versions 4 ≠ none) ∧
    (∀ c ∈ [none, some 5, some 6], (({ asking 1 with tiles := [(0, { shop with claim := c })] } : State).tile 0).claim = c) ∧
    ((asking 1).tile 0).debugStop = none ∧ ((asking 1).tile 0).cut = none ∧ ((asking 1).tile 0).place = some 256 ∧
    (let s := opened { house with tiles := [(0, { shop with debugStop := some 0, frozen := true })] } (guest 1)
     let f := frame 10 1 ([11, 1] ++ le 0 2 ++ zeros 20)
     asks s f (guest 1) 10 (some 11) ∧ f.payload.length = 24 ∧ field f 1 1 = 1 ∧ zeroAt f.payload 4 8 = true ∧ zeroAt f.payload 8 24 = true ∧ validTile (field f 2 2) = true ∧
      (s.tile 0).part = f.part ∧ (s.tile (field f 2 2)).debugStop = some 0) ∧
    let snap : List PortSnap := [{ tile := 0, port := 0, full := 1, empty := 2, moving := 3, cycle := 4, after := some (9, 9, 9) }]
    let c : Call := { session := 5, seq := 9, frame := frame 10 1 (traceBytes 5 0 0 0 0), kind := .periscope 0 0 snap }
    let s : State := { asking 1 with calls := [(40, c)] };
    FMap.find s.calls 40 = some c ∧ (∀ x ∈ snap, x.after ≠ none) ∧ ∃ d, (s.diffs snap).find? (fun d => d.tile == 0 && d.port == 0) = some d := by
  refine ⟨⟨_, rfl, by decide, by decide⟩, ⟨_, rfl, by decide⟩, ⟨opened_asks _ _ _ _ _ (some 4) (by decide) rfl rfl, by decide⟩, by decide, by decide, by decide, by decide,
    ⟨opened_asks _ _ _ _ _ (some 11) (by decide) rfl rfl, ?_, ?_, ?_, ?_, ?_, ?_, ?_⟩, rfl, by decide, _, rfl⟩
  all_goals decide +kernel

/-- A merge entry of page 3 or 4 at die 0 with a strand on it. -/
def mergeFor (page : Nat) (walking : Bool) : Merge :=
  { part := 1, page := page, walking := walking, kind := 0, write := false, count := 1, tile := 0, strand := 0, ip := 0x80, engine := 0
    faulters := [⟨0, 0⟩], engines := [], seq := 0, calls := [] }
def walking (page : Nat) (cached : Bool) : State :=
  house.modDie 0 (fun y => { y with merge := [mergeFor page true], faultQueue := some 108
                                    xcache := if cached then [{ part := 1, page := 3, large := false, entry := 0x1200007 }] else [] })

/-- TranslationEvents: REFUSE of a page with a merge entry; walks of a page that the cache holds, of one that the tables hold, of a lazy
one, of an unregistered one, and none. -/
theorem test_walks :
    (let s := (unit 18).modDie 0 (fun y => { y with merge := [mergeFor 3 false] })
     mergeOf (unit 18) 0 1 3 = none ∧ mergeOf s 0 1 3 = some (mergeFor 3 false) ∧ (mergeFor 3 false).engines = [] ∧ (mergeFor 3 false).calls = []) ∧
    (∀ m ∈ (house.die 0).merge, m.part = 1 → m.page = 3 → m.walking = false) ∧
    (∀ e ∈ [(3, true), (3, false), (4, false), (9, false)], ((walking e.1 e.2).die 0).merge.find? (fun y => y.part == 1 && y.page == e.1 && y.walking) =
      some (mergeFor e.1 true) ∧ ((walking e.1 e.2).cached 0 1 e.1).isSome = e.2) ∧
    (∃ x, (walking 3 false).walk 1 (3 * 2 ^ 21) = .page x) ∧ (walking 4 false).walk 1 (4 * 2 ^ 21) = .lazy none ∧
    (walking 9 false).walk 1 (9 * 2 ^ 21) = .unregistered none := by
  refine ⟨by decide, fun m h => (by cases h), fun e h => ?_, ⟨{ part := 1, page := 3, large := false, entry := 0x1200005 }, by decide +kernel⟩,
    by decide +kernel, by decide +kernel⟩
  fin_cases h <;> exact ⟨rfl, rfl⟩

/-- TraceRequests: RESUME of a tile that a strike without a strand froze; RESUME of no region, of another partition's, of one whose STOP
cut is done. -/
theorem test_trace_regions :
    (let s := opened { house with tiles := [(0, { shop with debugStop := some 8, frozen := true })] } (guest 1)
     asks s (frame 10 1 ([11, 1] ++ le 0 2 ++ zeros 20)) (guest 1) 10 (some 11) ∧ (s.tile 0).debugStop = some 8) ∧
    let s (p : Nat) : State := opened { house with nodes := house.nodes ++ [(1024, { words := [(0, 0xA0000027), (1, 512)], cut := some { kind := 3, seq := 2, done := true } })] } (guest p)
    (∀ e ∈ [((0 : Byte), 0x900), (1, 0x900), (1, 1024)], let f := frame 10 e.1 ([11, 2] ++ zeros 6 ++ le e.2 8 ++ zeros 8)
      asks (s e.1.toNat) f (guest e.1.toNat) 10 (some 11) ∧ f.payload.length = 24 ∧ field f 1 1 = 2 ∧ field f 2 2 = 0 ∧ zeroAt f.payload 4 8 = true ∧
        zeroAt f.payload 16 24 = true ∧ f.part = e.1.toNat ∧ field f 8 8 = e.2) ∧
    FMap.find (s 0).nodes 0x900 = none ∧ bitsOf ((s 1).rcb 0x900 0) 5 6 ≠ 1 ∧ bitsOf ((s 1).rcb 1024 0) 5 6 = 1 ∧
    FMap.find (s 1).nodes 1024 ≠ none ∧ (s 1).cutOf 1024 = some { kind := 3, seq := 2, done := true } := by
  refine ⟨⟨opened_asks _ _ _ _ _ (some 11) (by decide) rfl rfl, rfl⟩, fun e h => ?_, by decide, by decide, by decide, by decide, by decide⟩
  fin_cases h <;> exact ⟨opened_asks _ _ _ _ _ (some 11) (by decide) rfl rfl, by decide +kernel, by decide +kernel, by decide +kernel, by decide +kernel,
    by decide +kernel, by decide +kernel, by decide +kernel⟩

/-- TraceRequests: STOP cuts of R403 whose cap is still reached and whose cap is not. PowerControl: lineages that name no node twice. -/
theorem test_trace_cap :
    let s (cap : Nat) : State := { bench with nodes := [(0, {}), (1024, { words := [(0, 0x800A0000027), (1, 512), (6, BitVec.ofNat 64 cap), (7, 50)], cut := some { kind := 3, seq := 2, done := true, energy := true } })] }
    (∀ cap ∈ [40, 60], (s cap).cutOf 1024 = some { kind := 3, seq := 2, done := true, energy := true } ∧ ((s cap).capReached 1024 = true ↔ cap = 40)) ∧
      (bench.lineage 7 (bench.homeNode 0)).Nodup := by
  decide

/-! ### Witnesses: power, boot, links -/

/-- PowerControl: the average above the cap, below 95 per cent of it and between; a hot die; POWER_LIMIT; the ramp in RUN and in
DRAINING; an energy cap that is reached. -/
theorem test_power :
    (let s (l : List Nat) : State := { bench with power := { cap := 1000, samples := l }, dies := [(0, { pwrStep := 3 })] }
     let u (l : List Nat) (mw : Nat) := average ((mw :: l).take 10)
     1000000 < u (s [1100000]).power.samples 1100000 ∧ 100 * u (s []).power.samples 900000 < 95 * 1000000 ∧
      (u (s []).power.samples 1000000 ≤ 1000000 ∧ 95 * 1000000 ≤ 100 * u (s []).power.samples 1000000) ∧ ((s []).die 0).pwrStep.toNat = 3 ∧
      4 ≤ FMap.get 4 (s []).power.sinceRaise 0 ∧ 4 ≤ FMap.get 4 (s []).power.sinceLower 0) ∧
    (tooHot bench [106] 0 ∧ ¬ tooHot bench [105] 0 ∧ tooHot { bench with power := { hot := [0] } } [100] 0 ∧ ¬ tooHot { bench with power := { hot := [0] } } [99] 0) ∧
    (1000 ≤ ({ bench with power := { overCap := 1000 } } : State).power.overCap ∧ bench.power.limit = false) ∧
    (∃ n, FMap.find bench.nodes 256 = some n ∧ bitsOf (bench.rcb 256 0) 0 2 = 3 ∧ bench.placeState 256 = 2 ∧ 0 ∈ n.tiles ∧ (rowOf 0 + colOf 0) % 8 = 0) ∧
    (({ bench with nodes := [(256, { words := [(0, 0x80000027)], tiles := [0] })] } : State).placeState 256 = 4) ∧
    validTile 415 = true ∧
    ({ bench with nodes := [(256, { words := [(0, 0x80040000027), (6, 50), (7, 50)], tiles := [0] })] } : State).energyDue 256 = true := by
  refine ⟨by decide, ⟨.inl (by decide), ?_, .inr (by decide), ?_⟩, by decide, ⟨_, rfl, by decide⟩, by decide⟩ <;>
    (rintro (h | h) <;> exact absurd h (by decide))

/-- A package that serves as root, with a table of four nodes: itself, two children of it, and one that is rejected; decided states. -/
def pod (status : FMap Nat) : State :=
  { bench with
    boots := 1
    boot := { booted := true, root := true, topology := [0, 1, 2, 0x30003], status := status }
    links := [(3, { up := true, peers := [1] })], dies := [(0, { clock := 8000000000 })] }

/-- ResetEvents: entries of the topology table that are rejected and that are not; parents that are reached, that failed; a path and none. -/
theorem test_pod :
    (pod []).boot.root = true ∧ (pod []).boot.booted = true ∧ 3 < (pod []).boot.topology.length ∧ FMap.find (pod []).boot.status 3 = none ∧
    rejectedEntry (pod []).boot.topology 3 ∧ ¬ rejectedEntry (pod []).boot.topology 0 ∧ ¬ rejectedEntry (pod []).boot.topology 1 ∧
    (node (pod []).boot.topology 1).2.1 = 0 ∧ FMap.find (pod [(0, 1)]).boot.status 0 = some 1 ∧ FMap.find (pod [(0, 0)]).boot.status 0 = some 0 ∧
    (pod [(0, 0)]).hasPath (node (pod []).boot.topology 1).1 = true ∧ (pod [(0, 0)]).hasPath (node (pod []).boot.topology 2).1 = false ∧
    FMap.get 0 (pod [(0, 0)]).boot.since 0 + 8000000000 ≤ ((pod [(0, 0)]).die 0).clock ∧
    (({ bench with boots := 1, boot := { root := false } } : State).boot.booted = false) := by
  refine ⟨by decide, by decide, by decide, by decide, .inl (by decide), ?_, ?_, by decide⟩ <;>
    rintro (h | h | h | ⟨j, hj, h⟩)
  all_goals first | exact absurd h (by decide) | (interval_cases j <;> exact absurd h (by decide))

/-- A port that is up to package 1, with flits under way, and a second one. -/
def linked (fails : Nat) (two : Bool) : State :=
  { bench with
    links := [(3, { up := true, peers := [1], retry := [(6, 1, 9)], nextSeq := 7, expect := 4, fails := fails })] ++
      if two then [(5, { up := true, peers := [1], nextSeq := 2 })] else [] }

/-- LinkEvents: flits in and out of order; a resend, a failed port with and without another path; an access without a path. -/
theorem test_links :
    (∃ x, FMap.find (linked 8 true).links 3 = some x ∧ x.up = true ∧ x.expect = 4 ∧ x.retry = [(6, 1, 9)] ∧ x.fails = 8 ∧ x.retry.head?.map (·.1) = some 6) ∧
    (∃ x, FMap.find (linked 2 true).links 3 = some x ∧ x.retry ≠ [] ∧ x.fails ≠ 8) ∧
    (linked 8 false).links.find? (fun l => decide (l.1 ≠ 3) && l.2.up && l.2.peers.contains 1) = none ∧
    (∃ y, (linked 8 true).links.find? (fun l => decide (l.1 ≠ 3) && l.2.up && l.2.peers.contains 1) = some (5, y)) ∧
    (let k := Kind.access (.store 7) (.peer 1 8 0x600000) 8 none false
     let s := { flying bench k [] with dies := [(0, { clock := 40000 })] };
     s.flight 5 = some (under k []) ∧ s.hasPath 1 = false ∧ 0 + 40000 ≤ (s.die 0).clock) ∧
    chooseVersion [(1, 3), (2, 0)] [(1, 2)] = some (1, 2) ∧ chooseVersion [(1, 3)] [(2, 2)] = none :=
  ⟨⟨_, rfl, rfl, rfl, rfl, rfl, rfl⟩, ⟨_, rfl, List.cons_ne_nil _ _, by decide⟩, by decide, ⟨_, rfl⟩, ⟨rfl, by decide⟩, by decide⟩

/-- LinkEvents: a strip and a command's write for a package without a path; a group whose unit is another package's. ResetEvents: a
booted package whose die has its services. -/
theorem test_link_traffic :
    (let k := Kind.strip 3 0x600000 (List.replicate 16 none)
     let s : State := { flying bench k [] with dies := [(0, { clock := 40000, xcache := [{ part := 1, page := 3, large := false, entry := 0x1200037 }] })] }
     s.flight 5 = some (under k []) ∧ (∃ pa v, s.stripTarget (under k []) 0x600000 = .ok (.peer 1 pa v)) ∧ s.hasPath 1 = false) ∧
    (let k := Kind.ewrite 0 bareCmd { spot := .peer 1 8, n := 8, addr := 0x600008 } [1]
     (flying bench k []).flight 5 = some (under k []) ∧ (flying bench k []).hasPath 1 = false) ∧
    (let g : Group := { unit := 0, members := [some ⟨0, 0⟩], queue := 111, results := [], words := 1, arrived := [(0, [1, 0])], home := some 1 }
     g.home = some 1 ∧ linked1.hasPath 1 = true ∧ g.words + g.words % 2 ≤ (FMap.get [] g.arrived 0).length) ∧
    let s : State := { bench with boot := { booted := true }, dies := [(0, { faultQueue := some 100 })] };
    s.boot.booted = true ∧ (s.die 0).faultQueue = some 100 := by
  exact ⟨⟨rfl, ⟨_, _, rfl⟩, by decide⟩, ⟨rfl, by decide⟩, by decide, by decide⟩

/-- LinkEvents: a flit in order, whatever it is read as: where some content is a peer's access of 8 bytes, this is one that it makes. -/
theorem test_peer_access (data : BitVec 1024) : let f : Flit := { seq := 4, data := data, crcOk := true }
    (∃ x, FMap.find (linked 8 false).links 3 = some x ∧ x.up = true ∧ f.crcOk = true ∧ f.seq = x.expect ∧ x.peers.contains 1 = true) ∧
      (∀ l ∈ (linked 8 false).links, l.1 ≠ 3 → l.2.up = false) ∧ ((linked 8 false).links.map (·.1)).Nodup ∧
      (Config.peerRequest data = none ∨ ∃ r, Config.peerRequest data = some r) ∧ (8 ∈ [1, 2, 4, 8] ∧ 64 % 8 = 0 ∧ 64 + 8 ≤ 2 ^ 39) := by
  refine ⟨⟨_, rfl, rfl, rfl, rfl, rfl⟩, ?_, by decide, ?_, by decide⟩
  · intro l h hn; obtain rfl := List.mem_singleton.1 h; exact absurd rfl hn
  · cases Config.peerRequest data with
    | none => exact .inl rfl
    | some r => exact .inr ⟨r, rfl⟩

/-- LinkEvents: a group of the all-reduce unit that has one contribution of two, and one that gets the second; all contributors are of this package. -/
theorem test_reduce :
    let g (t : FMap (List Lane)) : Group := { unit := 0, members := [some ⟨0, 0⟩, some ⟨1, 0⟩], queue := 111, results := [108], words := 3, arrived := [(1, [1, 2, 3, 0])], taken := t }
    let s (t : FMap (List Lane)) : State := { bench with groups := [(9, g t)] }
    ∀ t ∈ [[], [(0, [4, 5, 6])]], FMap.find (s t).groups 9 = some (g t) ∧ 1 < (g t).members.length ∧
      (g t).words + (g t).words % 2 ≤ (FMap.get [] (g t).arrived 1).length ∧ (g t).home = none ∧ (∀ e ∈ (g t).away, (s t).hasPath e.2 = true) ∧ FMap.find (g t).taken 1 = none ∧ (FMap.get [] (g t).arrived 1).take 3 = [1, 2, 3] ∧
      (s t).admits ⟨0, 11⟩ 108 1 = true ∧ ((FMap.set (g t).taken 1 [1, 2, 3]).length < 2 ↔ t = []) := by
  intro g s t h
  fin_cases h <;> decide

/-! ### Every instruction completes somewhere -/
/-- ScalarResult, ScalarFrame: instructions with operands on which they are due. -/
theorem test_due_scalar_1 :
    (Due scalarRule (.mov (st 9 4 0 0)) ∧ Due scalarRule (.movL (lt 9 0 1 0 0 0 0)) ∧ Due scalarRule (.movi (xt 0 2)) ∧
      Due scalarRule (.add (st 9 4 5 0)) ∧ Due scalarRule (.addL (lt 9 0 1 0 5 0 0)) ∧ Due scalarRule (.sub (st 9 4 5 0)) ∧
      Due scalarRule (.subL (lt 9 0 1 0 5 0 0)) ∧ Due scalarRule (.mul (st 9 4 5 0)) ∧ Due scalarRule (.mulL (lt 9 0 1 0 5 0 0)) ∧
      Due scalarRule (.and (st 9 4 5 0)) ∧ Due scalarRule (.andL (lt 9 0 1 0 5 0 0)) ∧ Due scalarRule (.or (st 9 4 5 0)) ∧
      Due scalarRule (.orL (lt 9 0 1 0 5 0 0)) ∧ Due scalarRule (.xor (st 9 4 5 0)) ∧ Due scalarRule (.xorL (lt 9 0 1 0 5 0 0)) ∧
      Due scalarRule (.andn (st 9 4 5 0)) ∧ Due scalarRule (.andnL (lt 9 0 1 0 5 0 0)) ∧ Due scalarRule (.shl (st 9 4 5 0)) ∧
      Due scalarRule (.shlL (lt 9 0 1 0 5 0 0)) ∧ Due scalarRule (.shr (st 9 4 5 0)) ∧ Due scalarRule (.shrL (lt 9 0 1 0 5 0 0)) ∧
      Due scalarRule (.sar (st 9 4 5 0)) ∧ Due scalarRule (.sarL (lt 9 0 1 0 5 0 0)) ∧ Due scalarRule (.rot (st 9 4 5 0)) ∧
      Due scalarRule (.rotL (lt 9 0 1 0 5 0 0)) ∧ Due scalarRule (.min (st 9 4 5 0)) ∧ Due scalarRule (.minL (lt 9 0 1 0 5 0 0)) ∧
      Due scalarRule (.max (st 9 4 5 0)) ∧ Due scalarRule (.maxL (lt 9 0 1 0 5 0 0)) ∧ Due scalarRule (.minu (st 9 4 5 0)) ∧
      Due scalarRule (.minuL (lt 9 0 1 0 5 0 0)) ∧ Due scalarRule (.maxu (st 9 4 5 0)) ∧ Due scalarRule (.maxuL (lt 9 0 1 0 5 0 0)) ∧
      Due scalarRule (.mulh (st 9 4 5 0))) := by and_intros <;> exact ⟨_, rfl, by decide, alone, due_of (by decide) (moves_of (by decide))⟩

/-- ScalarResult, ScalarFrame: instructions with operands on which they are due. -/
theorem test_due_scalar_2 :
    (Due scalarRule (.mulhL (lt 9 0 1 0 5 0 0)) ∧ Due scalarRule (.clz (st 9 4 0 0)) ∧ Due scalarRule (.clzL (lt 9 0 1 0 0 0 0)) ∧
      Due scalarRule (.ctz (st 9 4 0 0)) ∧ Due scalarRule (.ctzL (lt 9 0 1 0 0 0 0)) ∧ Due scalarRule (.popc (st 9 4 0 0)) ∧
      Due scalarRule (.popcL (lt 9 0 1 0 0 0 0)) ∧ Due scalarRule (.bswap (st 9 4 0 0)) ∧ Due scalarRule (.bswapL (lt 9 0 1 0 0 0 0)) ∧
      Due scalarRule (.cmp (st 9 4 5 0)) ∧ Due scalarRule (.cmpL (lt 9 0 1 0 5 0 0)) ∧ Due scalarRule (.addi (wt 9 1 0 0 8)) ∧
      Due scalarRule (.logi (wt 9 1 0 0 8)) ∧ Due scalarRule (.shi (wt 9 1 0 0 8)) ∧ Due scalarRule (.cmpi (wt 9 1 0 0 8)) ∧
      Due scalarRule (.sel (lt 9 0 1 0 5 0 0)) ∧ Due scalarRule (.ext (wt 9 1 0 0 8)) ∧ Due scalarRule (.ins (wt 9 1 0 0 8)) ∧
      Due scalarRule (.lea (.l (lt 9 0 1 0 5 0 0))) ∧ Due scalarRule (.pget (lt 9 0 9 3 0 0 0)) ∧ Due scalarRule (.srd (wt 9 0 0 0 8))) := by and_intros <;> exact ⟨_, rfl, by decide, alone, due_of (by decide) (moves_of (by decide))⟩

/-- ScalarResult, StrandFrame: instructions with operands on which they are due. -/
theorem test_due_division :
    (Due divisionRule (.div (st 9 4 5 0)) ∧ Due divisionRule (.divL (lt 9 0 1 0 5 0 0)) ∧ Due divisionRule (.rem (st 9 4 5 0)) ∧
      Due divisionRule (.remL (lt 9 0 1 0 5 0 0))) := by and_intros <;> exact ⟨_, rfl, by decide, alone, due_of (by decide) (moves_of (by decide))⟩

/-- RegisterChange, StrandFrame: instructions with operands on which they are due. -/
theorem test_due_register :
    (Due registerRule (.padd (wt 1 0 0 0 8)) ∧ Due registerRule (.paddSt (wt 1 0 0 1 8))) ∧
    (Due registerRule (.movE (st 9 0 0 1)) ∧ Due registerRule (.movEL (lt 9 0 0 0 0 0 1)) ∧ Due registerRule (.pset (.l (lt 1 0 1 0 0 0 0))) ∧
      Due registerRule (.swrRndSeed (wt 0 1 0 0 32)) ∧
      Due registerRule (.swrWaitLimit (wt 0 1 0 0 16)) ∧ Due registerRule (.swrTrapVec (wt 0 1 0 0 27))) ∧
    Due registerRule (.swr (wt 0 1 0 0 25)) ∧
    Due registerRule (.swrReportQ (wt 0 2 0 0 28)) :=
  ⟨by and_intros <;> exact ⟨_, rfl, by decide, alone, due_of (by decide) (show (myPtr bench 1).bad = false by decide)⟩,
   by and_intros <;> exact ⟨_, rfl, by decide, alone, due_of (by decide) (trivial)⟩,
   ⟨_, rfl, by decide, alone, due_of (by decide) (fun _ => by decide)⟩,
   ⟨_, rfl, by decide, alone, due_of (by decide) (fun _ h => absurd h (by decide))⟩⟩

/-- ControlResult, StrandFrame: instructions with operands on which they are due. -/
theorem test_due_control :
    (Due controlRule (.j (xt 0 2)) ∧ Due controlRule (.call (xt 0 2)) ∧ Due controlRule (.jr (st 0 6 0 0)) ∧
      Due controlRule (.jrLForm (lt 0 0 1 0 0 0 0)) ∧ Due controlRule (.jrLink (st 0 6 0 1)) ∧ Due controlRule (.jrLinkLForm (lt 0 0 1 0 0 0 1)) ∧
      Due controlRule .ret ∧ Due controlRule (.br (wt 9 1 0 0 8)) ∧ Due controlRule (.loop (wt 9 0 0 0 8))) ∧
    (Due controlRule (.bz (wt 0 1 0 0 8)) ∧ Due controlRule (.bnz (wt 0 1 0 1 8))) ∧
    Due controlRule .nop ∧
    Due controlRule (.spawn (wt 1 1 0 0 8)) :=
  ⟨by and_intros <;> exact ⟨_, rfl, by decide, alone, due_of (by decide) (even_of (by decide))⟩,
   by and_intros <;> exact ⟨_, rfl, by decide, alone, due_of (by decide) (⟨moves_of (by decide), by decide⟩)⟩,
   ⟨_, rfl, by decide, alone, due_of (by decide) (trivial)⟩,
   ⟨_, rfl, by decide, alone, due_of (by decide) (by decide)⟩⟩

/-- LocalAccess, MemoryFrame: instructions with operands on which they are due. -/
theorem test_due_local :
    (Due localRule (.tagQ (.l (lt 9 0 1 0 0 0 0))) ∧ Due localRule (.tagE (.l (lt 0 0 1 0 0 0 1))) ∧ Due localRule (.tagF (.l (lt 0 0 1 0 0 0 2))) ∧
      Due localRule (.tagWa (.l (lt 9 0 1 0 0 0 3)))) ∧
    (Due localRule (.ld (.l (lt 9 0 1 0 0 0 0))) ∧ Due localRule (.st (.l (lt 0 0 1 0 5 0 0)))) ∧
    (Due localRule (.ldf (.l (lt 9 0 1 0 0 0 0))) ∧ Due localRule (.stf (.l (lt 0 0 1 0 5 0 1)))) ∧
    Due localRule (.ste (.l (lt 0 0 9 0 5 0 0))) ∧
    Due localRule .mflip :=
  ⟨by and_intros <;> exact ⟨_, rfl, by decide, alone, due_of (by decide) (⟨⟨by decide, by decide, by decide⟩, moves_of (by decide)⟩)⟩,
   by and_intros <;> exact ⟨_, rfl, by decide, alone, due_of (by decide) (⟨⟨by decide, by decide, by decide⟩, moves_of (by decide), trivial⟩)⟩,
   by and_intros <;> exact ⟨_, rfl, by decide, alone, due_of (by decide) (⟨⟨by decide, by decide, by decide⟩, moves_of (by decide), by decide⟩)⟩,
   ⟨_, rfl, by decide, alone, due_of (by decide) (⟨⟨by decide, by decide, by decide⟩, moves_of (by decide), by decide, by decide⟩)⟩,
   ⟨_, rfl, by decide, alone, due_of (by decide) (by decide)⟩⟩

/-- GlobalAccess, MemoryFrame: instructions with operands on which they are due. -/
theorem test_due_global :
    (Due globalRule (.ldg (.l (lt 9 0 2 0 0 0 0))) ∧ Due globalRule (.stg (.l (lt 0 0 2 0 5 0 0))) ∧ Due globalRule (.steG (.l (lt 9 0 3 0 5 0 2))) ∧
      Due globalRule (.stfG (.l (lt 0 0 3 0 5 0 3))) ∧ Due globalRule (.tagQ (.l (lt 9 0 3 0 0 0 4))) ∧ Due globalRule (.tagE (.l (lt 0 0 3 0 0 0 5))) ∧
      Due globalRule (.tagF (.l (lt 0 0 3 0 0 0 6))) ∧ Due globalRule (.amo (lt 9 0 2 0 5 0 0)) ∧ Due globalRule (.cas (lt 9 0 2 0 5 0 0))) ∧
    (Due globalRule (.rfill (lt 9 0 1 0 5 0 0)) ∧ Due globalRule (.rget (lt 9 0 1 0 0 0 0))) ∧
    Due globalRule (.fence (lt 0 0 0 0 0 0 0)) :=
  ⟨by and_intros <;> exact ⟨_, rfl, by decide, alone, due_of (by decide) (⟨moves_of (by decide), by decide, _, rfl, by decide⟩)⟩,
   by and_intros <;> exact ⟨_, rfl, by decide, alone, due_of (by decide) (moves_of (by decide))⟩,
   ⟨_, rfl, by decide, alone, due_of (by decide) (by decide)⟩⟩

/-- CrewResult, StrandFrame: instructions with operands on which they are due. -/
theorem test_due_crew :
    (Due crewRule (.cjoin (st 9 4 0 0)) ∧ Due crewRule (.cjoinL (lt 9 0 1 0 0 0 0)) ∧ Due crewRule .vnop) ∧
    (Due crewRule (.cjoinX (st 9 0 0 1)) ∧ Due crewRule (.cjoinXL (lt 9 0 0 0 0 0 1))) ∧
    (Due crewRule (.rel (.l (lt 0 0 5 0 0 0 3))) ∧ Due crewRule (.relm (lt 0 0 10 0 0 0 0))) ∧
    Due crewRule (.crew (lt 9 0 1 0 5 0 0)) ∧
    Due crewRule (.acq (.l (lt 9 0 5 0 0 0 0))) ∧
    Due crewRule (.acqm (lt 9 0 1 0 0 0 0)) ∧
    Due crewRule (.hold (lt 9 0 0 0 0 0 0)) ∧
    Due crewRule (.gfuse (lt 0 0 0 0 0 0 0)) ∧
    Due crewRule .stop :=
  ⟨by and_intros <;> exact ⟨_, rfl, by decide, alone, due_of (by decide) (trivial)⟩,
   by and_intros <;> exact ⟨_, rfl, by decide, alone, due_of (by decide) (.inr (.inr (by decide)))⟩,
   by and_intros <;> exact ⟨_, rfl, by decide, alone, due_of (by decide) (⟨releasable_of (by decide), by decide⟩)⟩,
   ⟨_, rfl, by decide, alone, due_of (by decide) (⟨by decide, by decide, by decide, by decide, by decide, by decide⟩)⟩,
   ⟨_, rfl, by decide, alone, due_of (by decide) (⟨⟨_, rfl, fun _ => ⟨by decide, by decide, by decide⟩⟩, fun _ => ⟨trivial, by decide, .inr (by decide)⟩⟩)⟩,
   ⟨_, rfl, by decide, alone, due_of (by decide) (⟨⟨_, rfl, fun _ => ⟨by decide, by decide, by decide⟩⟩, fun _ => ⟨by decide, by decide, .inr (by decide)⟩⟩)⟩,
   ⟨_, rfl, by decide, alone, due_of (by decide) (moves_of (by decide))⟩,
   ⟨_, rfl, by decide, alone, due_of (by decide) (.inr ⟨⟨by decide, by decide, by decide, by decide, by decide, by decide, by decide, by decide, by decide⟩, by decide⟩)⟩,
   ⟨_, rfl, by decide, alone, due_of (by decide) (by decide)⟩⟩

/-- QueueResult, QueueFrame: instructions with operands on which they are due. -/
theorem test_due_queue :
    (Due queueRule (.qdone (st 0 0 8 0)) ∧ Due queueRule (.qdoneL (lt 0 0 0 0 8 0 0)) ∧ Due queueRule (.qdoneO (st 0 0 0 1)) ∧
      Due queueRule (.qdoneOL (lt 0 0 0 0 0 0 1))) ∧
    (Due queueRule (.qpush (st 1 4 5 0)) ∧ Due queueRule (.qpushL (lt 1 0 1 0 5 0 0))) ∧
    (Due queueRule (.qpop (st 9 0 0 0)) ∧ Due queueRule (.qpopL (lt 9 0 0 0 0 0 8))) ∧
    (Due queueRule (.qcancel (.l (lt 1 0 1 0 0 0 0))) ∧ Due queueRule (.qstat (lt 9 0 1 0 0 0 0))) ∧
    Due queueRule (.qbind (wt 9 0 0 0 8)) ∧
    Due queueRule (.qunb 0) ∧
    Due queueRule (.bcn (lt 1 0 4 0 5 0 0)) :=
  ⟨by and_intros <;> exact ⟨_, rfl, by decide, alone, due_of (by decide) (⟨_, _, _, rfl, by decide, rfl⟩)⟩,
   by and_intros <;> exact ⟨_, rfl, by decide, alone, due_of (by decide) (⟨_, _, rfl, by decide, by decide, by decide, by decide, by decide⟩)⟩,
   by and_intros <;> exact ⟨_, rfl, by decide, alone, due_of (by decide) (⟨_, _, ⟨rfl, by decide, by decide⟩, .inl ⟨_, _, rfl, by decide, nobody rfl, unfenced (by decide), by decide⟩⟩)⟩,
   by and_intros <;> exact ⟨_, rfl, by decide, alone, due_of (by decide) (by decide)⟩,
   ⟨_, rfl, by decide, alone, due_of (by decide) (⟨_, rfl, by decide⟩)⟩,
   ⟨_, rfl, by decide, alone, due_of (by decide) (trivial)⟩,
   ⟨_, rfl, by decide, alone, due_of (by decide) (⟨by decide, ⟨by decide, by decide, by decide, by decide, by decide⟩, _, _, rfl, by decide, by decide, by decide, by decide, by decide⟩)⟩⟩

/-- TicketResult, DeviceFrame: instructions with operands on which they are due. -/
theorem test_due_ticket :
    (Due ticketRule (.tkq (st 9 6 0 0)) ∧ Due ticketRule (.tkqL (lt 9 0 2 0 0 0 0)) ∧ Due ticketRule (.tkd (st 9 6 0 0)) ∧
      Due ticketRule (.tkdL (lt 9 0 2 0 0 0 0))) ∧
    (Due ticketRule (.rdm (st 9 6 5 1)) ∧ Due ticketRule (.rdmL (lt 9 0 2 0 5 0 1))) ∧
    Due ticketRule (.ldt (.l (lt 9 0 2 0 0 0 0))) ∧
    Due ticketRule (.rdmsL (lt 9 0 2 0 0 0 8)) :=
  ⟨by and_intros <;> exact ⟨_, rfl, by decide, alone, due_of (by decide) (.inr ⟨by decide, by decide⟩)⟩,
   by and_intros <;> exact ⟨_, rfl, by decide, alone, due_of (by decide) (⟨.inr ⟨by decide, by decide⟩, by decide⟩)⟩,
   ⟨_, rfl, by decide, alone, due_of (by decide) (⟨by decide, _, rfl, fun _ _ _ h => by cases h⟩)⟩,
   ⟨_, rfl, by decide, alone, due_of (by decide) (⟨.inr ⟨by decide, by decide⟩, by decide, by decide, by decide, by decide⟩)⟩⟩

/-- EngineResult, DeviceFrame: instructions with operands on which they are due. -/
theorem test_due_engine :
    (Due engineRule (.rstat (lt 9 0 0 0 0 0 0)) ∧ Due engineRule (.barinit (.l (lt 0 0 1 0 0 0 0))) ∧ Due engineRule (.barexp (.l (lt 0 0 1 0 0 0 0)))) ∧
    (Due engineRule (.rawait (lt 9 0 0 0 0 0 16)) ∧ Due engineRule (.rrel (lt 0 0 0 0 0 0 0))) ∧
    (Due engineRule (.bararv (lt 9 0 0 0 0 0 16)) ∧ Due engineRule (.sunb 0)) ∧
    Due engineRule (.cpy (lt 2 0 1 0 0 0 0)) ∧
    Due engineRule (.barwait (lt 0 0 4 0 0 0 16)) ∧
    Due engineRule (.sbind (lt 1 0 9 0 0 0 0)) :=
  ⟨by and_intros <;> exact ⟨_, rfl, by decide, alone, due_of (by decide) (trivial)⟩,
   by and_intros <;> exact ⟨_, rfl, by decide, alone, due_of (by decide) (⟨rfl, by decide⟩)⟩,
   by and_intros <;> exact ⟨_, rfl, by decide, alone, due_of (by decide) (⟨by decide, by decide⟩)⟩,
   ⟨_, rfl, by decide, alone, due_of (by decide) (⟨⟨by decide, by decide⟩, _, _, rfl, by decide, by decide, by decide, by decide, by decide⟩)⟩,
   ⟨_, rfl, by decide, alone, due_of (by decide) (by decide)⟩,
   ⟨_, rfl, by decide, alone, due_of (by decide) (⟨⟨by decide, by decide⟩, ⟨by decide, by decide⟩, .inr (by decide), ⟨by decide, by decide⟩⟩)⟩⟩

/-- MatrixResult, DeviceFrame: instructions with operands on which they are due. -/
theorem test_due_matrix :
    (Due matrixRule (.mtag (lt 1 0 1 0 0 0 0)) ∧ Due matrixRule (.mrulxTags (lt 1 0 0 0 0 0 0)) ∧ Due matrixRule (.mrulxFill (lt 1 0 1 0 0 0 1)) ∧
      Due matrixRule (.mrulxFb (lt 1 0 0 0 0 0 2)) ∧ Due matrixRule (.mrulxNofb (lt 1 0 0 0 0 0 3)) ∧ Due matrixRule (.mdrain (lt 1 0 1 0 5 0 0)) ∧
      Due matrixRule (.mstat (st 9 0 0 0)) ∧ Due matrixRule (.mstatL (lt 9 0 1 0 0 0 0))) ∧
    (Due matrixRule (.mwait 1) ∧ Due matrixRule (.mwaitClr 4) ∧ Due matrixRule (.mclrAcc 0) ∧ Due matrixRule (.mclrSlot 32) ∧
      Due matrixRule (.mred (lt 1 0 0 0 0 0 0))) ∧
    Due matrixRule (.mfill (lt 1 0 1 0 5 0 0)) ∧
    Due matrixRule (.mscl (lt 1 0 1 0 5 0 0)) ∧
    Due matrixRule (.mrule .e4e4 (lt 1 0 1 0 5 0 0)) :=
  ⟨by and_intros <;> exact ⟨_, rfl, by decide, alone, due_of (by decide) (⟨by decide, by decide⟩)⟩,
   by and_intros <;> exact ⟨_, rfl, by decide, alone, due_of (by decide) (by decide)⟩,
   ⟨_, rfl, by decide, alone, due_of (by decide) (⟨by decide, ⟨by decide, by decide, by decide, by decide, by decide⟩, by decide, by decide, by decide, fun _ _ => ⟨.inl rfl, no_role (by decide)⟩⟩)⟩,
   ⟨_, rfl, by decide, alone, due_of (by decide) (⟨by decide, ⟨by decide, by decide⟩, by decide, by decide, by decide, fun _ _ => ⟨.inl rfl, no_role (by decide)⟩⟩)⟩,
   ⟨_, rfl, by decide, alone, due_of (by decide) (⟨by decide, ⟨by decide, by decide, by decide, by decide⟩, by decide, no_format (by decide), (fun _ _ h => by cases h), by decide, by decide⟩)⟩⟩

/-- VectorResult, VectorFrame: instructions with operands on which they are due. -/
theorem test_due_vector_1 :
    (Due vectorRule (.vmov (st 0 4 0 0)) ∧ Due vectorRule (.vmovL (lt 1 0 1 0 0 0 0)) ∧ Due vectorRule (.vbcast (.l (lt 1 0 1 0 0 0 0))) ∧
      Due vectorRule (.vadd (st 0 4 5 0)) ∧ Due vectorRule (.vaddL (lt 1 0 1 0 5 0 0)) ∧ Due vectorRule (.vsub (st 0 4 5 0)) ∧
      Due vectorRule (.vsubL (lt 1 0 1 0 5 0 0)) ∧ Due vectorRule (.vmul (st 0 4 5 0)) ∧ Due vectorRule (.vmulL (lt 1 0 1 0 5 0 0)) ∧
      Due vectorRule (.vfma (st 0 4 5 0)) ∧ Due vectorRule (.vfmaL (lt 1 0 1 0 5 0 0)) ∧ Due vectorRule (.vfms (st 0 4 5 0)) ∧
      Due vectorRule (.vfmsL (lt 1 0 1 0 5 0 0)) ∧ Due vectorRule (.vfnma (st 0 4 5 0)) ∧ Due vectorRule (.vfnmaL (lt 1 0 1 0 5 0 0)) ∧
      Due vectorRule (.vmin (st 0 4 5 0)) ∧ Due vectorRule (.vminL (lt 1 0 1 0 5 0 0)) ∧ Due vectorRule (.vmax (st 0 4 5 0)) ∧
      Due vectorRule (.vmaxL (lt 1 0 1 0 5 0 0)) ∧ Due vectorRule (.vabs (st 0 4 0 0)) ∧ Due vectorRule (.vabsL (lt 1 0 1 0 0 0 0)) ∧
      Due vectorRule (.vneg (st 0 4 0 0)) ∧ Due vectorRule (.vnegL (lt 1 0 1 0 0 0 0)) ∧ Due vectorRule (.vdiv (st 0 4 5 0)) ∧
      Due vectorRule (.vdivL (lt 1 0 1 0 5 0 0)) ∧ Due vectorRule (.vsqrt (st 0 4 0 0)) ∧ Due vectorRule (.vsqrtL (lt 1 0 1 0 0 0 0)) ∧
      Due vectorRule (.vrcp (st 0 4 0 0)) ∧ Due vectorRule (.vrcpL (lt 1 0 1 0 0 0 0)) ∧ Due vectorRule (.vrsq (st 0 4 0 0)) ∧
      Due vectorRule (.vrsqL (lt 1 0 1 0 0 0 0)) ∧ Due vectorRule (.vexp2 (st 0 4 0 0)) ∧ Due vectorRule (.vexp2L (lt 1 0 1 0 0 0 0)) ∧
      Due vectorRule (.vlog2 (st 0 4 0 0))) := by and_intros <;> exact ⟨_, rfl, by decide, alone, due_of (by decide) (⟨by decide, by decide⟩)⟩

/-- VectorResult, VectorFrame: instructions with operands on which they are due. -/
theorem test_due_vector_2 :
    (Due vectorRule (.vlog2L (lt 1 0 1 0 0 0 0)) ∧ Due vectorRule (.vtanh (st 0 4 0 0)) ∧ Due vectorRule (.vtanhL (lt 1 0 1 0 0 0 0)) ∧
      Due vectorRule (.vcmp (lt 1 3 1 0 5 0 0)) ∧ Due vectorRule (.vclass (lt 1 0 1 0 0 0 0)) ∧ Due vectorRule (.vselk (lt 1 0 1 0 5 0 0)) ∧
      Due vectorRule (.viadd (st 0 4 5 0)) ∧ Due vectorRule (.viaddL (lt 1 0 1 0 5 0 0)) ∧ Due vectorRule (.visub (st 0 4 5 0)) ∧
      Due vectorRule (.visubL (lt 1 0 1 0 5 0 0)) ∧ Due vectorRule (.vimul (st 0 4 5 0)) ∧ Due vectorRule (.vimulL (lt 1 0 1 0 5 0 0)) ∧
      Due vectorRule (.vimad (st 0 4 5 0)) ∧ Due vectorRule (.vimadL (lt 1 0 1 0 5 0 0)) ∧ Due vectorRule (.vand (st 0 4 5 0)) ∧
      Due vectorRule (.vandL (lt 1 0 1 0 5 0 0)) ∧ Due vectorRule (.vor (st 0 4 5 0)) ∧ Due vectorRule (.vorL (lt 1 0 1 0 5 0 0)) ∧
      Due vectorRule (.vxor (st 0 4 5 0)) ∧ Due vectorRule (.vxorL (lt 1 0 1 0 5 0 0)) ∧ Due vectorRule (.vshl (st 0 4 5 0)) ∧
      Due vectorRule (.vshlL (lt 1 0 1 0 5 0 0)) ∧ Due vectorRule (.vshr (st 0 4 5 0)) ∧ Due vectorRule (.vshrL (lt 1 0 1 0 5 0 0)) ∧
      Due vectorRule (.vsar (st 0 4 5 0)) ∧ Due vectorRule (.vsarL (lt 1 0 1 0 5 0 0)) ∧ Due vectorRule (.vimin (st 0 4 5 0)) ∧
      Due vectorRule (.viminL (lt 1 0 1 0 5 0 0)) ∧ Due vectorRule (.vimax (st 0 4 5 0)) ∧ Due vectorRule (.vimaxL (lt 1 0 1 0 5 0 0)) ∧
      Due vectorRule (.vicmp (lt 1 3 1 0 5 0 0)) ∧ Due vectorRule (.vcvt (lt 1 0 1 0 0 0 0)) ∧ Due vectorRule (.vqnt (lt 1 0 1 0 5 0 0)) ∧
      Due vectorRule (.vqxmax (lt 1 0 1 0 0 0 0))) := by and_intros <;> exact ⟨_, rfl, by decide, alone, due_of (by decide) (⟨by decide, by decide⟩)⟩

/-- VectorResult, VectorFrame: instructions with operands on which they are due. -/
theorem test_due_vector_3 :
    (Due vectorRule (.vpack (lt 1 0 1 0 5 0 0)) ∧ Due vectorRule (.vunpk (lt 1 0 1 0 0 0 0)) ∧ Due vectorRule (.vrsum (st 0 4 0 0)) ∧
      Due vectorRule (.vrsumL (lt 1 0 1 0 0 0 0)) ∧ Due vectorRule (.vrmax (st 0 4 0 0)) ∧ Due vectorRule (.vrmaxL (lt 1 0 1 0 0 0 0)) ∧
      Due vectorRule (.vrmin (st 0 4 0 0)) ∧ Due vectorRule (.vrminL (lt 1 0 1 0 0 0 0)) ∧ Due vectorRule (.vscan (lt 1 0 1 0 0 0 0)) ∧
      Due vectorRule (.vtopk (lt 1 0 1 0 0 0 0)) ∧ Due vectorRule (.vshuf (lt 1 0 1 0 5 0 0)) ∧ Due vectorRule (.vrot (.l (lt 1 0 1 0 5 0 0))) ∧
      Due vectorRule (.vextr (.l (lt 1 0 1 0 5 0 0))) ∧ Due vectorRule (.vins (.l (lt 1 0 1 0 5 0 0))) ∧ Due vectorRule (.vcomp (lt 1 0 1 0 0 0 0)) ∧
      Due vectorRule (.vexpd (lt 1 0 1 0 0 0 0)) ∧ Due vectorRule (.vld (.l (lt 1 0 1 1 0 0 0))) ∧ Due vectorRule (.vst (.l (lt 9 1 1 0 0 0 0))) ∧
      Due vectorRule (.vlds (lt 1 0 1 1 0 0 0)) ∧ Due vectorRule (.vgath (lt 1 0 9 1 5 0 0)) ∧ Due vectorRule (.vscat (lt 9 1 1 0 5 0 0)) ∧
      Due vectorRule (.kop (lt 1 3 1 3 5 3 0)) ∧ Due vectorRule (.kcnt (lt 1 0 1 3 0 0 0)) ∧ Due vectorRule (.viota (st 0 0 0 0)) ∧
      Due vectorRule (.viotaL (lt 1 0 0 0 0 0 0)) ∧ Due vectorRule (.viotaK (lt 1 0 1 3 0 0 1))) := by and_intros <;> exact ⟨_, rfl, by decide, alone, due_of (by decide) (⟨by decide, by decide⟩)⟩

/-- The frame statements: in each of their tables an instruction that is due runs to a next state. -/
theorem test_frames_run :
    ((∃ t, exec (.add (st 9 4 5 0)) bench = .next t) ∧ (∃ t, exec (.divL (lt 9 0 1 0 5 0 0)) bench = .next t) ∧
      (∃ t, exec (.swr (wt 0 1 0 0 25)) bench = .next t) ∧ (∃ t, exec (.call (xt 0 2)) bench = .next t)) ∧
    ((∃ t, exec (.crew (lt 9 0 1 0 5 0 0)) bench = .next t) ∧ (∃ t, exec (.st (.l (lt 0 0 1 0 5 0 0))) bench = .next t) ∧
      (∃ t, exec (.stg (.l (lt 0 0 2 0 5 0 0))) bench = .next t) ∧ ∃ t, exec (.vmov (st 0 4 0 0)) bench = .next t) ∧
    (∃ t, exec (.qpush (st 1 4 5 0)) bench = .next t) ∧ (∃ t, exec (.tkq (st 9 6 0 0)) bench = .next t) ∧
      (∃ t, exec (.rstat (lt 9 0 0 0 0 0 0)) bench = .next t) ∧ ∃ t, exec (.mtag (lt 1 0 1 0 0 0 0)) bench = .next t :=
  ⟨⟨⟨_, rfl⟩, ⟨_, rfl⟩, ⟨_, rfl⟩, ⟨_, rfl⟩⟩, ⟨⟨_, rfl⟩, ⟨_, rfl⟩, ⟨_, rfl⟩, ⟨_, rfl⟩⟩, ⟨_, rfl⟩, ⟨_, rfl⟩, ⟨_, rfl⟩, ⟨_, rfl⟩⟩

/-- DeviceFrame, StrandFrame: a register that no destination names, in no stream and held throughout. -/
theorem test_looks :
    (match exec (.crew (lt 9 0 1 0 5 0 0)) bench with | .next t => !(bench.strand bench.cur.who).lacks (.g 7) && !(t.strand bench.cur.who).lacks (.g 7) | _ => false) = true ∧
      (match exec (.rstat (lt 9 0 0 0 0 0 0)) bench with
        | .next t => (FMap.find (bench.strand bench.cur.who).streams 1).isNone && (FMap.find (t.strand bench.cur.who).streams 1).isNone
        | _ => false) = true := ⟨rfl, rfl⟩

/-- QueueResult: a tile that is cut-ready with a REPLACE beacon and whose output queues have room; BPASS is due. -/
def passing : State :=
  let p : Port := { queue := 100, consumer := true, items := [{ ordinal := 3, item := beaconItem { kind := 1, seq := 2, rgn := 256 } }] }
  withShop (fun y => { y with ports := FMap.set y.ports 0 p })
theorem test_due_bpass : ∃ r, queueRule .bpass = some r ∧ passing.Alone ∧ r.Due passing :=
  ⟨_, rfl, ⟨by decide, by decide⟩, due_of (by decide) ⟨{ kind := 1, seq := 2, rgn := 256 }, by decide, by decide, by decide⟩⟩

/-! ### Witnesses: decoding, fetching, stepping, memory -/

/-- The state after reset with a line 0 of the store, strand 0 about to run it. -/
def loaded (l : Line) : State :=
  (State.reset.withFetchWord 16 0x0040).modTile 0 (fun y => { y with store := [(0, l)] })

theorem may_loaded (l : Line) : mayIssue { loaded l with due := [] } ⟨0, 0⟩ :=
  ⟨rfl, rfl, rfl, Nat.zero_le _, rfl, (show (bitAt (0 : BitVec 17) 16 && !false) = false by decide), rfl, rfl, rfl, List.not_mem_nil⟩

/-- ADD g3, g1, g2 together with VADD v5, v6, v7, as R28's line has them, and a line whose first head is END. -/
def both : Line := lineOfHeads [(0x4103, 0x0420), (0x60C5, 0x1870)]

/-- StepRunsDecoded: a slot with one half, with two, and with a fetch that finds nothing; an event that is due. -/
theorem test_step_hypotheses :
    (let s := loaded [0x0040]
     s.due = [.slot 0] ∧ mayIssue { s with due := [] } ⟨0, 0⟩ ∧
      ∃ b, fetch (s.tile 0).store (s.strand ⟨0, 0⟩).ip = .ok b ∧ b.scalar = some .nop ∧ b.vector = none) ∧
    (let s := loaded both
     mayIssue { s with due := [] } ⟨0, 0⟩ ∧ ∃ b i j, fetch (s.tile 0).store (s.strand ⟨0, 0⟩).ip = .ok b ∧
      b.scalar = some i ∧ b.vector = some j ∧ (halfOf i).isSome = true ∧ (halfOf j).isSome = true) ∧
    (let s := loaded []
     mayIssue { s with due := [] } ⟨0, 0⟩ ∧ ∃ h, fetch (s.tile 0).store (s.strand ⟨0, 0⟩).ip = .bad h) ∧
    ∃ s r i, State.due s = .event i :: r :=
  ⟨⟨rfl, may_loaded _, _, rfl, rfl, rfl⟩, ⟨may_loaded _, _, _, _, rfl, rfl, rfl, rfl, rfl⟩, ⟨may_loaded _, _, rfl⟩,
    ⟨{ State.reset with due := [.event .coldReset] }, [], _, rfl⟩⟩

/-- A class-1 half alone, and a gang mismatch apart: what a step does with the word of one vector instruction. -/
theorem test_step_vector : ∃ b, fetch ((loaded (lineOfHeads [(0x60C5, 0x1870)])).tile 0).store 0 = .ok b ∧ b.scalar = none ∧ b.vector.isSome = true :=
  ⟨_, rfl, rfl, rfl⟩

/-- DecodeEncode, FetchPlaced: a valid instruction with an encoding, and a machine that can run it in its next step. -/
theorem test_placed_hypotheses :
    Instr.wf (.add (st 9 4 5 0)) = true ∧ (∃ h t, encode (.add (st 9 4 5 0)) = some (h, t)) ∧
      (let x := State.reset.strand ⟨0, State.reset.now 0 % 8⟩
       x.hold = none ∧ x.fused = false ∧ x.struck = [] ∧ 0 ∉ (State.reset.tile 0).badLines) :=
  ⟨by decide, ⟨_, _, rfl⟩, by decide⟩

/-- CanonicalKept: a step of a machine whose memory is canonical. -/
theorem test_step_canonical : bench.MemOk ∧ ∃ t, step bench = .next t := ⟨rfl, _, rfl⟩

/-! ### Words written out from the spec's encodings -/

/-- R57, R56, R58: the words of the first line worked out beside R58, scalar ones. -/
theorem test_decode_scalar :
    decodeTableWord 64 0xC1870C00FFFFFFF0 = some (.addi (wt 7 3 0 0 0xFFFFFFF0)) ∧
      decodeTableWord 48 0x810442019000 = some (.addL { lt 4 1 2 0 1 2 0 with tb := true }) ∧
      decodeTableWord 64 0xC980000000000400 = some (.j (xt 0 0x400)) := ⟨rfl, rfl, rfl⟩

/-- The vector word of the same line. -/
theorem test_decode_vector : decodeTableWord 48 0xA18902410600 = some (.vfmaL { lt 9 0 2 1 1 0 0 with k := 3 }) := rfl

/-- R165: ldf.k g9, [p2+], at scope die. R168: ld.w g3, [g1]. -/
theorem test_decode_memory :
    decodeTableWord 48 0x91490AC00039 = some (.ldf (.l (lt 9 0 10 3 0 0 0x39))) ∧
      decodeTableWord 48 0x90C301000002 = some (.ld (.l (lt 3 0 1 0 0 0 2))) := ⟨rfl, rfl⟩

/-- R94: fence.dev.rw, as the ordering model encodes it. -/
theorem test_decode_fence : decodeTableWord 48 0x8D000000001C = some (.fence (lt 0 0 0 0 0 0 0x1C)) := rfl

/-- R188: acq.t g4, ac, 1 and acq.w g0, ac, 1, as they are worked out behind R197. -/
theorem test_decode_crews :
    decodeTableWord 64 0xCF84000C00000001 = some (.acq (.w (wt 4 0 0 12 1))) ∧
      decodeTableWord 64 0xCF80000400000001 = some (.acq (.w (wt 0 0 0 4 1))) := ⟨rfl, rfl⟩

/-- R225, R352, R355: qdone q3, g8; bcn q2, g4, g5; bpass. -/
theorem test_decode_queues :
    decodeTableWord 32 0x5E400C80 = some (.qdone (st 0 3 8 0)) ∧ decodeTableWord 48 0x968204050000 = some (.bcn (lt 2 0 4 0 5 0 0)) ∧
      decodeTableWord 16 0x16C0 = some .bpass := ⟨rfl, rfl, rfl⟩

/-- R240, R244: ldt.w g5, [g2 + 0x80] at level 3 of sub, rdm.q g9, g5, g10, tkd g7, g6. -/
theorem test_decode_tickets :
    decodeTableWord 64 0xD305080300000080 = some (.ldt (.w (wt 5 2 0 3 0x80))) ∧ decodeTableWord 32 0x534914A1 = some (.rdm (st 9 5 10 1)) ∧
      decodeTableWord 32 0x54071800 = some (.tkd (st 7 6 0 0)) := ⟨rfl, rfl, rfl⟩

/-- R283: cpy q6, [p1]. -/
theorem test_decode_engines : decodeTableWord 48 0x98C609C00000 = some (.cpy (lt 6 0 9 3 0 0 0)) := rfl

/-- The words of the rule through two firings, behind R280. -/
theorem test_decode_matrix :
    decodeTableWord 48 0x9A400AC70000 = some (.mscl (lt 0 0 10 3 7 0 0)) ∧ decodeTableWord 48 0x9A0009C60000 = some (.mfill (lt 0 0 9 3 6 0 0)) ∧
      decodeTableWord 48 0x9C0004050010 = some (.mrule .e4e4 (lt 0 0 4 0 5 0 16)) ∧
      decodeTableWord 48 0x9A800FC00000 = some (.mdrain (lt 0 0 15 3 0 0 0)) ∧
      decodeTableWord 16 0x1AC0 = some (.mwait 0) ∧ decodeTableWord 16 0x1AC4 = some (.mwaitClr 4) := ⟨rfl, rfl, rfl, rfl, rfl, rfl⟩

/-- The line worked out behind R28, unit for unit. -/
def step28 : Line :=
  [0x4103, 0x60C5, 0x4144, 0x0040, 0x6142, 0x62C3, 0] ++ List.replicate 20 0 ++ [0x0800, 0x1450, 0x0C10, 0x1870, 0x0420]

theorem test_line : decodeLine step28 = .ok
    [⟨0, some (.add (st 3 1 2 0)), some (.vadd (st 5 6 7 0)), some 2⟩, ⟨2, some (.sub (st 4 3 1 0)), none, some 3⟩,
      ⟨3, some .nop, some (.vmul (st 2 5 5 0)), some 5⟩, ⟨5, none, some (.vabs (st 3 2 0 0)), none⟩] := rfl

/-- R28: 0x0402 is the head of the VADD, 0x040C is END: neither is a bundle start. -/
theorem test_line_targets :
    fetch [(16, step28)] 0x402 = .bad 0 ∧ fetch [(16, step28)] 0x40C = .bad 0 ∧
      (match fetch [(16, step28)] 0x404 with | .ok b => decide (b.start = 2) | _ => false) = true := ⟨rfl, rfl, rfl⟩

/-- R22: fifteen heads with one unit of tail each and a head with two overlap at head 15. -/
theorem test_line_overlap :
    (match decodeLine (List.replicate 15 0x4103 ++ [0x8104] ++ List.replicate 16 0) with | .error h => decide (h = 15) | _ => false) = true := rfl

/-! ### Worked cases of the spec -/

/-- R107 to R109: −2.75 in every format. -/
theorem test_formats :
    [0, 1, 2, 4, 6, 7].map (fun f => narrow f 0 0 0xC0300000) = [0xC180, 0xC030, 0xC3, 0xC2, 0xD, 0xFD] := by decide +kernel

/-- R112, R113: the S20 scales of the table. -/
theorem test_s20 :
    [0x7F000, 0x7E800, 0x80000, 0x75000].map s20Val = [0x3F800000, 0x3F400000, 0x40000000, 0x3A800000] ∧
      [0x3F800000, 0x3F400000, 0x40000000, 0x3A800000].map s20Of = [0x7F000, 0x7E800, 0x80000, 0x75000] := by decide +kernel

/-- R120, R121: the worked case of stochastic rounding. -/
theorem test_stochastic :
    drawState 1 1 = 0x40822041 ∧ drawState 2 1 = 0x100041060C011441 ∧
      narrow 2 4 (drawNth 1 0) 0x402C0000 = 0x42 ∧ narrow 2 4 (drawNth 1 1) 0x402F0000 = 0x43 := by decide +kernel

/-- R115, R116: code 13 under s = 127 is worth 42 / 64 of 128 / 256. -/
theorem test_q4 :
    OSlot.elem { data := [(0, 0x0D)], side := [(0, 127)] } 5 0 0 = .fin false (42 * 128) (-14) := by decide +kernel

/-- R300: bank 3 refreshes at phases 3072 to 3327. -/
theorem test_refresh :
    [3071, 3072, 3327, 3328].map (fun n => State.refreshing { bench with dies := [(0, { clock := 2 * n })] } 0 3) = [false, true, true, false] := by
  decide +kernel

/-- Three crews that share a tile, as they are worked out behind R197. -/
def crews : State :=
  let units := fun (a n : Nat) => (List.range n).map (fun i => (i, a + i))
  { bench with
    tiles := [(0, { place := some 256, part := 1
                    strands := [(0, { worker with crewId := 0 }), (2, { worker with crewId := 2 })]
                    crews := [(0, { claim := { os := 6, ac := 3 }, joinMask := 1, os := units 0 4, ac := units 0 1 }),
                      (1, { claim := { os := 8, ac := 2 }, joinMask := 2, os := units 4 5, ac := units 1 1 }),
                      (2, { claim := { os := 6, ac := 2 }, joinMask := 4, os := units 9 3, ac := units 2 1 })] })] }
def okNext (o : Host.Outcome State Fault Refusal) (p : State → Bool) : Bool := match o with | .next t => p t | _ => false

/-- Crew 0's request is unsafe; crew 2's is granted as a1. -/
theorem test_bank :
    okNext (exec (.acq (.w (wt 4 0 0 12 1))) crews) (fun t => decide (((t.strand ⟨0, 0⟩).readG 4).val = 0x0800000000000000)) = true ∧
      okNext (exec (.acq (.w (wt 8 0 0 4 1))) { crews with cur := { crews.cur with who := ⟨0, 2⟩ } })
        (fun t => decide (((t.strand ⟨0, 2⟩).readG 8).val = 0x0080000000000000)) = true := by decide +kernel

/-- R130: where two NaNs of the chain meet, the smaller payload wins (behind R278). -/
theorem test_chain_nan :
    madd 0x7FC00000 0x7FC91805 0x7FC92003 = 0x7FC91805 ∧ madd 0x7FC00000 0x3FC00000 0x7FC92003 = 0x7FC92003 := by decide +kernel

/-- R20, R27: the instruction that stands in line 0 runs as the first one after reset. -/
theorem test_runs_after_reset :
    okNext (step (State.reset.withFetchWord 64 0xC0C3000100000000)) (fun t => decide (((t.strand ⟨0, 0⟩).readG 3).val = 0x000100000000)) = true := by
  decide +kernel

/-! ### Ill-formed terms -/

def badS : STail := { d := 63, a := 63, b := 63, ta := true, tb := true, mod := 3 }
def badL : LTail := { d := 63, fd := 3, a := 63, fa := 3, b := 63, fb := 3, ta := true, tb := true, k := 7, sub := 511 }
def badW : WTail := { d := 63, a := 63, fa := 3, ta := true, k := 7, sub := 15, imm := 0xFFFFFFFF }

/-- R60 to R67: each of these has a field that its form does not admit. -/
theorem test_ill_formed_1 :
    [.mov badS, .movL badL, .movE badS, .movEL badL, .add badS, .addL badL, .sub badS, .subL badL, .addi badW, .mul badS, .mulL badL, .mulh badS,
      .mulhL badL, .divL badL, .remL badL, .and badS, .andL badL, .or badS, .orL badL, .xor badS, .xorL badL, .andn badS, .andnL badL, .shl badS,
      .shlL badL, .shr badS, .shrL badL, .sar badS, .sarL badL, .rot badS, .rotL badL, .shi badW, .logi badW, .clz badS, .clzL badL, .ctz badS,
      .ctzL badL, .popc badS, .popcL badL, .min badS, .minL badL, .max badS, .maxL badL, .minu badS, .minuL badL, .maxu badS, .maxuL badL, .sel badL].all (fun i => !Instr.wf i) = true := by decide

/-- R60 to R67: each of these has a field that its form does not admit. -/
theorem test_ill_formed_2 :
    [.cmpL badL, .cmpi badW, .ext badW, .ins badW, .bswap badS, .bswapL badL, .lea (.l badL), .lea (.w badW), .pset (.l badL), .pset (.w badW),
      .padd badW, .paddSt badW, .pget badL, .j (xt 1 0), .jr badS, .jrLForm badL, .jrLink badS, .jrLinkLForm badL, .call (xt 1 0), .br badW,
      .bz badW, .bnz badW, .loop badW, .gbr badW, .spawn badW, .trap badW, .srd badW, .swr badW, .swrRndSeed badW, .swrReportQ badW,
      .swrTrapVec badW, .swrWaitLimit badW, .fence badL, .rfill badL, .rget badL, .gfuse badL, .gred badL, .gxch badL, .crew badL, .cjoin badS,
      .cjoinL badL, .cjoinX badS, .cjoinXL badL, .acq (.l badL), .acq (.w badW), .acqm badL, .rel (.l badL), .rel (.w badW)].all (fun i => !Instr.wf i) = true := by decide

/-- R60 to R67: each of these has a field that its form does not admit. -/
theorem test_ill_formed_3 :
    [.relm badL, .hold badL, .ld (.l badL), .ld (.w badW), .st (.l badL), .st (.w badW), .ldf (.l badL), .ldf (.w badW), .ste (.l badL),
      .ste (.w badW), .stf (.l badL), .stf (.w badW), .steG (.l badL), .steG (.w badW), .stfG (.l badL), .stfG (.w badW), .tagQ (.l badL),
      .tagQ (.w badW), .tagE (.l badL), .tagE (.w badW), .tagF (.l badL), .tagF (.w badW), .tagWa (.l badL), .tagWa (.w badW), .ldg (.l badL),
      .ldg (.w badW), .stg (.l badL), .stg (.w badW), .amo badL, .cas badL, .ldt (.l badL), .ldt (.w badW), .rdm badS, .rdmL badL, .rdmsL badL,
      .tkq badS, .tkqL badL, .tkd badS, .tkdL badL, .qbind badW, .qunb 63, .qpush badS, .qpushL badL, .qpop badS, .qpopL badL, .qtry badS,
      .qtryL badL, .qpeek badS].all (fun i => !Instr.wf i) = true := by decide

/-- R60 to R67: each of these has a field that its form does not admit. -/
theorem test_ill_formed_4 :
    [.qpeekL badL, .qsel badL, .qcancel (.l badL), .qcancel (.w badW), .qstat badL, .qdone badS, .qdoneL badL, .qdoneO badS, .qdoneOL badL,
      .bcn badL, .rawait badL, .rrel badL, .rstat badL, .barinit (.l badL), .barinit (.w badW), .bararv badL, .barexp (.l badL), .barexp (.w badW),
      .barwait badL, .cpy badL, .sbind badL, .sunb 63, .mfill badL, .mscl badL, .mrule .e4e4 badL, .mrulxTags badL, .mrulxFill badL, .mrulxFb badL,
      .mrulxNofb badL, .mtag badL, .mwait 63, .mwaitClr 63, .mdrain badL, .mclrAcc 63, .mclrSlot 63, .mstat badS, .mstatL badL, .mred badL,
      .vmov badS, .vmovL badL, .vbcast (.l badL), .vbcast (.w badW), .vadd badS, .vaddL badL, .vsub badS, .vsubL badL, .vmul badS, .vmulL badL].all (fun i => !Instr.wf i) = true := by decide

/-- R60 to R67: each of these has a field that its form does not admit. -/
theorem test_ill_formed_5 :
    [.vfma badS, .vfmaL badL, .vfms badS, .vfmsL badL, .vfnma badS, .vfnmaL badL, .vmin badS, .vminL badL, .vmax badS, .vmaxL badL, .vabs badS,
      .vabsL badL, .vneg badS, .vnegL badL, .vdiv badS, .vdivL badL, .vsqrt badS, .vsqrtL badL, .vrcp badS, .vrcpL badL, .vrsq badS, .vrsqL badL,
      .vexp2 badS, .vexp2L badL, .vlog2 badS, .vlog2L badL, .vtanh badS, .vtanhL badL, .vcmp badL, .vclass badL, .vselk badL, .viadd badS,
      .viaddL badL, .visub badS, .visubL badL, .vimul badS, .vimulL badL, .vimad badS, .vimadL badL, .vand badS, .vandL badL, .vor badS, .vorL badL,
      .vxor badS, .vxorL badL, .vshl badS, .vshlL badL, .vshr badS].all (fun i => !Instr.wf i) = true := by decide

/-- R60 to R67: each of these has a field that its form does not admit. -/
theorem test_ill_formed_6 :
    [.vshrL badL, .vsar badS, .vsarL badL, .vimin badS, .viminL badL, .vimax badS, .vimaxL badL, .vicmp badL, .vcvt badL, .vqnt badL, .vqxmax badL,
      .vpack badL, .vunpk badL, .vrsum badS, .vrsumL badL, .vrmax badS, .vrmaxL badL, .vrmin badS, .vrminL badL, .vscan badL, .vtopk badL,
      .vshuf badL, .vrot (.l badL), .vrot (.w badW), .vextr (.l badL), .vextr (.w badW), .vins (.l badL), .vins (.w badW), .vcomp badL, .vexpd badL,
      .vld (.l badL), .vld (.w badW), .vst (.l badL), .vst (.w badW), .vlds badL, .vgath badL, .vscat badL, .kop badL, .kcnt badL, .viota badS,
      .viotaL badL, .viotaK badL].all (fun i => !Instr.wf i) = true := by decide

/-- R60, R61: a file code that the operand does not admit, and indices past the end of a file. -/
theorem test_ill_files :
    Instr.wf (.addL (lt 9 1 31 1 15 2 0)) = true ∧
      [.addL (lt 9 3 31 1 15 2 0), .addL (lt 32 1 31 1 15 2 0), .addL (lt 9 1 32 1 15 2 0), .addL (lt 9 1 31 1 16 2 0), .movL (lt 9 0 16 3 0 0 0),
        .vaddL (lt 32 0 1 0 1 0 0), .vaddL (lt 1 0 16 1 1 0 0), .vaddL (lt 1 0 1 0 16 2 0), .vaddL (lt 1 0 1 3 1 0 0)].all
          (fun i => !Instr.wf i) = true := by decide

/-- R63, R64, R67: a trap bit on a pointer or on no operand, a mask where none is taken, and a field that shall be zero. -/
theorem test_ill_fields :
    Instr.wf (.vaddL (lt 1 0 1 1 1 0 0)) = true ∧ Instr.wf (.vpack (lt 1 0 1 0 1 0 0)) = true ∧ Instr.wf (.clzL (lt 1 0 1 0 0 0 0)) = true ∧
      [.vaddL { lt 1 0 1 1 1 0 0 with ta := true }, .clzL { lt 1 0 1 0 0 0 0 with tb := true }, .vpack { lt 1 0 1 0 1 0 0 with k := 1 },
        .clzL (lt 1 0 1 0 1 0 0), .clzL (lt 1 0 1 0 0 1 0), .vpack (lt 1 0 1 0 1 0 3)].all (fun i => !Instr.wf i) = true := by decide

/-- R50, R78, R214: an immediate that names no register, shifts too far, or has a reserved bit set. -/
theorem test_ill_immediates :
    Instr.wf (.srd (wt 9 0 0 0 4)) = true ∧ Instr.wf (.shi (wt 9 1 0 4 31)) = true ∧ Instr.wf (.qbind (wt 9 0 0 0 0xFF1F)) = true ∧
      [.srd (wt 9 0 0 0 5), .shi (wt 9 1 0 4 32), .shi (wt 9 1 0 0 64), .qbind (wt 9 0 0 0 0x20), .qbind (wt 9 0 0 0 0x10000)].all
        (fun i => !Instr.wf i) = true := by decide

end Sys2Proof.Tests
end

section
/-!
SUPPORT. The issue of a bundle of one half that raises a cause, on a strand that no gang shares it with (R19, R68, R99).
-/
namespace Sys2Proof.Machine

/-- An encoding that is illegal where it stands is the first cause of its half (R68). -/
theorem step1_illegal (h : Half) (s : State) (w : Who) (hi : h.illegal s w = true) :
    h.step1 s w = some { code := .illegalOpcode, info := h.word s } := by
  simp [Half.step1, hi]

/-- A strand alone in its bundle, of which no gang has been formed, takes its trap itself. -/
theorem raise_lone (s : State) (c : Cause) (hm : (s.strand s.cur.who).matched = false) :
    s.raise [s.cur.who] [(s.cur.who, c)] = s.takeTrap s.cur.who c s.cur.ip := by
  simp [State.raise, hm]

/-- A cause of the first step of R19 is raised before anything else of the bundle is looked at. -/
theorem run1_raises_step1 (h : Half) (s : State) (c : Cause) (hl : s.Lone) (hb : hasRepeat h.bumps = false)
    (h1 : h.step1 s s.cur.who = some c) : run1 h s = .next (s.takeTrap s.cur.who c s.cur.ip) := by
  obtain ⟨⟨hf, hz⟩, hm⟩ := hl
  simp [run1, issue, members_alone s _ hf, hz, causesOf, Half.twice, hb, h1, firstCause, raise_lone s c hm]

/-- A cause of the third step of R19 is raised once the operands of the half are there. -/
theorem run1_raises_own (h : Half) (s : State) (c : Cause) (hl : s.Lone) (hb : hasRepeat h.bumps = false)
    (h1 : h.step1 s s.cur.who = none) (h2 : h.emptySource [] s s.cur.who = none) (h3 : h.sourceWait s s.cur.who = none)
    (h4 : h.own s s.cur.who = some c) : run1 h s = .next (s.takeTrap s.cur.who c s.cur.ip) := by
  obtain ⟨⟨hf, hz⟩, hm⟩ := hl
  simp [run1, issue, members_alone s _ hf, hz, causesOf, Half.twice, hb, h1, h2, h3, h4, firstCause, parts, raise_lone s c hm]

/-- A half that is not idle and whose reads are free of parity errors raises its own trap. -/
theorem own_of_traps (h : Half) (s : State) (c : Cause) (hk : s.MaskReady h.mask) (hi : h.idle s s.cur.who = false)
    (hp : h.parity s s.cur.who = none) (ht : h.traps s s.cur.who = some c) : h.own s s.cur.who = some c := by
  simp [Half.own, maskParity_none h s hk, hi, hp, ht, firstCause]

theorem readable_nil (s : State) : s.Readable [] := ⟨by simp, rfl⟩

theorem writable_nil (s : State) : s.Writable [] := by simp [State.Writable]

/-- k0 masks nothing (R37, R64). -/
theorem maskOn_zero (s : State) : s.MaskOn 0 := ⟨⟨rfl, rfl⟩, by simp [bitAt]⟩

/-- The strand leads itself while no gang has it (R51). -/
theorem leader_alone (s : State) (w : Who) (h : (s.strand w).fused = false) : s.leader w = w := by
  simp [State.leader, h]

/-- A scalar half without operands whose mask is on raises the trap that it has (R19, R64). -/
theorem bare_raises (h : Half) (s : State) (c : Cause) (hl : s.Lone) (hv : h.vec = false) (hm : s.MaskOn h.mask) (hs : h.srcs = [])
    (hd : h.dests = []) (hx : h.readsToo = []) (h1 : h.illegal s s.cur.who = false) (h2 : h.privileged s s.cur.who = false)
    (h3 : h.names s s.cur.who = none) (ht : h.traps s s.cur.who = some c) :
    run1 h s = .next (s.takeTrap s.cur.who c s.cur.ip) := by
  have hr : s.Readable h.srcs := hs ▸ readable_nil s
  have hw : s.Writable h.dests := hd ▸ writable_nil s
  have hstep : h.step1 s s.cur.who = none := by simp [Half.step1, h1, h2, denied_none h s hr hw h3]
  have hown : h.own s s.cur.who = some c :=
    own_of_traps h s c hm.1 (idle_of_maskOn h s hv hm) (parity_none h s hr hw (by simp [hx])) ht
  exact run1_raises_own h s c hl (by simp [Half.bumps, hs, hd, hasRepeat]) hstep (emptySource_none h s hr)
    (sourceWait_none h s hm.1.1 hr) hown

/-- A scalar half of no operands, accesses, draws and traps has its effect (R19). -/
theorem bare_completes (f : State → Who → Bool) (t : State → Who → Option Cause) (e : State → State → Who → State) (s : State)
    (ha : s.Alone) (hf : f s s.cur.who = false) (ht : t s s.cur.who = none) :
    run1 { illegal := f, traps := t, effect := e } s = .next ((e s s.past s.cur.who).settleStreams s.cur.who) := by
  have hm := maskOn_zero s
  refine half_completes _ s ha (idle_of_maskOn _ s rfl hm) hm.1 (readable_nil s) (writable_nil s) ?_ rfl hf rfl rfl ht ?_ ?_ rfl ?_
    rfl rfl
  · simp
  · simp [State.BanksOpen]
  · simp
  · simp [State.Unwatched]

/-- TRAP_INFO of TRAP: the code, and the low 17 bits of the next IP above it (R96). -/
theorem softInfo_eq (code : BitVec 32) (next : Word) :
    softInfo code next = BitVec.ofNat 64 (code.toNat + 2 ^ 32 * (next.toNat % 2 ^ 17)) := by
  have hc := code.isLt
  have h : code.toNat / 2 ^ 32 = 0 := Nat.div_eq_of_lt hc
  simp only [softInfo, putField, fieldNat, BitVec.toNat_setWidth_of_le (by decide : 32 ≤ 64), h]
  simp [Nat.mul_comm]

end Sys2Proof.Machine

namespace Sys2Proof.Claims
open Sys2Proof.Machine

/-- Settles O9: TRAP and BRK raise the trap of their half, TRET outside a handler is illegal at the first step, and BRK when it is
ignored and TRET in a handler complete. -/
theorem trapInstructions : Obligations.TrapInstructions := by
  intro s hl
  refine ⟨fun t _ hm => ?_, fun hi => ?_, fun hi => ?_, fun hc => ?_, fun hc => ?_⟩
  · rw [← softInfo_eq]
    exact bare_raises (hTrap t) s _ hl rfl hm rfl rfl rfl rfl rfl rfl rfl
  · have hinfo := softInfo_eq 0 s.cur.next
    rw [show (0 : BitVec 32).toNat = 0 from rfl, Nat.zero_add] at hinfo
    rw [← hinfo]
    exact bare_raises hBrk s _ hl rfl (maskOn_zero s) rfl rfl rfl rfl rfl rfl (by simp [hBrk, hi])
  · exact bare_completes _ _ _ s hl.1 rfl (by simp [hi])
  · have hx : exec .tret s = _ := bare_completes _ _ _ s hl.1 (by simp [bitAt, hc]) rfl
    rw [hx, leader_alone s _ hl.1.1]
  · exact run1_raises_step1 hTret s _ hl rfl (step1_illegal hTret s _ (by simpa [hTret, bitAt] using hc))

end Sys2Proof.Claims
end

section
/-!
SUPPORT. Scalar results: the operations of the model on words of n bits against the numbers that R71 to R84 give for them.
-/
namespace Sys2Proof.Claims
open Sys2Proof.Machine

/-! ### Operands and results at a width (R71) -/

/-- The low n bits of an operand (R71). -/
def low (w : Bool) (x : Word) : BitVec (width w) := x.setWidth (width w)

theorem width_pos (w : Bool) : 0 < width w := by cases w <;> decide

theorem uval_eq (w : Bool) (x : Word) : uval w x = (low w x).toNat := by
  simp [uval, low]

/-- A word as a signed number is its unsigned number below half of the range, and that less the range from there on. -/
theorem sval_eq (w : Bool) (x : Word) : sval w x = (low w x).toInt := by
  have hp : 2 * 2 ^ (width w - 1) = 2 ^ width w := by cases w <;> rfl
  rw [sval, uval_eq, BitVec.toInt_eq_toNat_cond]
  simp only [← hp, Nat.mul_lt_mul_left (by decide : 0 < 2)]
  split
  · rfl
  · rw [hp]; norm_cast

theorem narrowed_eq (w : Bool) (r : Int) : narrowed w r = (BitVec.ofInt (width w) r).signExtend 64 := by
  cases w
  · exact (BitVec.signExtend_eq _).symm
  · rfl

/-- R71: the operation on the low n bits, sign-extended. -/
theorem atWidth_eq (w : Bool) (f : {n : Nat} → BitVec n → BitVec n → BitVec n) (x y : Word) :
    atWidth w f x y = (f (low w x) (low w y)).signExtend 64 := by
  cases w
  · simp [atWidth, low, width]
  · rfl

/-- An operation has a number as its result where the low n bits do. -/
theorem atWidth_narrowed {w : Bool} {f : {n : Nat} → BitVec n → BitVec n → BitVec n} {x y : Word} {r : Int}
    (h : f (low w x) (low w y) = BitVec.ofInt (width w) r) : atWidth w f x y = narrowed w r := by
  rw [atWidth_eq, narrowed_eq, h]

theorem ofInt_toNat {n : Nat} (x : BitVec n) : BitVec.ofInt n (x.toNat : Int) = x := by simp

theorem ofInt_sub {n : Nat} (i j : Int) : BitVec.ofInt n (i - j) = BitVec.ofInt n i - BitVec.ofInt n j := by
  rw [Int.sub_eq_add_neg, BitVec.ofInt_add, BitVec.ofInt_neg, BitVec.sub_eq_add_neg]

/-! ### Two sources (R72, R78) -/

/-- The bits of x outside y are x without the bits that both have. -/
theorem andn_toNat {n : Nat} (x y : BitVec n) : (x &&& ~~~y).toNat = x.toNat - (x.toNat &&& y.toNat) := by
  have hdisj : x &&& ~~~y &&& (x &&& y) = 0#n := by
    ext i hi
    cases hx : x[i] <;> simp [hx]
  have hor : x &&& ~~~y ||| x &&& y = x := by
    ext i hi
    cases hy : y[i] <;> simp [hy]
  have hsub : x &&& ~~~y = x - (x &&& y) := BitVec.eq_sub_iff_add_eq.2 (by rw [BitVec.add_eq_or_of_and_eq_zero _ _ hdisj, hor])
  rw [hsub, BitVec.toNat_sub_of_le (by rw [BitVec.le_def, BitVec.toNat_and]; exact Nat.and_le_left), BitVec.toNat_and]

theorem shiftLeft_eq_ofInt {n : Nat} (x : BitVec n) (c : Nat) : x <<< c = BitVec.ofInt n (x.toNat * 2 ^ c : Nat) := by
  apply BitVec.eq_of_toNat_eq
  rw [BitVec.ofInt_natCast, BitVec.toNat_shiftLeft, BitVec.toNat_ofNat, Nat.shiftLeft_eq]

theorem shiftRight_eq_ofInt {n : Nat} (x : BitVec n) (c : Nat) : x >>> c = BitVec.ofInt n (x.toNat / 2 ^ c : Nat) := by
  rw [← Nat.shiftRight_eq_div_pow, ← BitVec.toNat_ushiftRight, ofInt_toNat]

theorem sshiftRight_eq_ofInt {n : Nat} (x : BitVec n) (c : Nat) : x.sshiftRight c = BitVec.ofInt n (x.toInt / 2 ^ c) := by
  rw [← BitVec.ofInt_toInt (x := x.sshiftRight c), BitVec.toInt_sshiftRight, Int.shiftRight_eq_div_pow]
  norm_cast

/-- A rotate is the sum of the two shifts, which have no bit in common. -/
theorem rotateLeft_eq_ofInt {n : Nat} (x : BitVec n) {c : Nat} (hc : c < n) :
    x.rotateLeft c = BitVec.ofInt n (x.toNat * 2 ^ c + x.toNat / 2 ^ (n - c) : Nat) := by
  have hdisj : x <<< c &&& x >>> (n - c) = 0#n := by
    ext i hi
    simp only [BitVec.getElem_and, BitVec.getElem_shiftLeft, BitVec.getElem_ushiftRight, BitVec.getElem_zero, Bool.and_eq_false_iff]
    by_cases h : i < c
    · simp [h]
    · exact .inr (BitVec.getLsbD_of_ge _ _ (by omega))
  rw [BitVec.rotateLeft_def, Nat.mod_eq_of_lt hc, ← BitVec.add_eq_or_of_and_eq_zero _ _ hdisj, shiftLeft_eq_ofInt,
    shiftRight_eq_ofInt, ← BitVec.ofInt_add]
  norm_cast

/-- R72, R78: shifts and rotates by fewer places than the width has. -/
theorem shift_eq_shifted (op : AluOp) (w : Bool) (x y : Word) {c : Nat} (hc : c < width w) :
    atWidth w (fun x _ => AluOp.shift op x c) x y = shifted op w x c := by
  apply atWidth_narrowed
  simp only [uval_eq, sval_eq]
  cases op with
  | shl => exact shiftLeft_eq_ofInt _ _
  | shr => exact shiftRight_eq_ofInt _ _
  | sar => exact sshiftRight_eq_ofInt _ _
  | _ => exact rotateLeft_eq_ofInt _ hc

/-- A shift by the second source takes its count modulo the width (R72). -/
theorem shift_by_source (op : AluOp) (w : Bool) (x y : Word) :
    atWidth w (fun {n} x y => AluOp.shift op x (y.toNat % n)) x y = shifted op w x (uval w y % width w) := by
  rw [← shift_eq_shifted op w x y (Nat.mod_lt _ (width_pos w)), atWidth_eq, atWidth_eq, uval_eq]

theorem min_eq_ofInt {n : Nat} (x y : BitVec n) : AluOp.run .min x y = BitVec.ofInt n (min x.toInt y.toInt) := by
  rcases lt_or_ge x.toInt y.toInt with h | h
  · simp [AluOp.run, BitVec.slt_eq_decide, h, min_eq_left h.le]
  · simp [AluOp.run, BitVec.slt_eq_decide, h.not_gt, min_eq_right h]

theorem max_eq_ofInt {n : Nat} (x y : BitVec n) : AluOp.run .max x y = BitVec.ofInt n (max x.toInt y.toInt) := by
  rcases lt_or_ge x.toInt y.toInt with h | h
  · simp [AluOp.run, BitVec.slt_eq_decide, h, max_eq_right h.le]
  · simp [AluOp.run, BitVec.slt_eq_decide, h.not_gt, max_eq_left h]

theorem minu_eq_ofInt {n : Nat} (x y : BitVec n) : AluOp.run .minu x y = BitVec.ofInt n (min x.toNat y.toNat : Nat) := by
  rcases lt_or_ge x.toNat y.toNat with h | h
  · simp [AluOp.run, BitVec.ult_eq_decide, h, min_eq_left h.le]
  · simp [AluOp.run, BitVec.ult_eq_decide, h.not_gt, min_eq_right h]

theorem maxu_eq_ofInt {n : Nat} (x y : BitVec n) : AluOp.run .maxu x y = BitVec.ofInt n (max x.toNat y.toNat : Nat) := by
  rcases lt_or_ge x.toNat y.toNat with h | h
  · simp [AluOp.run, BitVec.ult_eq_decide, h, max_eq_right h.le]
  · simp [AluOp.run, BitVec.ult_eq_decide, h.not_gt, max_eq_left h]

/-- R72: the two-source operations. -/
theorem run_eq_two (op : AluOp) (w : Bool) (x y : Word) : atWidth w op.run x y = two op w x y := by
  cases op with
  | add => exact atWidth_narrowed (by simp [AluOp.run, sval_eq, BitVec.ofInt_add])
  | sub => exact atWidth_narrowed (by simp [AluOp.run, sval_eq, ofInt_sub])
  | mul => exact atWidth_narrowed (by simp [AluOp.run, sval_eq, BitVec.ofInt_mul])
  | and => exact atWidth_narrowed (by simp [AluOp.run, uval_eq])
  | or => exact atWidth_narrowed (by simp [AluOp.run, uval_eq])
  | xor => exact atWidth_narrowed (by simp [AluOp.run, uval_eq])
  | andn => exact atWidth_narrowed (by rw [uval_eq, uval_eq, ← andn_toNat, ofInt_toNat]; rfl)
  | min => exact atWidth_narrowed (by rw [sval_eq, sval_eq]; exact min_eq_ofInt _ _)
  | max => exact atWidth_narrowed (by rw [sval_eq, sval_eq]; exact max_eq_ofInt _ _)
  | minu => exact atWidth_narrowed (by rw [uval_eq, uval_eq]; exact minu_eq_ofInt _ _)
  | maxu => exact atWidth_narrowed (by rw [uval_eq, uval_eq]; exact maxu_eq_ofInt _ _)
  | shl => exact shift_by_source .shl w x y
  | shr => exact shift_by_source .shr w x y
  | sar => exact shift_by_source .sar w x y
  | rot => exact shift_by_source .rot w x y

/-- R73. -/
theorem mulHigh_eq_high (sub : Nat) (x y : Word) : mulHigh sub x y = high sub x y := by
  simp [mulHigh, high, uval_eq, sval_eq, low, width]

/-! ### Division (R74) -/

theorem sdiv_eq_ofInt {n : Nat} (x y : BitVec n) : x.sdiv y = BitVec.ofInt n (x.toInt.tdiv y.toInt) := by
  apply BitVec.eq_of_toInt_eq
  rw [BitVec.toInt_sdiv, BitVec.toInt_ofInt]

theorem srem_eq_ofInt {n : Nat} (x y : BitVec n) : x.srem y = BitVec.ofInt n (x.toInt.tmod y.toInt) := by
  rw [← BitVec.toInt_srem, BitVec.ofInt_toInt]

/-- The one signed overflow needs no case of its own: the quotient modulo 2^n is the dividend, and the remainder is 0 (R74). -/
theorem signed_division (rem : Bool) {n : Nat} (hn : 0 < n) (x y : BitVec n) (hy : y ≠ 0) :
    divRem rem true x y = BitVec.ofInt n (if rem then x.toInt.tmod y.toInt else x.toInt.tdiv y.toInt) := by
  rw [divRem, if_neg hy, if_pos rfl]
  split
  · next h =>
    obtain ⟨rfl, rfl⟩ := h
    cases rem
    · rw [← BitVec.neg_one_eq_allOnes]
      simpa [BitVec.intMin_sdiv_neg_one] using sdiv_eq_ofInt (BitVec.intMin n) (-1#n)
    · simp [BitVec.toInt_allOnes, hn]
  · cases rem
    · simpa using sdiv_eq_ofInt x y
    · simpa using srem_eq_ofInt x y

/-- R74. -/
theorem divRem_eq_quotient (rem u w : Bool) (x y : Word) : atWidth w (divRem rem (!u)) x y = quotient rem u w x y := by
  unfold quotient
  simp only [uval_eq, sval_eq]
  split
  · next hy =>
    have hy : low w y = 0 := BitVec.eq_of_toNat_eq hy
    cases rem
    · exact atWidth_narrowed (by rw [divRem, if_pos hy, BitVec.ofInt_neg, ← BitVec.neg_one_eq_allOnes]; rfl)
    · exact atWidth_narrowed (by rw [divRem, if_pos hy, ofInt_toNat]; rfl)
  · next hy =>
    have hy : low w y ≠ 0 := fun h => hy (by rw [h]; rfl)
    cases u
    · exact atWidth_narrowed (signed_division rem (width_pos w) _ _ hy)
    · refine atWidth_narrowed ?_
      rw [divRem, if_neg hy]
      cases rem
      · exact (ofInt_toNat (low w x / low w y)).symm
      · exact (ofInt_toNat (low w x % low w y)).symm

/-! ### One source (R75) -/

/-- The low n bits of a number, lowest first. -/
def bitList (x n : Nat) : List Bool := (List.range n).map (fun i => decide (x / 2 ^ i % 2 = 1))

theorem bitList_succ (x n : Nat) : bitList x (n + 1) = bitList x n ++ [x.testBit n] := by
  simp [bitList, List.range_succ, Nat.testBit_eq_decide_div_mod_eq]

theorem countLead_eq (x n : Nat) : ((bitList x n).reverse.takeWhile (fun b => !b)).length = countLead x n := by
  induction n with
  | zero => rfl
  | succ n ih => cases h : x.testBit n <;> simp [bitList_succ, countLead, h, ih, Nat.add_comm]

theorem countOnes_eq (x n : Nat) : (bitList x n).count true = countOnes x n := by
  induction n with
  | zero => rfl
  | succ n ih => cases h : x.testBit n <;> simp [bitList_succ, countOnes, natOfBool, h, ih, Nat.add_comm]

/-- Counting from bit i on. -/
theorem countTrail_from (x i n : Nat) :
    (((List.range' i n).map (fun i => decide (x / 2 ^ i % 2 = 1))).takeWhile (fun b => !b)).length = countTrail x i n := by
  induction n generalizing i with
  | zero => rfl
  | succ n ih =>
    rw [List.range'_succ, List.map_cons, ← Nat.testBit_eq_decide_div_mod_eq, countTrail]
    cases h : x.testBit i <;> simp [← ih (i + 1), Nat.add_comm]

theorem countTrail_eq (x n : Nat) : ((bitList x n).takeWhile (fun b => !b)).length = countTrail x 0 n := by
  rw [← countTrail_from, bitList, List.range_eq_range']

/-- Byte i of k goes to the place of byte k - 1 - i. -/
theorem reverseBytes_eq (x k : Nat) :
    ((List.range k).map (fun i => x / 256 ^ i % 256 * 256 ^ (k - 1 - i))).sum = reverseBytes x k := by
  induction k generalizing x with
  | zero => rfl
  | succ k ih =>
    rw [List.range_succ_eq_map, List.map_cons, List.map_map, List.sum_cons, reverseBytes, ← ih (x / 256)]
    congr 2
    · simp
    · apply List.map_congr_left
      intro i _
      simp [Nat.div_div_eq_div_mul, Nat.pow_succ', Nat.sub_sub, Nat.add_comm]

/-- R75. -/
theorem bits_eq_one (op : BitOp) (w : Bool) (x y : Word) : atWidth w (fun x _ => op.run x) x y = one op w x := by
  refine atWidth_narrowed ?_
  rw [uval_eq]
  cases op with
  | clz => simp only [BitOp.run, BitVec.ofInt_natCast, ← countLead_eq]; rfl
  | ctz => simp only [BitOp.run, BitVec.ofInt_natCast, ← countTrail_eq]; rfl
  | popc => simp only [BitOp.run, BitVec.ofInt_natCast, ← countOnes_eq]; rfl
  | bswap => simp only [BitOp.run, BitVec.ofInt_natCast, ← reverseBytes_eq]

/-! ### Comparison (R79, R80) -/

theorem compare_eq_cond (w : Bool) (code : Nat) (x y : Word) : Machine.compare w code x y = Machine.cond code (low w x) (low w y) := by
  cases w
  · simp [Machine.compare, low, width]
  · rfl

/-- R79: the conditions. -/
theorem compare_eq_holds (w : Bool) (code : Nat) (x y : Word) : Machine.compare w code x y = holds code w x y := by
  rw [compare_eq_cond]
  match code with
  | 0 => simp [Machine.cond, holds, sval_eq, BitVec.toInt_inj, beq_eq_decide]
  | 1 => simp [Machine.cond, holds, sval_eq, BitVec.toInt_inj, bne, beq_eq_decide]
  | 2 => simp [Machine.cond, holds, sval_eq, BitVec.slt_eq_decide]
  | 3 => simp only [Machine.cond, holds, sval_eq, BitVec.slt_eq_decide, ← decide_not, Int.not_lt]
  | 4 => simp [Machine.cond, holds, uval_eq, BitVec.ult_eq_decide]
  | 5 => simp only [Machine.cond, holds, uval_eq, BitVec.ult_eq_decide, ← decide_not, Nat.not_lt]
  | _ + 6 => rfl

/-- R80: the value that a comparison writes. -/
theorem cmp_result (d : Loc) (w : Bool) (code : Nat) (x y : Word) : cmpValue d (Machine.compare w code x y) = truth d (holds code w x y) :=
  congrArg (truth d) (compare_eq_holds w code x y)

/-! ### Bit fields, addresses and pointers (R40, R82 to R84) -/

theorem extract_eq_extracted (signed : Bool) (x : Word) (lo w : Nat) : extract signed x lo w = extracted signed x lo w := by
  have hb : fieldNat x lo w = bitsOf x lo w := rfl
  simp only [extract, extracted, hb, Bool.and_eq_true, decide_eq_true_eq]
  split
  · rfl
  · exact (BitVec.ofInt_natCast _ _).symm

theorem lea_register (x y : Word) (k : Nat) : x + y <<< k = BitVec.ofNat 64 (x.toNat + y.toNat * 2 ^ k) := by
  apply BitVec.eq_of_toNat_eq
  simp [Nat.shiftLeft_eq]

theorem shiftLeft_toInt {n : Nat} (x : BitVec n) (k : Nat) : x <<< k = BitVec.ofInt n (x.toInt * 2 ^ k) := by
  have hpow : BitVec.ofInt n (2 ^ k) = BitVec.twoPow n k := by
    apply BitVec.eq_of_toNat_eq
    rw [BitVec.toNat_twoPow, ← BitVec.toNat_ofNat, ← BitVec.ofInt_natCast]
    norm_cast
  rw [BitVec.ofInt_mul, BitVec.ofInt_toInt, hpow, BitVec.shiftLeft_eq_mul_twoPow]

theorem lea_immediate (x : Word) (imm : BitVec 32) (k : Nat) :
    x + imm.signExtend 64 <<< k = BitVec.ofInt 64 (x.toInt + imm.toInt * 2 ^ k) := by
  have himm : (imm.signExtend 64).toInt = imm.toInt := BitVec.toInt_signExtend_of_le (by decide)
  rw [shiftLeft_toInt, himm, BitVec.ofInt_add, BitVec.ofInt_toInt]

/-- The image of a pointer register: the stride lies above the address (R40). -/
theorem image_eq (p : Ptr) : p.image = imageOf p := by
  have ha := p.addr.isLt
  have hs := p.stride.isLt
  have hor := Nat.shiftLeft_add_eq_or_of_lt (i := 32) (b := p.addr.toNat) (by omega) p.stride.toNat
  rw [Nat.shiftLeft_eq] at hor
  apply BitVec.eq_of_toNat_eq
  rw [Ptr.image, imageOf, BitVec.toNat_or, BitVec.toNat_shiftLeft, BitVec.toNat_setWidth, BitVec.toNat_setWidth, BitVec.toNat_ofNat,
    Nat.shiftLeft_eq, Nat.mod_eq_of_lt (by omega), Nat.mod_eq_of_lt (by omega), Nat.mod_eq_of_lt (by omega), Nat.mod_eq_of_lt (by omega),
    ← hor, Nat.add_comm]

/-! ### Operands (R60, R69) -/

/-- A scalar operand field names no scratchpad. -/
@[simp] theorem sLoc_isM (f : BitVec 2) (i : BitVec 6) : (sLoc f i).isM = false := by
  unfold sLoc
  split
  · rfl
  · rfl
  · rfl
  · split <;> rfl

@[simp] theorem isM_g (i : Nat) : (Loc.g i).isM = false := rfl
@[simp] theorem isM_k (i : Nat) : (Loc.k i).isM = false := rfl

/-- A half none of whose operands are in scratchpad post-increments no pointer. -/
theorem bumps_nil (h : Half) (hl : ∀ l ∈ h.srcs.map (·.loc) ++ h.dests, l.isM = false) : h.bumps = [] := by
  rw [Half.bumps, List.filterMap_eq_nil_iff]
  intro l hm
  have := hl l hm
  cases l with
  | m i p => cases this
  | _ => rfl

/-! ### SHORT and LONG instructions (R14, R19, R69, R70) -/

/-- The operands of an instruction of the scalar class, none of them in scratchpad (R60). -/
def ScalarOperands (srcs : List Src) (d : Loc) : Prop := d.isM = false ∧ ∀ r ∈ srcs, r.loc.isM = false

/-- The machine runs the instruction as a SHORT half with the operands of its act and with the act's value as its result. -/
def RunsShort (i : Instr) (r : Act) : Prop :=
  ∃ (k : BitVec 3) (srcs : List Src) (d : Loc) (f : State → Who → List Word → Word) (value : State → List Word → Word),
    (∀ s, exec i s = run1 (shortHalf k srcs d f) s) ∧ r = short k.toNat srcs d value ∧ ScalarOperands srcs d ∧
      ∀ s xs, f s s.cur.who xs = value s xs

/-- The machine runs the instruction as a LONG half with the operands of its act and with the act's value as its result. -/
def RunsLong (i : Instr) (r : Act) : Prop :=
  ∃ (k : BitVec 3) (srcs : List Src) (d : Loc) (lo hi : Nat) (f : State → Who → List Word → Word) (value : List Word → Word),
    (∀ s, exec i s = run1 (longHalf k srcs d lo hi f) s) ∧ r = owed k.toNat srcs d lo hi value ∧ ScalarOperands srcs d ∧
      ∀ s w xs, f s w xs = value xs

theorem RunsShort.completes {i : Instr} {r : Act} {s : State} (h : RunsShort i r) (ha : s.Alone) (hd : r.Due s) :
    exec i s = .next (s.charged ((r.next s).settleStreams s.cur.who) (r.units s)) := by
  obtain ⟨k, srcs, d, f, value, hx, rfl, ⟨hdest, hsrc⟩, hv⟩ := h
  obtain ⟨hon, hr, hw, -, hmoves⟩ := hd
  have hb : (shortHalf k srcs d f).bumps = [] := bumps_nil _ (by simpa [shortHalf, or_imp, forall_and] using ⟨hsrc, hdest⟩)
  rw [hx, short_completes k srcs d f s (by rw [hb]; rfl) ha hon ⟨hr, hw, hmoves⟩, hv]
  rfl

theorem RunsLong.completes {i : Instr} {r : Act} {s : State} (h : RunsLong i r) (ha : s.Alone) (hd : r.Due s) :
    exec i s = .next (s.charged ((r.next s).settleStreams s.cur.who) (r.units s)) := by
  obtain ⟨k, srcs, d, lo, hi, f, value, hx, rfl, ⟨hdest, hsrc⟩, hv⟩ := h
  obtain ⟨hon, hr, hw, -, hfault, -, -, hwait, hacq⟩ := hd
  have hb : (longHalf k srcs d lo hi f).bumps = [] := bumps_nil _ (by simpa [longHalf, or_imp, forall_and] using ⟨hsrc, hdest⟩)
  rw [hx, long_completes k srcs d lo hi f s (by rw [hb]; rfl) ha hon hr hw hfault hwait (fun hq => hacq (by simp [hq])), hv]
  rfl

/-! ### The families of the tables -/

section Families
variable {i : Instr}

theorem RunsShort.of_value {k : BitVec 3} {srcs : List Src} {d : Loc} {f : State → Who → List Word → Word}
    {value : State → List Word → Word} (hx : ∀ s, exec i s = run1 (shortHalf k srcs d f) s) (ho : ScalarOperands srcs d)
    (hv : ∀ s xs, f s s.cur.who xs = value s xs) : RunsShort i (short k.toNat srcs d value) :=
  ⟨k, srcs, d, f, value, hx, rfl, ho, hv⟩

theorem operands_none (d : Nat) : ScalarOperands [] (.g d) := by simp [ScalarOperands]

theorem operands_a (t : LTail) : ScalarOperands [t.srcA] t.dst := by simp [ScalarOperands, LTail.srcA, LTail.dst]

theorem operands_ab (t : LTail) : ScalarOperands [t.srcA, t.srcB] t.dst := by
  simp [ScalarOperands, LTail.srcA, LTail.srcB, LTail.dst]

theorem operands_w (t : WTail) : ScalarOperands [t.srcA] (.g t.d.toNat) := by simp [ScalarOperands, WTail.srcA]

/-- R72. -/
theorem runsShort_binary (op : AluOp) (t : LTail) (hx : ∀ s, exec i s = run1 (hAlu op t) s) : RunsShort i (binary op t) :=
  .of_value hx (operands_ab t) fun _ _ => run_eq_two _ _ _ _

/-- R75. -/
theorem runsShort_unary (op : BitOp) (t : LTail) (hx : ∀ s, exec i s = run1 (hBits op t) s) : RunsShort i (unary op t) :=
  .of_value hx (operands_a t) fun _ _ => bits_eq_one _ _ _ _

/-- R80. -/
theorem runsShort_comparison (t : LTail) (hx : ∀ s, exec i s = run1 (hCmp t) s) : RunsShort i (comparison t) :=
  .of_value hx (operands_ab t) fun _ _ => cmp_result _ _ _ _ _

/-- R59, R78. -/
theorem runsShort_immediate (t : WTail) {f : State → Who → List Word → Word} {value : Word → Word}
    (hx : ∀ s, exec i s = run1 (shortHalf t.k [t.srcA] (.g t.d.toNat) f) s) (hv : ∀ s xs, f s s.cur.who xs = value (x0 xs)) :
    RunsShort i (immediate t value) :=
  .of_value hx (operands_w t) hv

/-- R74. -/
theorem runsLong_division (rem : Bool) (t : LTail) (hx : ∀ s, exec i s = run1 (hDivRem rem t) s) : RunsLong i (division rem t) :=
  ⟨_, _, _, _, _, _, _, hx, rfl, operands_ab t, fun _ _ _ => divRem_eq_quotient _ _ _ _ _⟩

end Families

theorem logiOp_eq_logic (n : Nat) : logiOp n = logic n := by
  match n with
  | 0 | 1 | 2 => rfl
  | n + 3 => simp [logiOp, logic]

theorem shiOp_eq_shifting (n : Nat) : shiOp n = shifting n := by
  match n with
  | 0 | 1 | 2 => rfl
  | n + 3 => simp [shiOp, shifting]

/-- R78: LOGI. -/
theorem logi_result (n : Nat) (w : Bool) (x y : Word) : atWidth w (AluOp.run (logiOp n)) x y = two (logic n) w x y := by
  rw [logiOp_eq_logic, run_eq_two]

/-- R78: SHI. -/
theorem shi_result (n : Nat) (w : Bool) (x y : Word) {c : Nat} (hc : c < width w) :
    atWidth w (fun x _ => AluOp.shift (shiOp n) x c) x y = shifted (shifting n) w x c := by
  rw [shiOp_eq_shifting, shift_eq_shifted _ _ _ _ hc]

/-- The count of a well-formed SHI is below its width (R78). -/
theorem shi_count (t : WTail) (h : wfWShi t = true) : fieldNat t.imm 0 6 < width (t.bit 2) := by
  simp only [wfWShi, Bool.and_eq_true, Bool.or_eq_true, decide_eq_true_eq, beq_iff_eq] at h
  obtain ⟨-, -, hlt, hw⟩ := h
  have hbit : t.bit 2 = decide (t.sub.toNat / 4 % 2 = 1) := Nat.testBit_eq_decide_div_mod_eq
  by_cases hb : t.sub.toNat / 4 % 2 = 1
  · have : t.imm.toNat < 32 := by omega
    simp [fieldNat, width, hbit, hb]; omega
  · simp [fieldNat, width, hbit, hb]; omega

/-- Every instruction of the SHORT table runs with its result (R72, R73, R75 to R84). -/
theorem scalarRule_runs {i : Instr} {r : Act} (hw : i.wf = true) (h : scalarRule i = some r) : RunsShort i r := by
  cases i with
  | add | addL | sub | subL | mul | mulL | and | andL | or | orL | xor | xorL | andn | andnL | shl | shlL | shr | shrL | sar | sarL
  | rot | rotL | min | minL | max | maxL | minu | minuL | maxu | maxuL =>
    cases h; exact runsShort_binary _ _ fun _ => rfl
  | clz | clzL | ctz | ctzL | popc | popcL | bswap | bswapL =>
    cases h; exact runsShort_unary _ _ fun _ => rfl
  | cmp | cmpL => cases h; exact runsShort_comparison _ fun _ => rfl
  | mov | movL => cases h; exact .of_value (fun _ => rfl) (operands_a _) fun _ _ => rfl
  | mulh | mulhL => cases h; exact .of_value (fun _ => rfl) (operands_ab _) fun _ _ => mulHigh_eq_high _ _ _
  | movi t => cases h; exact .of_value (k := 0) (fun _ => rfl) (operands_none _) fun _ _ => rfl
  | sel t =>
    cases h
    refine .of_value (k := 0) (fun _ => rfl) ?_ fun _ _ => rfl
    simp [ScalarOperands, LTail.srcA, LTail.srcB, LTail.dst]
  | addi t => cases h; exact runsShort_immediate t (fun _ => rfl) fun _ _ => run_eq_two _ _ _ _
  | logi t => cases h; exact runsShort_immediate t (fun _ => rfl) fun _ _ => logi_result _ _ _ _
  | shi t => cases h; exact runsShort_immediate t (fun _ => rfl) fun _ _ => shi_result _ _ _ _ (shi_count t hw)
  | cmpi t => cases h; exact runsShort_immediate t (fun _ => rfl) fun _ _ => cmp_result _ _ _ _ _
  | ext t => cases h; exact runsShort_immediate t (fun _ => rfl) fun _ _ => extract_eq_extracted _ _ _ _
  | ins t =>
    cases h
    refine .of_value (fun _ => rfl) ?_ fun _ _ => rfl
    simp [ScalarOperands, WTail.srcA]
  | lea t =>
    have hx : ∀ s, exec (.lea t) s = run1 (hLea t) s := fun _ => rfl
    unfold hLea at hx
    cases t with
    | l t => cases h; exact .of_value hx (operands_ab t) fun _ _ => lea_register _ _ _
    | w t => cases h; exact runsShort_immediate t hx fun _ _ => lea_immediate _ _ _
  | pget t => cases h; exact .of_value (fun _ => rfl) (operands_a t) fun _ _ => image_eq _
  | srd t => cases h; exact .of_value (fun _ => rfl) (operands_none _) fun _ _ => rfl
  | _ => cases h

/-- Every instruction of the LONG table runs with its result (R74). -/
theorem divisionRule_runs {i : Instr} {r : Act} (h : divisionRule i = some r) : RunsLong i r := by
  cases i with
  | div | divL | rem | remL => cases h; exact runsLong_division _ _ fun _ => rfl
  | _ => cases h

/-- Settles O1: every instruction of the two tables runs as a SHORT or LONG half that has the operands and the result of its act, and such
a half completes. -/
theorem scalarResult : Obligations.ScalarResult :=
  ⟨fun _ _ _ hrule hwf ha hd => (scalarRule_runs hwf hrule).completes ha hd,
    fun _ _ _ hrule _ ha hd => (divisionRule_runs hrule).completes ha hd⟩

end Sys2Proof.Claims
end

section
/-!
SUPPORT. The banker's check: the crews that the loop of R191 finds one by one, against the orders in which every crew finishes.
-/
namespace Sys2Proof.Machine

/-! ### Counts class by class (R185) -/

@[simp] theorem Counts.at_add (a b : Counts) (i : Nat) : (a.add b).at i = a.at i + b.at i := by
  simp only [Counts.add, Counts.ofFn, Counts.at]
  split <;> rfl

@[simp] theorem Counts.at_sub (a b : Counts) (i : Nat) : (a.sub b).at i = a.at i - b.at i := by
  simp only [Counts.sub, Counts.ofFn, Counts.at]
  split <;> rfl

theorem Counts.add_right_comm (a b c : Counts) : (a.add b).add c = (a.add c).add b := by
  simp [Counts.add, Counts.ofFn, Counts.at, Nat.add_right_comm]

theorem Counts.le_iff (a b : Counts) : a.le b = true ↔ ∀ i < 5, a.at i ≤ b.at i := by
  simp [Counts.le]

/-! ### Orders in which every crew finishes (R191) -/

/-- A crew with claim c.1 and allocation c.2 can reach its claim with the units at work (R191). -/
def CanFinish (work : Counts) (c : Counts × Counts) : Prop := ∀ i < 5, c.1.at i - c.2.at i ≤ work.at i

/-- The crews finish one after the other, each giving back what it holds (R191). -/
def FinishInOrder : Counts → List (Counts × Counts) → Prop
  | _, [] => True
  | work, c :: cs => CanFinish work c ∧ FinishInOrder (work.add c.2) cs

theorem le_sub_iff_canFinish (work : Counts) (c : Counts × Counts) :
    (c.1.sub c.2).le work = true ↔ CanFinish work c := by
  simp [Counts.le_iff, CanFinish]

/-- Units given back never keep a crew from finishing. -/
theorem CanFinish.add {work : Counts} {c : Counts × Counts} (h : CanFinish work c) (more : Counts) :
    CanFinish (work.add more) c := by
  intro i hi
  rw [Counts.at_add]
  exact (h i hi).trans (Nat.le_add_right _ _)

/-- What the loop of R191 may choose freely: a crew that can finish now may go first in any order that works. -/
theorem FinishInOrder.move_to_front {x : Counts × Counts} {after : List (Counts × Counts)} :
    ∀ {before : List (Counts × Counts)} {work : Counts}, CanFinish work x → FinishInOrder work (before ++ x :: after) →
      FinishInOrder work (x :: (before ++ after))
  | [], _, _, h => h
  | c :: before, work, hx, ⟨hc, h⟩ => by
    obtain ⟨-, hrest⟩ := move_to_front (before := before) (hx.add c.2) h
    rw [Counts.add_right_comm] at hrest
    exact ⟨hx, hc.add x.2, hrest⟩

/-- In such an order each crew has at work what was there at the start and what the crews before it held. -/
theorem finishInOrder_iff (order : List (Counts × Counts)) (work : Counts) :
    FinishInOrder work order ↔
      ∀ (before after : List (Counts × Counts)) (x : Counts × Counts), order = before ++ x :: after → ∀ i < 5,
        x.1.at i - x.2.at i ≤ work.at i + (before.map (fun y => y.2.at i)).sum := by
  induction order generalizing work with
  | nil => simp [FinishInOrder]
  | cons c cs ih =>
    rw [FinishInOrder, ih]
    constructor
    · rintro ⟨hc, hcs⟩ (_ | ⟨d, before⟩) after x horder i hi
      · obtain ⟨rfl, rfl⟩ := List.cons.inj horder
        exact hc i hi
      · obtain ⟨rfl, rfl⟩ := List.cons.inj horder
        simpa [Nat.add_assoc] using hcs before after x rfl i hi
    · refine fun h => ⟨h [] cs c rfl, fun before after x horder i hi => ?_⟩
      simpa [Nat.add_assoc] using h (c :: before) after x (congrArg (c :: ·) horder) i hi

/-! ### The loop of the check (R191) -/

/-- The loop stops short only where no crew that is left can finish. -/
theorem not_canFinish_of_takeFinisher_none {work : Counts} {cs : List (Counts × Counts)} (h : takeFinisher work cs = none) :
    ∀ c ∈ cs, ¬ CanFinish work c := by
  induction cs with
  | nil => simp
  | cons c cs ih =>
    rw [takeFinisher] at h
    split at h
    next => cases h
    next hle =>
      split at h
      next => cases h
      next hnone => exact List.forall_mem_cons.mpr ⟨mt (le_sub_iff_canFinish work c).mpr hle, ih hnone⟩

/-- The crew found can finish, and the others are left. -/
theorem takeFinisher_some {work : Counts} {cs rest : List (Counts × Counts)} {x : Counts × Counts}
    (h : takeFinisher work cs = some (x, rest)) : CanFinish work x ∧ cs.Perm (x :: rest) := by
  induction cs generalizing rest with
  | nil => cases h
  | cons c cs ih =>
    rw [takeFinisher] at h
    split at h
    next hle =>
      cases h
      exact ⟨(le_sub_iff_canFinish work c).mp hle, .refl _⟩
    next =>
      split at h
      next hsome =>
        cases h
        obtain ⟨hx, hperm⟩ := ih hsome
        exact ⟨hx, (hperm.cons c).trans (.swap _ _ _)⟩
      next => cases h

/-- With a round for every crew the loop takes them all exactly when some order of them works. -/
theorem allFinish_iff {n : Nat} {work : Counts} {cs : List (Counts × Counts)} (hn : cs.length ≤ n) :
    allFinish n work cs = true ↔ ∃ order : List (Counts × Counts), order.Perm cs ∧ FinishInOrder work order := by
  induction n, work, cs using allFinish.induct with
  | case1 n work => simp [allFinish, FinishInOrder]
  | case2 work cs hcs => exact absurd (List.eq_nil_of_length_eq_zero (Nat.le_zero.mp hn)) hcs
  | case3 n work cs hcs hnone =>
    simp only [allFinish, hnone, Bool.false_eq_true, false_iff]
    rintro ⟨_ | ⟨c, order⟩, hperm, hfin⟩
    · exact hcs hperm.nil_eq.symm
    · exact not_canFinish_of_takeFinisher_none hnone c (hperm.mem_iff.mp List.mem_cons_self) hfin.1
  | case4 n work cs hcs x rest hsome ih =>
    obtain ⟨hx, hcx⟩ := takeFinisher_some hsome
    have hlen : rest.length ≤ n := by simpa [hcx.length_eq] using hn
    simp only [allFinish, hsome, ih hlen]
    constructor
    · rintro ⟨order, hperm, hfin⟩
      exact ⟨x :: order, (hperm.cons x).trans hcx.symm, hx, hfin⟩
    · rintro ⟨order, hperm, hfin⟩
      obtain ⟨before, after, rfl⟩ := List.append_of_mem ((hperm.trans hcx).mem_iff.mpr List.mem_cons_self)
      obtain ⟨-, hrest⟩ := hfin.move_to_front hx
      exact ⟨before ++ after, (List.perm_middle.symm.trans (hperm.trans hcx)).cons_inv, hrest⟩

/-! ### The three outcomes (R191) -/

theorem Bank.check_of_short {b : Bank} {crew : Nat} {req : Counts} (h : ¬ req.le b.avail = true) : b.check crew req = 1 := by
  simp [Bank.check, h]

theorem Bank.check_of_available {b : Bank} {crew : Nat} {req : Counts} (h : req.le b.avail = true) :
    b.check crew req = if allFinish (b.grant crew req).crews.length ((b.avail.sub req).add b.quar)
      ((b.grant crew req).crews.map (·.2)) then 0 else 2 := by
  simp [Bank.check, h, Bank.grant]

theorem Bank.check_eq_one_iff (b : Bank) (crew : Nat) (req : Counts) :
    b.check crew req = 1 ↔ ∃ i < 5, b.avail.at i < req.at i := by
  have hshort : b.check crew req = 1 ↔ ¬ req.le b.avail = true := by
    by_cases h : req.le b.avail = true
    · rw [check_of_available h]
      split <;> simp [h]
    · simp [check_of_short h, h]
  simp [hshort, Counts.le_iff]

theorem Bank.check_eq_zero_iff (b : Bank) (crew : Nat) (req : Counts) :
    b.check crew req = 0 ↔ req.le b.avail = true ∧ ∃ order : List (Counts × Counts),
      order.Perm ((b.grant crew req).crews.map (·.2)) ∧ FinishInOrder ((b.avail.sub req).add b.quar) order := by
  rw [← allFinish_iff (n := (b.grant crew req).crews.length) (by simp)]
  by_cases h : req.le b.avail = true
  · simp [check_of_available h, h]
  · simp [check_of_short h, h]

theorem Bank.check_cases (b : Bank) (crew : Nat) (req : Counts) :
    b.check crew req = 0 ∨ b.check crew req = 1 ∨ b.check crew req = 2 := by
  by_cases h : req.le b.avail = true
  · rw [check_of_available h]
    split <;> simp
  · simp [check_of_short h]

end Sys2Proof.Machine

namespace Sys2Proof.Claims
open Sys2Proof.Machine

/-- Settles O16: a crew that can finish may go first in any order that works, so the loop of the check takes every crew exactly when
some order works. -/
theorem bankersCheck : Obligations.BankersCheck := by
  intro b crew req
  refine ⟨b.check_cases crew req, b.check_eq_one_iff crew req, ?_⟩
  simp only [Bank.check_eq_zero_iff, Counts.le_iff, finishInOrder_iff, Counts.at_add, Counts.at_sub]

end Sys2Proof.Claims
end
